-- ==== Sys2Proof/Word.lean ====
section
/-! DEFINITION. The words of the station's formats: bytes, and bit sequences as they stand on the peer link. -/

namespace Sys2Proof

/-- One byte of a feed record, a command or a delivery record (file 11). -/
abbrev Byte := BitVec 8

/-- Bits in the order they are sent on the peer link, the first sent first (R58). -/
abbrev Bits := List Bool

end Sys2Proof
end

