-- ==== Sys2Proof/Config.lean ====
section
/-! DEFINITION. What the manual leaves without a value. Both are opaque: no proof can see what they are. -/

namespace Sys2Proof

/-- The fixed pattern of the start delimiter (R57 names it and gives no value). Log entry 4. -/
opaque Config.startDelimiter : Byte

/-- The kind code echoed in the answer to a record of which no byte was received before the
end-of-record signal (R155 answers it and there is no kind code to echo). Log entry 5. -/
opaque Config.unreceivedKindEcho : Nat → Byte

end Sys2Proof
end

