-- ==== Sys2Proof/Syntax.lean ====
section
/-! DEFINITION. The commands: one constructor of `Instr` for each row of spec/opcode_table.json. The operands are
what the row's event brings from outside the station: the fields of a feed record or of a console command at the
widths file 11 gives them, the bits of a frame, the levels of the straps, what the transmitter senses of the line. -/

namespace Sys2Proof

/-- The part of a feed record that the form test looks at besides the body (R155): the body length byte, and how many
bytes came before the end-of-record signal. -/
structure RecordForm where
  lengthByte : Byte
  received   : Nat
  deriving DecidableEq, Repr

/-- A preamble as the receiver senses it (R56, R70): for how many bit times the line had been quiet before its first
symbol, and what its 16 symbols lasted, in picoseconds. -/
structure Preamble where
  quietBits : Nat
  duration  : Nat
  deriving DecidableEq, Repr

/-- A segment as written in a record: 6-byte raw anchor, 6-byte signed offset, 3-byte signed drift (R22, file 11). -/
structure SegmentField where
  anchor : BitVec 48
  offset : BitVec 48
  drift  : BitVec 24
  deriving DecidableEq, Repr

/-- The body of a STATION_SETTINGS record, 20 bytes (R147). -/
structure SettingsBody where
  expectedMask  : BitVec 16
  startTime     : BitVec 40
  lagLimit      : BitVec 16
  skipThreshold : BitVec 16
  skipLead      : BitVec 16
  chatterW      : BitVec 16
  chatterN      : Byte
  chatterQ      : BitVec 16
  follow        : Byte
  initialMask   : Byte
  deriving DecidableEq, Repr

/-- The body of a DECLARE_SOURCE record, 26 bytes (R10). -/
structure DeclareBody where
  source     : Byte
  startBound : BitVec 48
  quality    : Byte
  window     : BitVec 24
  segment    : SegmentField
  deriving DecidableEq, Repr

/-- The body of an ELEMENT record, 12 bytes (R148). -/
structure ElementBody where
  number       : Byte
  nodesPresent : Byte
  nodeA        : Byte
  nodeB        : Byte
  ownership    : Byte
  tie          : BitVec 16
  owner        : Byte
  initial      : Byte
  travelLimit  : BitVec 16
  chatter      : Byte
  deriving DecidableEq, Repr

/-- The body of a POINT record, 5 bytes (R13). -/
structure PointBody where
  source  : Byte
  point   : BitVec 16
  element : Byte
  invert  : Byte
  deriving DecidableEq, Repr

/-- The body of a SEGMENT record, 16 bytes (R24). -/
structure SegmentBody where
  source  : Byte
  segment : SegmentField
  deriving DecidableEq, Repr

/-- The body of an EVENT record, 14 bytes (EVENT RECORD BODY TABLE, file 11). -/
structure EventBody where
  source   : Byte
  sequence : BitVec 16
  raw      : BitVec 48
  point    : BitVec 16
  position : Byte
  cause    : Byte
  quality  : Byte
  deriving DecidableEq, Repr

/-- The body of a PROGRESS record, 7 bytes (R17). -/
structure ProgressBody where
  source : Byte
  bound  : BitVec 48
  deriving DecidableEq, Repr

/-- One console command as the command unit holds it from the end of its write until its reply is queued (R135):
its kind, its body length byte and its body (COMMAND KIND TABLE, file 11). -/
inductive Command where
  | start       (lengthByte : Byte)
  | hold        (lengthByte : Byte)
  | resume      (lengthByte : Byte)
  | step        (lengthByte : Byte)
  | setRate     (lengthByte : Byte) (rate : BitVec 32)
  | holdAt      (lengthByte : Byte) (time : BitVec 40)
  | skipOn      (lengthByte : Byte)
  | skipOff     (lengthByte : Byte)
  | watchSet    (lengthByte : Byte) (element kind : Byte)
  | watchClear  (lengthByte : Byte) (element : Byte)
  | excludePeer (lengthByte : Byte) (peer : Byte)
  | includePeer (lengthByte : Byte) (peer : Byte)
  | snapshot    (lengthByte : Byte)
  | status      (lengthByte : Byte)
  | skew        (lengthByte : Byte)
  | restart     (lengthByte : Byte) (broadcast : Byte)
  | clearFlags  (lengthByte : Byte) (flags : Byte)
  | mask        (lengthByte : Byte) (entries : Byte)
  | malformed   (kind : Byte)
  deriving DecidableEq, Repr

/-- The rows of spec/opcode_table.json, in the table's order.

A feed record row is the end of the record's write: the record is handed to the intake engine (R3). A console command
row is the end of the command's write (R135). -/
inductive Instr where
  /-- POWER_ON_RESET (R146). `straps`: the level of STRAP3..STRAP0. -/
  | powerOnReset (straps : BitVec 4)
  /-- FEED_WRITE_START (R3). -/
  | feedWriteStart
  /-- STATION_SETTINGS (R147). -/
  | stationSettings (form : RecordForm) (body : SettingsBody)
  /-- DECLARE_SOURCE (R10). -/
  | declareSource (form : RecordForm) (body : DeclareBody)
  /-- ELEMENT (R148). -/
  | element (form : RecordForm) (body : ElementBody)
  /-- POINT (R13). -/
  | point (form : RecordForm) (body : PointBody)
  /-- COMMIT (R149). -/
  | commit (form : RecordForm)
  /-- SEGMENT (R24). -/
  | segment (form : RecordForm) (body : SegmentBody)
  /-- EVENT: intake steps 1 to 7 (R7). -/
  | event (form : RecordForm) (body : EventBody)
  /-- PROGRESS (R17). -/
  | progress (form : RecordForm) (body : ProgressBody)
  /-- END_SOURCE (R18). -/
  | endSource (form : RecordForm) (source : Byte)
  /-- MERGE_ACT: intake steps 8 and 9 (R55). -/
  | mergeAct
  /-- COMMAND_WRITE_START (R135). -/
  | commandWriteStart
  /-- START (R99). -/
  | start (lengthByte : Byte)
  /-- HOLD (R100). -/
  | hold (lengthByte : Byte)
  /-- RESUME (R100). -/
  | resume (lengthByte : Byte)
  /-- STEP (R101). -/
  | step (lengthByte : Byte)
  /-- SET_RATE (R96). -/
  | setRate (lengthByte : Byte) (rate : BitVec 32)
  /-- HOLD_AT (R103). -/
  | holdAt (lengthByte : Byte) (time : BitVec 40)
  /-- SKIP_ON (R144). -/
  | skipOn (lengthByte : Byte)
  /-- SKIP_OFF (R144). -/
  | skipOff (lengthByte : Byte)
  /-- WATCH_SET (R142). -/
  | watchSet (lengthByte : Byte) (element kind : Byte)
  /-- WATCH_CLEAR (R143). -/
  | watchClear (lengthByte : Byte) (element : Byte)
  /-- EXCLUDE (R92). -/
  | excludePeer (lengthByte : Byte) (peer : Byte)
  /-- INCLUDE (R93). -/
  | includePeer (lengthByte : Byte) (peer : Byte)
  /-- SNAPSHOT (R122). -/
  | snapshot (lengthByte : Byte)
  /-- STATUS (R140). -/
  | status (lengthByte : Byte)
  /-- SKEW (R141). -/
  | skew (lengthByte : Byte)
  /-- RESTART (R151). -/
  | restart (lengthByte : Byte) (broadcast : Byte)
  /-- CLEAR_FLAGS (R138). -/
  | clearFlags (lengthByte : Byte) (flags : Byte)
  /-- MASK (R138). -/
  | mask (lengthByte : Byte) (entries : Byte)
  /-- CONSOLE_READY_ASSERT (R133). -/
  | consoleReadyAssert
  /-- CONSOLE_READY_WITHDRAW (R133). -/
  | consoleReadyWithdraw
  /-- DELIVERY_RECORD_BEGIN (R133). -/
  | deliveryRecordBegin
  /-- DELIVERY_RECORD_END (R133). -/
  | deliveryRecordEnd
  /-- HEARTBEAT (R60). -/
  | heartbeat
  /-- FRAME_BUILD (R62). `quietBits`: for how many bit times the line has been quiet. -/
  | frameBuild (quietBits : Nat)
  /-- COLLISION (R63). `bit`: the bit time of the frame, counted from 1 at the first preamble symbol, in which the
  symbol sensed differs from the symbol driven. -/
  | collision (bit : Nat)
  /-- TRANSMIT_ERROR (R65). `bit` as for COLLISION. -/
  | transmitError (bit : Nat)
  /-- FRAME_SENT_WHOLE (R66). -/
  | frameSentWhole
  /-- BACKOFF_DONE (R64). `quietBits`: the bit times of quiet line that the backoff count has now counted. -/
  | backoffDone (quietBits : Nat)
  /-- MUTE_EXPIRY (R67). -/
  | muteExpiry
  /-- SYNC_REJECT (R70). `preamble`: the preamble, with the quiet line before it; `delimiter`: the eight bits sampled
  after it. -/
  | syncReject (preamble : Preamble) (delimiter : Byte)
  /-- FRAME_RECEIVE (R71). `bits`: what the receiver sampled of the open frame, up to its last CRC bit or until the
  line fell quiet; `own`: the frame ended at the same bit time as a frame the own transmitter sent whole (R73). -/
  | frameReceive (bits : Bits) (own : Bool)
  /-- FRAME_PROCESSING (R81). `entries`: how many change entries are taken before other blocks' acts come between. -/
  | frameProcessing (entries : Nat)
  /-- PEER_SILENCE_TIMEOUT (R89). -/
  | peerSilenceTimeout (peer : BitVec 4)
  /-- RELEASE (R110). -/
  | release
  /-- RELEASE_RECORD_QUEUE (R121). -/
  | releaseRecordQueue
  /-- LATE_APPLY (R114). -/
  | lateApply
  /-- RELABEL_COMPUTED (R128). -/
  | relabelComputed
  /-- ISLANDS_EMIT (R129). -/
  | islandsEmit
  /-- SNAPSHOT_EMITTING (R122). -/
  | snapshotEmitting
  /-- ELEMENT_STATE (R123). -/
  | elementState
  /-- NODE_LABELS (R123). -/
  | nodeLabels
  /-- SKEW_RECORD (R141). -/
  | skewRecord
  /-- HOLD_STATE (R98). -/
  | holdState
  /-- COMPLETE_RECORD (R124). -/
  | completeRecord
  /-- CLOCK_ADVANCE (R95): one station time-base tick. -/
  | clockAdvance
  /-- STALL_TIMEOUT (R107). -/
  | stallTimeout
  /-- MALFORMED_FEED_RECORD (R155). `received`: the bytes received before the end-of-record signal. -/
  | malformedFeedRecord (kind : Byte) (received : Nat)
  /-- MALFORMED_COMMAND (R135). -/
  | malformedCommand (kind : Byte)
  /-- FRAME_OPENED (R70). Operands as for SYNC_REJECT. -/
  | frameOpened (preamble : Preamble) (delimiter : Byte)
  deriving DecidableEq, Repr

end Sys2Proof
end

