-- ==== Sys2Proof/Machine/Params.lean ====
section
/-! DEFINITION. The station's fixed numbers, each with the rule that states it. -/

namespace Sys2Proof.Machine

/-- END, 2^40 - 1: "no further items ever" (file 00, time conventions). -/
def endTime : Nat := 1099511627775
/-- The greatest corrected time, 2^40 - 2 (file 00). -/
def maxTime : Nat := 1099511627774
/-- The bound of a counter of 32 bits (R12) and of an intake ordinal (R16). -/
def max32 : Nat := 4294967295
/-- The bound of a counter of 16 bits (R35, R74, R79, R111, R139). -/
def max16 : Nat := 65535
/-- Modulus of station time, a count of 48 bits (R139). -/
def timeModulus : Nat := 281474976710656
/-- Entries of the Pending Queue (R38). -/
def pendingCapacity : Nat := 4096
/-- The last free entries, kept for laggard events (R20). -/
def reserveSize : Nat := 256
/-- Copies in the outgoing change set (R40, R78). -/
def outgoingCapacity : Nat := 64
/-- Entries of the Remote Change List (R86). -/
def remoteCapacity : Nat := 512
/-- Entries of the Timer List (R119). -/
def timerCapacity : Nat := 512
/-- Entries of the point map (R13). -/
def pointCapacity : Nat := 2048
/-- Records in the delivery queue (R134). -/
def deliveryCapacity : Nat := 64
/-- Delivery entries kept for command replies (R134). -/
def replyReserve : Nat := 4
/-- Elements on the watch list (R142). -/
def watchCapacity : Nat := 16
/-- Receive buffers (R72). -/
def bufferCount : Nat := 2
/-- Change entries in one frame (R57). -/
def frameEntries : Nat := 8
/-- The quiet gap in bit times (R56). -/
def quietGap : Nat := 12
/-- Frame spacing, 50 µs (R61). -/
def frameSpacing : Nat := 50
/-- Heartbeat interval, 10 ms (R60). -/
def heartbeatInterval : Nat := 10000
/-- A peer's silence, 40 ms (R89). -/
def silenceLimit : Nat := 40000
/-- The timed mute, 200 ms (R67). -/
def muteTime : Nat := 200000
/-- Consecutive failures that mute the transmitter (R67). -/
def failureLimit : Nat := 16
/-- The last bit time in which a mismatch is a collision: 16 preamble, 8 delimiter and 40 further bits (R63). -/
def collisionWindow : Nat := 64
/-- Stall detection, 100 ms (R107). -/
def stallLimit : Nat := 100000
/-- The source number of a travel timer's key (R2). -/
def travelSource : Nat := 32
/-- The source number of a quiet timer's key (R2). -/
def quietSource : Nat := 33
/-- The greatest rate word (R94). -/
def maxRate : Nat := 16777215
/-- Real time as a rate word (R94). -/
def realTimeRate : Nat := 65536
/-- The greatest magnitude of the correction's difference, 2^40 - 1 (R26). -/
def maxDifference : Int := 1099511627775
/-- The greatest magnitude of a drift, in ppb (R22). -/
def maxDrift : Int := 500000
/-- The greatest duplicate window, in µs (R10). -/
def maxWindow : Nat := 1000000
/-- The greatest magnitude of a skew sample, 2^31 - 1 (R34). -/
def maxSample : Int := 2147483647
/-- The greatest magnitude of the sum of the skew samples, 2^47 - 1 (R35). -/
def maxSkewSum : Int := 140737488355327

/-- The mean bit period over the 16 preamble symbols lies within 0.095 µs to 0.105 µs (R70). -/
def preambleInRate (preamble : Nat) : Bool :=
  16 * 95000 ≤ preamble && preamble ≤ 16 * 105000

/-- A preamble that opens a frame (R70): the period is in range and the start delimiter follows. -/
def preambleOpens (preamble : Nat) (delimiter : Byte) : Bool :=
  preambleInRate preamble && decide (delimiter = Config.startDelimiter)

/-- The bits of the longest frame after its start delimiter: header, eight change entries and CRC (R57). -/
def longestFrameBits : Nat := 72 + 104 * 8 + 32

end Sys2Proof.Machine
end

