-- ==== Sys2Proof/WellFormed.lean ====
section
/-! DEFINITION. Which commands are well formed: those whose operands can stand with the row's event. A record or a
command whose form test fails is still well formed: the station receives it and refuses it (R155, R135). -/

namespace Sys2Proof

open Machine

/-- The checks on a command's operands. -/
def Instr.wellFormed : Instr → Bool
  | .malformedFeedRecord kind received => received == 0 || kind.toNat == 0 || 9 < kind.toNat
  | .malformedCommand kind => kind.toNat == 0 || 18 < kind.toNat
  | .collision bit => 1 ≤ bit && bit ≤ collisionWindow
  | .transmitError bit => collisionWindow < bit && bit ≤ 24 + longestFrameBits
  | .frameReceive bits _ => bits.length ≤ longestFrameBits
  | .syncReject p delimiter => decide (quietGap ≤ p.quietBits) && !preambleOpens p.duration delimiter
  | .frameOpened p delimiter => decide (quietGap ≤ p.quietBits) && preambleOpens p.duration delimiter
  | .powerOnReset _ => true
  | .feedWriteStart => true
  | .stationSettings _ _ => true
  | .declareSource _ _ => true
  | .element _ _ => true
  | .point _ _ => true
  | .commit _ => true
  | .segment _ _ => true
  | .event _ _ => true
  | .progress _ _ => true
  | .endSource _ _ => true
  | .mergeAct => true
  | .commandWriteStart => true
  | .start _ => true
  | .hold _ => true
  | .resume _ => true
  | .step _ => true
  | .setRate _ _ => true
  | .holdAt _ _ => true
  | .skipOn _ => true
  | .skipOff _ => true
  | .watchSet _ _ _ => true
  | .watchClear _ _ => true
  | .excludePeer _ _ => true
  | .includePeer _ _ => true
  | .snapshot _ => true
  | .status _ => true
  | .skew _ => true
  | .restart _ _ => true
  | .clearFlags _ _ => true
  | .mask _ _ => true
  | .consoleReadyAssert => true
  | .consoleReadyWithdraw => true
  | .deliveryRecordBegin => true
  | .deliveryRecordEnd => true
  | .heartbeat => true
  | .frameBuild _ => true
  | .frameSentWhole => true
  | .backoffDone _ => true
  | .muteExpiry => true
  | .frameProcessing _ => true
  | .peerSilenceTimeout _ => true
  | .release => true
  | .releaseRecordQueue => true
  | .lateApply => true
  | .relabelComputed => true
  | .islandsEmit => true
  | .snapshotEmitting => true
  | .elementState => true
  | .nodeLabels => true
  | .skewRecord => true
  | .holdState => true
  | .completeRecord => true
  | .clockAdvance => true
  | .stallTimeout => true

end Sys2Proof
end

