-- ==== Sys2Proof/Decode.lean ====
section
/-! DEFINITION. The command that a word spells by the bits of spec/opcode_table.json. -/

namespace Sys2Proof

/-- No row of the opcode table gives bits (every row's "fields" is empty), so no word spells a command.
The byte layouts of file 11 are read and written in Sys2Proof/Machine/Layout.lean. Log entry 2. -/
def decodeTableWord (_nbits _w : Nat) : Option Instr := none

end Sys2Proof
end

