-- ==== Sys2Proof/Machine/State.lean ====
section
/-! DEFINITION. The state of one station, block by block, and its values after power-on reset.

Times, counts and numbers are natural numbers with the ranges the rules give them; what the manual treats as a set of
names is an inductive type. The rule that names a piece of state stands in its docstring. -/

namespace Sys2Proof.Machine

/-! ## Names -/

/-- POSITION CODE TABLE (file 11), R111. -/
inductive Position where
  | opened | closed | intermediate | bad | unknown
  deriving DecidableEq, Repr

/-- The five station states (R145). -/
inductive StationState where
  | unconfigured | loading | ready | replaying | complete
  deriving DecidableEq, Repr

/-- The station state as a frame carries it (STATE CODE TABLE, file 11). -/
inductive SenderState where
  | ready | replaying | complete
  deriving DecidableEq, Repr

/-- The states of a source record (R9). -/
inductive SourceState where
  | undeclared | declared | opened | live | ended
  deriving DecidableEq, Repr

/-- The states of a peer entry (R80). -/
inductive PeerState where
  | notExpected | awaited | active | silent | desync | foreignEpoch | excluded | ended
  deriving DecidableEq, Repr

/-- A release key (R2): corrected time, origin station, source number, intake ordinal. -/
structure Key where
  time    : Nat
  origin  : Nat
  source  : Nat
  ordinal : Nat
  deriving DecidableEq, Repr

/-! ## Feed port, source table, point map -/

/-- ANSWER CODE TABLE (R4). -/
inductive AnswerCode where
  | taken | merged | discarded | deferred | refused
  deriving DecidableEq, Repr

/-- The reasons of an answer (ANSWER CODE ENCODING TABLE, file 11). -/
inductive AnswerReason where
  | repeated | unmapped | sourceEnded | undeclared | restarted | reserve | full | outgoingFull
  | wrongState | outOfRange | conflict | malformed | staleSegment
  deriving DecidableEq, Repr

/-- One answer of the feed port (R4). -/
structure Answer where
  kind    : Byte
  code    : AnswerCode
  reason  : Option AnswerReason
  laggard : Option Nat
  deriving DecidableEq, Repr

/-- A correction segment (R22). -/
structure Segment where
  anchor : Nat
  offset : Int
  drift  : Int
  deriving DecidableEq, Repr

/-- The seven counters of a source (R12). -/
structure SourceCounters where
  taken    : Nat
  merged   : Nat
  pending  : Nat
  released : Nat
  repeated : Nat
  unmapped : Nat
  deferred : Nat
  deriving DecidableEq, Repr

/-- The skew statistics of a source (R35). -/
structure SkewStats where
  count   : Nat
  minimum : Int
  maximum : Int
  sum     : Int
  deriving DecidableEq, Repr

/-- A source record (R8). The first segment is kept from the declaration; `nextOrdinal = none` is "exhausted". -/
structure Source where
  state        : SourceState
  startBound   : Option Nat
  quality      : Option Nat
  window       : Option Nat
  firstSegment : Option Segment
  current      : Option Segment
  next         : Option Segment
  expectedSeq  : Nat
  lastRaw      : Option Nat
  watermark    : Option Nat
  nextOrdinal  : Option Nat
  counters     : SourceCounters
  skew         : SkewStats
  deriving DecidableEq, Repr

/-- A point map entry (R13). -/
structure PointEntry where
  source  : Nat
  point   : Nat
  element : Nat
  invert  : Bool
  deriving DecidableEq, Repr

/-- An EVENT in intake after step 7: what steps 8 and 9 need (R7, R21). `gap` is the GAP flag with its count; `tie` is
the tie number of a LOCAL_TIE element found at step 2. -/
structure Intake where
  key       : Key
  element   : Nat
  tie       : Option Nat
  position  : Position
  cause     : Nat
  quality   : Nat
  raw       : Nat
  sequence  : Nat
  gap       : Option Nat
  clamped   : Bool
  reordered : Bool
  deriving DecidableEq, Repr

/-- The two states of the feed port (R3). -/
inductive PortState where
  | ready | busy
  deriving DecidableEq, Repr

/-- The feed port (R3): its state, the answer placed last, and the EVENT between intake steps 7 and 8. A BUSY port
with no intake in flight is taking a record's write. -/
structure FeedPort where
  port   : PortState
  answer : Option Answer
  intake : Option Intake
  deriving DecidableEq, Repr

/-! ## Lists -/

/-- A Pending Queue entry (R37). The four first fields of the table are the key. -/
structure PendingEntry where
  key           : Key
  element       : Nat
  position      : Position
  cause         : Nat
  quality       : Nat
  raw           : Nat
  sequence      : Nat
  gap           : Option Nat
  clamped       : Bool
  reordered     : Bool
  replaced      : Bool
  boundary      : Bool
  announced     : Bool
  confirmations : Nat
  deriving DecidableEq, Repr

/-- An outgoing copy (R40, R41). -/
structure OutgoingCopy where
  key      : Key
  tie      : Nat
  position : Position
  cause    : Nat
  quality  : Nat
  carried  : Bool
  held     : Bool
  deriving DecidableEq, Repr

/-- A Remote Change List entry (R86). -/
structure RemoteEntry where
  key      : Key
  element  : Nat
  tie      : Nat
  position : Position
  cause    : Nat
  quality  : Nat
  deriving DecidableEq, Repr

/-! ## Element table, release engine, island unit -/

/-- The ownership of an element (R111). -/
inductive Ownership where
  | localOnly
  | localTie (tie : Nat)
  | mirror (tie owner : Nat)
  deriving DecidableEq, Repr

/-- The watch mark of an element (R111, R142). -/
inductive WatchMark where
  | none | localMark | broadcast
  deriving DecidableEq, Repr

/-- NORMAL or CHATTERING (R111). -/
inductive ChatterState where
  | normal | chattering
  deriving DecidableEq, Repr

/-- An element's last release (R111). -/
structure LastRelease where
  time     : Nat
  source   : Nat
  position : Position
  deriving DecidableEq, Repr

/-- An element record (R111). `nodes = none`: nodes absent. -/
structure Element where
  nodes         : Option (Nat × Nat)
  ownership     : Ownership
  initial       : Position
  current       : Position
  travelLimit   : Nat
  travelStart   : Option Nat
  stuck         : Bool
  chatterEnable : Bool
  chatter       : ChatterState
  windowStart   : Option Nat
  windowCount   : Nat
  suppressed    : Nat
  lastRelease   : Option LastRelease
  watch         : WatchMark
  deriving DecidableEq, Repr

/-- Anything held for release (file 00): an own event, a remote change, or a timer (its key is all of it, R119). -/
inductive Item where
  | own (e : PendingEntry)
  | remote (r : RemoteEntry)
  | timer (k : Key)
  deriving DecidableEq, Repr

/-- What started a relabel (R127). -/
inductive RelabelCause where
  | commit
  | restart
  | item (k : Key)
  | late (k : Key)
  deriving DecidableEq, Repr

/-- The stage of a relabel (R128); in EMITTING with what the COMPUTING stage left for the ISLANDS record (R129): the
changed nodes with old and new label, and the two counts. -/
inductive RelabelStage where
  | computing
  | emitting (changes : List (Nat × Nat × Nat)) (islandCount uncertainCount : Nat)
  deriving DecidableEq, Repr

/-- A relabel in flight (R125). -/
structure Relabel where
  cause : RelabelCause
  stage : RelabelStage
  deriving DecidableEq, Repr

/-- The island unit (R125). -/
structure IslandUnit where
  labels         : Vector Nat 128
  islandCount    : Nat
  uncertainCount : Nat
  relabel        : Option Relabel
  deriving DecidableEq, Repr

/-- The snapshot state with the next element to emit (R108). -/
inductive SnapshotState where
  | none
  | waiting
  | emitting (next : Nat)
  deriving DecidableEq, Repr

/-! ## Link -/

/-- A change entry of a frame (CHANGE ENTRY TABLE, file 11). -/
structure ChangeEntry where
  time     : Nat
  source   : Nat
  ordinal  : Nat
  tie      : Nat
  position : Position
  cause    : Nat
  quality  : Nat
  carried  : Bool
  deriving DecidableEq, Repr

/-- An announcement frame (FRAME HEADER TABLE, file 11; R57). Its change count is the length of `changes`. -/
structure Frame where
  sender      : Nat
  epoch       : Nat
  sequence    : Nat
  senderState : SenderState
  horizon     : Nat
  hold        : Bool
  restart     : Bool
  changes     : List ChangeEntry
  deriving DecidableEq, Repr

/-- The transmitter's state (R59). SENDING holds the frame on the line, BACKOFF its count (R64), MUTED the remaining
time of a timed mute in µs, or none for a mute with no expiry. -/
inductive TxState where
  | idle
  | waiting
  | sending (f : Frame)
  | backoff (count : Nat)
  | muted (expiry : Option Nat)
  deriving DecidableEq, Repr

/-- The content of the last frame sent whole (R59). -/
structure SentContent where
  horizon     : Nat
  hold        : Bool
  restart     : Bool
  senderState : SenderState
  deriving DecidableEq, Repr

/-- The link transmitter (R59). -/
structure Transmitter where
  state    : TxState
  sequence : Nat
  failures : Nat
  lastSent : Option SentContent
  lastEnd  : Option Nat
  deriving DecidableEq, Repr

/-- What the receiver does with the line (R70, R71): it searches, waits for the line to fall quiet before it searches
again, or samples an open frame at the period measured over its preamble. -/
inductive RxPhase where
  | searching
  | awaitQuiet
  | sampling (preamble : Nat)
  deriving DecidableEq, Repr

/-- The link receiver (R70 to R74). The buffers stand in the order they were completed; the frame in processing is the
first of them (R72). -/
structure Receiver where
  phase    : RxPhase
  buffers  : List Frame
  good     : Nat
  sync     : Nat
  crc      : Nat
  overrun  : Nat
  deriving DecidableEq, Repr

/-- A peer entry (R79). `silence` is the silence timer in µs of station time, or stopped. -/
structure Peer where
  state       : PeerState
  horizon     : Nat
  hold        : Bool
  senderState : Option SenderState
  lastEpoch   : Nat
  expectedSeq : Option Nat
  silence     : Option Nat
  discarded   : Nat
  frames      : Nat
  changes     : Nat
  errors      : Nat
  deriving DecidableEq, Repr

/-- A frame processing in flight (R81): the frame, the change entries still to be taken, whether its sender was
EXCLUDED at the start (R92), and a LATE change handed over and not yet taken by the apply step (R85). -/
structure Processing where
  frame     : Frame
  remaining : List ChangeEntry
  tracked   : Bool
  handOver  : Option RemoteEntry
  deriving DecidableEq, Repr

/-- The limiting cause (R91). -/
inductive LimitingCause where
  | none
  | source (n : Nat)
  | peer (n : Nat)
  deriving DecidableEq, Repr

/-- The horizon unit (R76). -/
structure HorizonUnit where
  lw           : Nat
  ownAnnounced : Option Nat
  safeTime     : Nat
  limiting     : LimitingCause
  deriving DecidableEq, Repr

/-! ## Replay clock -/

/-- The hold cause set (R97). -/
structure HoldCauses where
  startPending : Bool
  localHold    : Bool
  step         : Bool
  brk          : Bool
  peer         : Bool
  lag          : Bool
  deriving DecidableEq, Repr

/-- RUNNING or HELD (R94). -/
inductive HoldState where
  | running | held
  deriving DecidableEq, Repr

/-- The replay clock (R94). `stallTimer` counts µs of station time, or is stopped. -/
structure Clock where
  integer        : Nat
  fraction       : Nat
  rate           : Nat
  causes         : HoldCauses
  broadcastBreak : Bool
  stepArmed      : Bool
  holdAt         : Option Nat
  skipEnable     : Bool
  stallTimer     : Option Nat
  stall          : Bool
  reported       : HoldState
  deriving DecidableEq, Repr

/-! ## Attention unit -/

/-- The six attention flags, or the six entries of the mask (true: unmasked) (R137, R138). -/
structure AttentionFlags where
  brk      : Bool
  complete : Bool
  stall    : Bool
  error    : Bool
  lag      : Bool
  link     : Bool
  deriving DecidableEq, Repr

/-- ERROR KIND TABLE (R139). -/
inductive ErrorKind where
  | unmapped | repeated | gap | reordered | clamped | feedProto | consoleProto | sync | crc | rxOverrun
  | frameGap | dupStation | remoteOverflow | tieConflict | horizonBackstep | lateRemote | muted
  deriving DecidableEq, Repr

/-- An error as the capture holds it (R139): the subject is a source, peer or element number, as the kind gives. -/
structure ErrorReport where
  kind    : ErrorKind
  subject : Option Nat
  time    : Nat
  deriving DecidableEq, Repr

/-- The error capture (R139), with the kind of the most recent later error (R157). -/
structure ErrorCapture where
  first      : Option ErrorReport
  later      : Nat
  latestKind : Option ErrorKind
  deriving DecidableEq, Repr

/-- The attention unit (R137 to R139). -/
structure Attention where
  flags         : AttentionFlags
  mask          : AttentionFlags
  linkCondition : Bool
  capture       : ErrorCapture
  deriving DecidableEq, Repr

/-! ## Station and settings -/

/-- The ten station settings (R147). -/
structure Settings where
  expectedMask  : BitVec 16
  startTime     : Nat
  lagLimit      : Nat
  skipThreshold : Nat
  skipLead      : Nat
  chatterW      : Nat
  chatterN      : Nat
  chatterQ      : Nat
  follow        : Bool
  initialMask   : AttentionFlags
  deriving DecidableEq, Repr

/-- The station: number (R146), state (R145), epoch (R151), station time (R139), restart request (R151). -/
structure Station where
  number         : Nat
  state          : StationState
  epoch          : Nat
  time           : Nat
  restartRequest : Bool
  deriving DecidableEq, Repr

/-! ## Delivery records -/

/-- What an EVENT delivery record carries (R121). -/
structure EventRecord where
  key           : Key
  element       : Nat
  position      : Position
  previous      : Position
  cause         : Nat
  quality       : Nat
  raw           : Nat
  sequence      : Nat
  confirmations : Nat
  gap           : Option Nat
  clamped       : Bool
  reordered     : Bool
  replaced      : Bool
  boundary      : Bool
  noChange      : Bool
  chatterStart  : Bool
  lateTravel    : Bool
  travelTime    : Option Nat
  deriving DecidableEq, Repr

/-- What a REMOTE delivery record carries (R121). -/
structure RemoteRecord where
  key      : Key
  element  : Nat
  tie      : Nat
  position : Position
  previous : Position
  cause    : Nat
  quality  : Nat
  noChange : Bool
  late     : Bool
  deriving DecidableEq, Repr

/-- What an ISLANDS record carries (R129). -/
structure IslandsRecord where
  cause          : RelabelCause
  clock          : Nat
  islandCount    : Nat
  uncertainCount : Nat
  changes        : List (Nat × Nat × Nat)
  deriving DecidableEq, Repr

/-- The cause of a restart (R151, R152), with the broadcast option of a command or the sender of the frame followed. -/
inductive RestartCause where
  | command (broadcast : Bool)
  | peer (sender : Nat)
  deriving DecidableEq, Repr

/-- The reasons of a REFUSED reply (R136). -/
inductive RefuseReason where
  | wrongState | notHeld | busy | full | notNow | notApplicable | outOfRange | malformed
  deriving DecidableEq, Repr

/-- A reply record (R136): `reason = none` is ACCEPTED. -/
structure Reply where
  kind        : Byte
  reason      : Option RefuseReason
  rateClamped : Bool
  flags       : AttentionFlags
  deriving DecidableEq, Repr

/-- A peer entry as STATUS reports it (R140). -/
structure PeerStatus where
  state       : PeerState
  horizon     : Nat
  hold        : Bool
  senderState : Option SenderState
  lastEpoch   : Nat
  frames      : Nat
  changes     : Nat
  errors      : Nat
  deriving DecidableEq, Repr

/-- A STATUS record (R140, STATUS RECORD TABLE). -/
structure StatusRecord where
  number            : Nat
  state             : StationState
  epoch             : Nat
  clock             : Nat
  fraction          : Nat
  rate              : Nat
  causes            : HoldCauses
  stepArmed         : Bool
  holdAt            : Option Nat
  skipEnable        : Bool
  stall             : Bool
  safeTime          : Nat
  limiting          : LimitingCause
  lw                : Nat
  ownAnnounced      : Option Nat
  releasePoint      : Option Key
  pendingOccupancy  : Nat
  remoteOccupancy   : Nat
  timerOccupancy    : Nat
  outgoingOccupancy : Nat
  deliveryOccupancy : Nat
  releaseInFlight   : Bool
  applyInFlight     : Bool
  relabelInFlight   : Bool
  snapshot          : SnapshotState
  transmitter       : TxState
  failures          : Nat
  good              : Nat
  sync              : Nat
  crc               : Nat
  overrun           : Nat
  peers             : List PeerStatus
  flags             : AttentionFlags
  mask              : AttentionFlags
  highest           : Nat
  capture           : ErrorCapture
  deriving DecidableEq, Repr

/-- What a SKEW record carries (R141). -/
structure SkewRecord where
  source    : Nat
  state     : SourceState
  quality   : Option Nat
  watermark : Option Nat
  counters  : SourceCounters
  skew      : SkewStats
  deriving DecidableEq, Repr

/-- The body of a delivery record (DELIVERY KIND TABLE, file 11). -/
inductive RecordBody where
  | event (r : EventRecord)
  | remote (r : RemoteRecord)
  | stuck (element time : Nat) (travelStart : Option Nat)
  | chatterEnd (element time suppressed : Nat) (position : Position)
  | islands (r : IslandsRecord)
  | mark (element : Nat) (key : Key) (kind : WatchMark)
  | holdState (causes : HoldCauses) (clock : Nat)
  | complete (epoch : Nat) (releasePoint : Option Key) (clock : Nat)
  | restarted (cause : RestartCause) (previous new startTime : Nat)
  | reply (r : Reply)
  | status (r : StatusRecord)
  | skew (r : SkewRecord)
  | elementState (number : Nat) (e : Element)
  | nodeLabels (labels : Vector Nat 128) (islandCount uncertainCount : Nat)
  deriving DecidableEq, Repr

/-- A delivery record with the epoch of its header (R157). -/
structure DeliveryRecord where
  epoch : Nat
  body  : RecordBody
  deriving DecidableEq, Repr

/-- A release in flight (R110): the item; its own record while it is not queued (R121); and the MARK while it is owed
(R120). The relabel it started, if any, is the island unit's. -/
structure ReleaseInFlight where
  item       : Item
  record     : Option RecordBody
  mark       : Option WatchMark
  deriving DecidableEq, Repr

/-- The release engine (R108), and the COMPLETE record while it is owed (R124). -/
structure ReleaseEngine where
  inFlight      : Option ReleaseInFlight
  releasePoint  : Option Key
  apply         : Option RemoteEntry
  snapshot      : SnapshotState
  completeOwed  : Bool
  deriving DecidableEq, Repr

/-- The delivery queue, its sender and the console's ready signal (R133, R134). -/
structure Delivery where
  queue   : List DeliveryRecord
  sending : Option DeliveryRecord
  ready   : Bool
  deriving DecidableEq, Repr

/-- The command unit (R135, R141): whether a command's write that it takes is under way, the command in flight, and
the next source number of a SKEW emission. -/
structure CommandUnit where
  writing  : Bool
  inFlight : Option Command
  skew     : Option Nat
  deriving DecidableEq, Repr

/-! ## The station -/

/-- The state of one station, with the model's own two fields: `freeCount` numbers the free values taken from
`Config.unreceivedKindEcho`, and `pending` is the queue of commands waiting, first in first out. -/
structure State where
  station      : Station
  settings     : Settings
  feed         : FeedPort
  sources      : Vector Source 32
  points       : List PointEntry
  elements     : Vector (Option Element) 256
  pendingQueue : List PendingEntry
  outgoing     : List OutgoingCopy
  remotes      : List RemoteEntry
  timers       : List Key
  engine       : ReleaseEngine
  islands      : IslandUnit
  peers        : Vector Peer 16
  processing   : Option Processing
  horizon      : HorizonUnit
  clock        : Clock
  tx           : Transmitter
  rx           : Receiver
  delivery     : Delivery
  console      : CommandUnit
  attention    : Attention
  freeCount    : Nat
  pending      : List Instr
  deriving DecidableEq, Repr

/-- The ways a step can stop with a fault. There is none: every event of the manual leaves the station in a next
state. (Safe: nothing raises it.) -/
inductive Fault where
  deriving DecidableEq, Repr

/-- The ways a step can be refused. -/
inductive Refusal where
  /-- Raised by an arm of `exec` for a command that has no meaning yet; safe, since the model then says nothing. -/
  | notModelled (mnemonic : String)
  deriving DecidableEq, Repr

/-! ## Values after power-on reset -/

/-- No flag set; as a mask, all masked (R137, R138). -/
def AttentionFlags.clear : AttentionFlags := ⟨false, false, false, false, false, false⟩

/-- The empty hold cause set. -/
def HoldCauses.empty : HoldCauses := ⟨false, false, false, false, false, false⟩

/-- All counters 0 (R12). -/
def SourceCounters.zero : SourceCounters := ⟨0, 0, 0, 0, 0, 0, 0⟩

/-- All statistics 0 (R35). -/
def SkewStats.zero : SkewStats := ⟨0, 0, 0, 0⟩

/-- A source record after power-on reset (R8). -/
def Source.powerOn : Source where
  state := .undeclared
  startBound := none
  quality := none
  window := none
  firstSegment := none
  current := none
  next := none
  expectedSeq := 0
  lastRaw := none
  watermark := none
  nextOrdinal := some 0
  counters := SourceCounters.zero
  skew := SkewStats.zero

/-- A peer entry after power-on reset (R79). -/
def Peer.powerOn : Peer where
  state := .notExpected
  horizon := 0
  hold := false
  senderState := none
  lastEpoch := 0
  expectedSeq := none
  silence := none
  discarded := 0
  frames := 0
  changes := 0
  errors := 0

/-- The default settings (R147). -/
def Settings.default : Settings where
  expectedMask := 0
  startTime := 0
  lagLimit := 10
  skipThreshold := 1000
  skipLead := 10
  chatterW := 1000
  chatterN := 8
  chatterQ := 5000
  follow := true
  initialMask := AttentionFlags.clear

/-- The replay clock after power-on reset (R94). -/
def Clock.powerOn : Clock where
  integer := 0
  fraction := 0
  rate := 65536
  causes := HoldCauses.empty
  broadcastBreak := false
  stepArmed := false
  holdAt := none
  skipEnable := false
  stallTimer := none
  stall := false
  reported := .running

/-- Every node's label its own number (R125). -/
def ownLabels : Vector Nat 128 := Vector.ofFn fun i => i.val

/-- The station after power-on reset with its straps at number `n` (R146 and the table at the end of file 10). -/
def State.powerOn (n : Nat) : State where
  station := ⟨n, .unconfigured, 0, 0, false⟩
  settings := Settings.default
  feed := ⟨.ready, none, none⟩
  sources := Vector.replicate 32 Source.powerOn
  points := []
  elements := Vector.replicate 256 none
  pendingQueue := []
  outgoing := []
  remotes := []
  timers := []
  engine := ⟨none, none, none, .none, false⟩
  islands := ⟨ownLabels, 0, 0, none⟩
  peers := Vector.replicate 16 Peer.powerOn
  processing := none
  horizon := ⟨0, none, 0, .none⟩
  clock := Clock.powerOn
  tx := ⟨.idle, 0, 0, none, none⟩
  rx := ⟨.searching, [], 0, 0, 0, 0⟩
  delivery := ⟨[], none, false⟩
  console := ⟨false, none, none⟩
  attention := ⟨AttentionFlags.clear, AttentionFlags.clear, false, ⟨none, 0, none⟩⟩
  freeCount := 0
  pending := []

/-- The machine right after reset: straps at 0 (log entry 3), ready withdrawn (log entry 6), no command waiting. -/
def State.reset : State := State.powerOn 0

end Sys2Proof.Machine
end

