-- ==== Sys2Proof/Machine/Ops.lean ====
section
/-! DEFINITION. The operations that several blocks share: release keys and ordered lists, access to the tables, counters
that saturate, the error capture, the delivery queue and the answers of the feed port. -/

namespace Sys2Proof.Machine

/-! ## Counters and station time -/

/-- A counter that rises by 1 and stops at `cap` (file 00: a counter said to saturate does not wrap). -/
def satSucc (cap n : Nat) : Nat := if n < cap then n + 1 else n

/-- Station time since `start`, in µs: the 48-bit count wraps (R139). -/
def State.elapsed (s : State) (start : Nat) : Nat :=
  (s.station.time + (timeModulus - start % timeModulus)) % timeModulus

/-! ## Release keys and ordered lists -/

/-- The order of release keys (R2): the first field in which they differ decides. -/
def Key.lt (a b : Key) : Bool :=
  a.time < b.time || (a.time == b.time &&
    (a.origin < b.origin || (a.origin == b.origin &&
      (a.source < b.source || (a.source == b.source && a.ordinal < b.ordinal)))))

/-- At or below in the order of release keys. -/
def Key.le (a b : Key) : Bool := a.lt b || a == b

/-- Insertion in key order: after every entry of lower key and before every entry of higher key (R39, R86, R119). -/
def insertByKey {α : Type} (key : α → Key) (x : α) : List α → List α
  | [] => [x]
  | y :: ys => if (key x).lt (key y) then x :: y :: ys else y :: insertByKey key x ys

/-- The key of an item (R2). -/
def Item.key : Item → Key
  | .own e => e.key
  | .remote r => r.key
  | .timer k => k

/-- Of two heads, the one with the lower key; an empty list offers nothing (R109). -/
def lesserHead : Option Item → Option Item → Option Item
  | none, b => b
  | a, none => a
  | some a, some b => if b.key.lt a.key then some b else some a

/-- The least head of the Pending Queue, the Remote Change List and the Timer List (R109). -/
def State.leastHead (s : State) : Option Item :=
  lesserHead (s.pendingQueue.head?.map Item.own)
    (lesserHead (s.remotes.head?.map Item.remote) (s.timers.head?.map Item.timer))

/-! ## Tables -/

/-- The source record of number `n` (R8). -/
def State.source (s : State) (n : Nat) : Source := s.sources[n]?.getD Source.powerOn

/-- Writes the source record of number `n`. -/
def State.setSource (s : State) (n : Nat) (r : Source) : State :=
  { s with sources := s.sources.setIfInBounds n r }

/-- Raises or lowers counters of source `n` (R12). -/
def State.countSource (s : State) (n : Nat) (f : SourceCounters → SourceCounters) : State :=
  s.setSource n { s.source n with counters := f (s.source n).counters }

/-- The peer entry of station number `n` (R79). -/
def State.peer (s : State) (n : Nat) : Peer := s.peers[n]?.getD Peer.powerOn

/-- Writes the peer entry of station number `n`. -/
def State.setPeer (s : State) (n : Nat) (p : Peer) : State :=
  { s with peers := s.peers.setIfInBounds n p }

/-- The element record of number `n`, or none where the element is absent (R111). -/
def State.elementAt (s : State) (n : Nat) : Option Element := (s.elements[n]?).join

/-- Writes the element record of number `n`. -/
def State.setElement (s : State) (n : Nat) (e : Element) : State :=
  { s with elements := s.elements.setIfInBounds n (some e) }

/-- The present elements with their numbers, in increasing number. -/
def State.present (s : State) : List (Nat × Element) :=
  (List.range 256).filterMap fun n => (s.elementAt n).map fun e => (n, e)

/-- The tie number an element carries, LOCAL_TIE and MIRROR alike (R148, R149). -/
def Element.tie (e : Element) : Option Nat :=
  match e.ownership with
  | .localOnly => none
  | .localTie t => some t
  | .mirror t _ => some t

/-- The present element that carries tie number `t` (R84). -/
def State.tieElement (s : State) (t : Nat) : Option (Nat × Element) :=
  s.present.find? fun p => p.2.tie == some t

/-- A source is open: OPEN or LIVE (R75). -/
def Source.isOpen (r : Source) : Bool := r.state == .opened || r.state == .live

/-- The states in which a peer is counted (R80). -/
def Peer.counted (p : Peer) : Bool :=
  match p.state with
  | .awaited => true
  | .active => true
  | .silent => true
  | .desync => true
  | .foreignEpoch => true
  | .notExpected => false
  | .excluded => false
  | .ended => false

/-- Some peer is counted. -/
def State.anyCounted (s : State) : Bool := s.peers.toList.any Peer.counted

/-- The elements on the watch list (R142). -/
def State.watched (s : State) : List Nat :=
  (s.present.filter fun p => p.2.watch != .none).map Prod.fst

/-- The station is in READY, REPLAYING or COMPLETE. -/
def State.inService (s : State) : Bool :=
  match s.station.state with
  | .ready => true
  | .replaying => true
  | .complete => true
  | .unconfigured => false
  | .loading => false

/-! ## Error capture -/

/-- One error reaches the capture (R139): the first error, or the later count and the kind of the latest (R157). -/
def State.report (s : State) (kind : ErrorKind) (subject : Option Nat) : State :=
  let c := s.attention.capture
  match c.first with
  | none =>
    { s with attention := { s.attention with
        flags := { s.attention.flags with error := true }
        capture := { c with first := some ⟨kind, subject, s.station.time⟩ } } }
  | some _ =>
    { s with attention := { s.attention with
        capture := { c with later := satSucc max16 c.later, latestKind := some kind } } }

/-! ## Delivery queue -/

/-- The queue has more than 4 free entries (R134). -/
def State.roomForRecord (s : State) : Bool := s.delivery.queue.length + replyReserve < deliveryCapacity

/-- The queue has at least 1 free entry (R134). -/
def State.roomForReply (s : State) : Bool := s.delivery.queue.length < deliveryCapacity

/-- Queues a record; its header carries the station's epoch at this moment (R157). -/
def State.enqueue (s : State) (body : RecordBody) : State :=
  { s with delivery := { s.delivery with queue := s.delivery.queue ++ [⟨s.station.epoch, body⟩] } }

/-! ## Feed port -/

/-- The feed port places the answer and returns to READY; the intake ends (R3, R6). -/
def State.placeAnswer (s : State) (a : Answer) : State :=
  { s with feed := ⟨.ready, some a, none⟩ }

/-- TAKEN (R4). -/
def answerTaken (kind : Byte) : Answer := ⟨kind, .taken, none, none⟩
/-- MERGED (R4). -/
def answerMerged (kind : Byte) : Answer := ⟨kind, .merged, none, none⟩
/-- DISCARDED with a reason (R4). -/
def answerDiscarded (kind : Byte) (r : AnswerReason) : Answer := ⟨kind, .discarded, some r, none⟩
/-- REFUSED with a reason (R4). -/
def answerRefused (kind : Byte) (r : AnswerReason) : Answer := ⟨kind, .refused, some r, none⟩
/-- DEFERRED with a reason, and a laggard with RESERVE and FULL (R4). -/
def answerDeferred (kind : Byte) (r : AnswerReason) (laggard : Option Nat) : Answer :=
  ⟨kind, .deferred, some r, laggard⟩

/-- The port holds a record whose write now ends: BUSY, and no intake in flight (R3). A write that began while the
port was BUSY was ignored, and its end hands nothing over. -/
def State.recordArrives (s : State) : Bool := s.feed.port == .busy && s.feed.intake.isNone

/-- A settings or description record taken in UNCONFIGURED moves the station to LOADING (R145). -/
def State.toLoading (s : State) : State :=
  { s with station := { s.station with
      state := if s.station.state = .unconfigured then .loading else s.station.state } }

/-! ## Releases and relabels -/

/-- The engine may begin a release or an apply as far as its own work goes: no release, apply or relabel in flight, no
snapshot WAITING or EMITTING, and more than 4 free delivery entries (R109, R114). -/
def State.engineIdle (s : State) : Bool :=
  s.engine.inFlight.isNone && s.engine.apply.isNone && s.islands.relabel.isNone &&
    s.engine.snapshot == .none && s.roomForRecord

/-- A LATE hand-over waits for the apply step (R114). -/
def State.handOver (s : State) : Option RemoteEntry := s.processing.bind Processing.handOver

/-- A relabel starts (R127). -/
def State.startRelabel (s : State) (cause : RelabelCause) : State :=
  { s with islands := { s.islands with relabel := some ⟨cause, .computing⟩ } }

/-- The records of a release in flight have been queued: its own and any MARK (R121). -/
def ReleaseInFlight.queued (r : ReleaseInFlight) : Bool := r.record.isNone && r.mark.isNone

/-- A relabel ends, and with it the apply that started it, or the release that started it where its own records are
queued (R110, R114, R128). -/
def State.endRelabel (s : State) (cause : RelabelCause) : State :=
  let s := { s with islands := { s.islands with relabel := none } }
  match cause with
  | .commit => s
  | .restart => s
  | .item _ => { s with engine := { s.engine with
      inFlight := if s.engine.inFlight.any ReleaseInFlight.queued then none else s.engine.inFlight } }
  | .late _ => { s with engine := { s.engine with apply := none } }

/-! ## Timers -/

/-- Removes the timer of kind `source` of element `n`, if the list holds one (R115, R118). -/
def removeTimer (source n : Nat) (ts : List Key) : List Key :=
  ts.filter fun k => !(k.source == source && k.ordinal == n)

/-- The timer of kind `source` of element `n` is removed, and inserted again at time `t` where `t` does not exceed
2^40 - 2; the key's origin is the own station (R115, R117 to R119). -/
def State.setTimer (s : State) (source n t : Nat) : State :=
  let rest := removeTimer source n s.timers
  { s with timers :=
      if t ≤ maxTime then insertByKey id ⟨t, s.station.number, source, n⟩ rest else rest }

/-- The timer of kind `source` of element `n` is removed. -/
def State.cancelTimer (s : State) (source n : Nat) : State :=
  { s with timers := removeTimer source n s.timers }

end Sys2Proof.Machine
end

