-- ==== Sys2Proof/Machine/Operands.lean ====
section
/-! DEFINITION. The operand forms: what the bytes of a record or a command name, the form test (R155, R135), and the
lengths and codes of file 11. -/

namespace Sys2Proof.Machine

/-! ## Enumerated bytes -/

/-- POSITION CODE TABLE, codes 0..4. -/
def Position.ofCode : Nat → Option Position
  | 0 => some .opened
  | 1 => some .closed
  | 2 => some .intermediate
  | 3 => some .bad
  | 4 => some .unknown
  | _ => none

/-- POSITION CODE TABLE. -/
def Position.code : Position → Nat
  | .opened => 0
  | .closed => 1
  | .intermediate => 2
  | .bad => 3
  | .unknown => 4

/-- A position a recorder or a peer may report: codes 0..3 (POSITION CODE TABLE). -/
def Position.ofReport (b : Byte) : Option Position :=
  if b.toNat ≤ 3 then Position.ofCode b.toNat else none

/-- A yes/no byte: 0 no, 1 yes (file 11). -/
def yesNo (b : Byte) : Option Bool :=
  if b.toNat = 0 then some false else if b.toNat = 1 then some true else none

/-- A mark kind byte: 1 local, 2 broadcast (COMMAND KIND TABLE). -/
def WatchMark.ofCode (b : Byte) : Option WatchMark :=
  if b.toNat = 1 then some .localMark else if b.toNat = 2 then some .broadcast else none

/-- Inversion of a reported position (R14). -/
def Position.inverted : Position → Position
  | .opened => .closed
  | .closed => .opened
  | .intermediate => .intermediate
  | .bad => .bad
  | .unknown => .unknown

/-- Neither OPEN nor CLOSED (R126). -/
def Position.uncertain : Position → Bool
  | .opened => false
  | .closed => false
  | .intermediate => true
  | .bad => true
  | .unknown => true

/-! ## Feed records -/

/-- FEED RECORD KIND TABLE: the kind codes. -/
def kindSettings : Byte := 1
/-- DECLARE_SOURCE. -/
def kindDeclare : Byte := 2
/-- ELEMENT. -/
def kindElement : Byte := 3
/-- POINT. -/
def kindPoint : Byte := 4
/-- COMMIT. -/
def kindCommit : Byte := 5
/-- SEGMENT. -/
def kindSegment : Byte := 6
/-- EVENT. -/
def kindEvent : Byte := 7
/-- PROGRESS. -/
def kindProgress : Byte := 8
/-- END_SOURCE. -/
def kindEndSource : Byte := 9

/-- FEED RECORD KIND TABLE: the body length of a kind. -/
def feedLength (kind : Byte) : Option Nat :=
  match kind.toNat with
  | 1 => some 20
  | 2 => some 26
  | 3 => some 12
  | 4 => some 5
  | 5 => some 0
  | 6 => some 16
  | 7 => some 14
  | 8 => some 7
  | 9 => some 1
  | _ => none

/-- The length tests of R155: the length byte is that of the kind, and 2 plus that many bytes were received. -/
def formHolds (kind : Byte) (f : Sys2Proof.RecordForm) : Bool :=
  match feedLength kind with
  | some n => f.lengthByte.toNat == n && f.received == 2 + n
  | none => false

/-- The record acceptance table of R5: settings and description records. -/
def State.acceptsDescription (s : State) : Bool :=
  s.station.state == .unconfigured || s.station.state == .loading

/-- The record acceptance table of R5: COMMIT. -/
def State.acceptsCommit (s : State) : Bool := s.station.state == .loading

/-- The record acceptance table of R5: SEGMENT, EVENT, PROGRESS. -/
def State.acceptsReplay (s : State) : Bool :=
  s.station.state == .ready || s.station.state == .replaying

/-- The record acceptance table of R5: END_SOURCE. -/
def State.acceptsEndSource (s : State) : Bool :=
  s.station.state == .ready || s.station.state == .replaying || s.station.state == .complete

/-- The three screening tests of R5 in their order: form, station state, range. -/
def screen (form accepted inRange : Bool) : Option AnswerReason :=
  if !form then some .malformed
  else if !accepted then some .wrongState
  else if !inRange then some .outOfRange
  else none

/-- The fields of a segment, its signed fields in two's complement (file 11). -/
def segmentOf (f : Sys2Proof.SegmentField) : Segment :=
  ⟨f.anchor.toNat, f.offset.toInt, f.drift.toInt⟩

/-- The ranges of a segment (R22). -/
def Segment.inRange (g : Segment) : Bool :=
  decide (-maxDrift ≤ g.drift) && decide (g.drift ≤ maxDrift)

/-- The attention flags or mask entries of a byte; bits 6 and 7 are not examined (STATE CODE TABLE). -/
def AttentionFlags.ofByte (b : Byte) : AttentionFlags where
  brk := b.getLsbD 0
  complete := b.getLsbD 1
  stall := b.getLsbD 2
  error := b.getLsbD 3
  lag := b.getLsbD 4
  link := b.getLsbD 5

/-- The ranges of the settings (R147). -/
def settingsInRange (b : Sys2Proof.SettingsBody) : Bool :=
  decide (b.startTime.toNat ≤ maxTime) && decide (1 ≤ b.lagLimit.toNat) && decide (1 ≤ b.skipThreshold.toNat) &&
    decide (1 ≤ b.chatterW.toNat) && decide (2 ≤ b.chatterN.toNat) && decide (1 ≤ b.chatterQ.toNat)

/-- The settings of a body (R147). -/
def settingsOf (b : Sys2Proof.SettingsBody) : Settings where
  expectedMask := b.expectedMask
  startTime := b.startTime.toNat
  lagLimit := b.lagLimit.toNat
  skipThreshold := b.skipThreshold.toNat
  skipLead := b.skipLead.toNat
  chatterW := b.chatterW.toNat
  chatterN := b.chatterN.toNat
  chatterQ := b.chatterQ.toNat
  follow := (yesNo b.follow).getD false
  initialMask := AttentionFlags.ofByte b.initialMask

/-- The enumerated bytes of an ELEMENT body name values (R155). -/
def elementNamed (b : Sys2Proof.ElementBody) : Bool :=
  (yesNo b.nodesPresent).isSome && decide (b.ownership.toNat ≤ 2) && decide (b.initial.toNat ≤ 4) &&
    (yesNo b.chatter).isSome

/-- The range tests of an ELEMENT body (R148); ownership 0 LOCAL, 1 LOCAL_TIE, 2 MIRROR (log entry 7). -/
def elementInRange (b : Sys2Proof.ElementBody) : Bool :=
  decide (b.nodeA.toNat ≤ 127) && decide (b.nodeB.toNat ≤ 127) && decide (b.tie.toNat ≤ 1023) &&
    decide (b.owner.toNat ≤ 15) &&
    (b.ownership.toNat != 0 || b.tie.toNat == 0) &&
    (b.ownership.toNat == 2 || b.owner.toNat == 0) &&
    ((yesNo b.nodesPresent).getD false || (b.nodeA.toNat == 0 && b.nodeB.toNat == 0)) &&
    (b.ownership.toNat != 2 || (b.travelLimit.toNat == 0 && !(yesNo b.chatter).getD false))

/-- The ownership of an ELEMENT body. -/
def ownershipOf (b : Sys2Proof.ElementBody) : Ownership :=
  if b.ownership.toNat = 0 then .localOnly
  else if b.ownership.toNat = 1 then .localTie b.tie.toNat
  else .mirror b.tie.toNat b.owner.toNat

/-- The element record described by an ELEMENT body (R111, R148). -/
def elementOf (b : Sys2Proof.ElementBody) : Element where
  nodes := if (yesNo b.nodesPresent).getD false then some (b.nodeA.toNat, b.nodeB.toNat) else none
  ownership := ownershipOf b
  initial := (Position.ofCode b.initial.toNat).getD .unknown
  current := (Position.ofCode b.initial.toNat).getD .unknown
  travelLimit := b.travelLimit.toNat
  travelStart := none
  stuck := false
  chatterEnable := (yesNo b.chatter).getD false
  chatter := .normal
  windowStart := none
  windowCount := 0
  suppressed := 0
  lastRelease := none
  watch := .none

/-! ## Commands -/

/-- COMMAND KIND TABLE: the kind code of a command, as its reply echoes it (R136). -/
def commandKind : Command → Byte
  | .start _ => 1
  | .hold _ => 2
  | .resume _ => 3
  | .step _ => 4
  | .setRate _ _ => 5
  | .holdAt _ _ => 6
  | .skipOn _ => 7
  | .skipOff _ => 8
  | .watchSet _ _ _ => 9
  | .watchClear _ _ => 10
  | .excludePeer _ _ => 11
  | .includePeer _ _ => 12
  | .snapshot _ => 13
  | .status _ => 14
  | .skew _ => 15
  | .restart _ _ => 16
  | .clearFlags _ _ => 17
  | .mask _ _ => 18
  | .malformed k => k

/-- The form test of R135: the length byte is that of the kind and every enumerated byte names a value. -/
def commandFormHolds : Command → Bool
  | .start n => n == 0
  | .hold n => n == 0
  | .resume n => n == 0
  | .step n => n == 0
  | .setRate n _ => n == 4
  | .holdAt n _ => n == 5
  | .skipOn n => n == 0
  | .skipOff n => n == 0
  | .watchSet n _ k => n == 2 && (WatchMark.ofCode k).isSome
  | .watchClear n _ => n == 1
  | .excludePeer n p => n == 1 && decide (p.toNat ≤ 15)
  | .includePeer n p => n == 1 && decide (p.toNat ≤ 15)
  | .snapshot n => n == 0
  | .status n => n == 0
  | .skew n => n == 0
  | .restart n b => n == 1 && (yesNo b).isSome
  | .clearFlags n _ => n == 1
  | .mask n _ => n == 1
  | .malformed _ => false

/-- CONSOLE COMMAND TABLE (R136): the station states in which a command passes the state test. -/
def commandAccepted (st : StationState) : Command → Bool
  | .start _ => st == .ready
  | .hold _ => st == .ready || st == .replaying
  | .resume _ => st == .ready || st == .replaying
  | .step _ => st == .replaying
  | .setRate _ _ => st == .ready || st == .replaying
  | .holdAt _ _ => st == .ready || st == .replaying
  | .skipOn _ => st == .ready || st == .replaying
  | .skipOff _ => st == .ready || st == .replaying
  | .watchSet _ _ _ => st == .ready || st == .replaying
  | .watchClear _ _ => st == .ready || st == .replaying
  | .excludePeer _ _ => st == .ready || st == .replaying
  | .includePeer _ _ => st == .ready || st == .replaying
  | .snapshot _ => st == .ready || st == .replaying || st == .complete
  | .status _ => true
  | .skew _ => st == .ready || st == .replaying || st == .complete
  | .restart _ _ => st == .ready || st == .replaying || st == .complete
  | .clearFlags _ _ => true
  | .mask _ _ => true
  | .malformed _ => true

/-- EXCLUDE and INCLUDE, which are decided between two frame processings (R92, R135). -/
def waitsForProcessing : Command → Bool
  | .excludePeer _ _ => true
  | .includePeer _ _ => true
  | .start _ => false
  | .hold _ => false
  | .resume _ => false
  | .step _ => false
  | .setRate _ _ => false
  | .holdAt _ _ => false
  | .skipOn _ => false
  | .skipOff _ => false
  | .watchSet _ _ _ => false
  | .watchClear _ _ => false
  | .snapshot _ => false
  | .status _ => false
  | .skew _ => false
  | .restart _ _ => false
  | .clearFlags _ _ => false
  | .mask _ _ => false
  | .malformed _ => false

end Sys2Proof.Machine
end

