-- ==== Sys2Proof/Machine/Correction.lean ====
section
/-! DEFINITION. Time correction: the seven correction steps, promotion, and the skew statistics (file 02). Every
intermediate value is an exact integer. -/

namespace Sys2Proof.Machine

/-- A value held within plus or minus `m` with its sign kept. -/
def clampMagnitude (m x : Int) : Int := if m < x then m else if x < -m then -m else x

/-- Correction step 1: the difference, clamped (R26). -/
def difference (g : Segment) (raw : Nat) : Int := clampMagnitude maxDifference ((raw : Int) - g.anchor)

/-- Division by 10^9 to the nearest integer, one half rounded away from zero (R27). -/
def roundedQuotient (p : Int) : Int :=
  let m : Int := ((p.natAbs + 500000000) / 1000000000 : Nat)
  if p < 0 then -m else m

/-- Correction steps 2 and 3: the drift term (R27). -/
def driftTerm (g : Segment) (raw : Nat) : Int := roundedQuotient (difference g raw * g.drift)

/-- Correction step 4: the sum (R28). -/
def correctionSum (g : Segment) (raw : Nat) : Int := (raw : Int) + g.offset + driftTerm g raw

/-- Correction step 5: the sum clamped to 0 .. 2^40 - 2 (R28). -/
def corrected (g : Segment) (raw : Nat) : Nat :=
  let s := correctionSum g raw
  if s < 0 then 0 else if (maxTime : Int) < s then maxTime else s.toNat

/-- A clamp of step 5 applies (R28). -/
def correctionClamps (g : Segment) (raw : Nat) : Bool :=
  decide (correctionSum g raw < 0) || decide ((maxTime : Int) < correctionSum g raw)

/-- A next segment whose anchor the raw time reaches becomes the current one (R25). -/
def Source.promote (r : Source) (raw : Nat) : Source :=
  match r.next with
  | some g => if g.anchor ≤ raw then { r with current := some g, next := none } else r
  | none => r

/-- The segment in force; every OPEN or LIVE source has one (R23). -/
def Source.segment (r : Source) : Segment := r.current.getD ⟨0, 0, 0⟩

/-- A declared source at commit and at RESTART (R8, R23, R32): OPEN, its first segment in force, its corrected start
bound as watermark. An UNDECLARED source stays as it is. -/
def Source.epochStart (r : Source) : Source :=
  match r.state with
  | .undeclared => r
  | _ => { r with
      state := .opened
      current := r.firstSegment
      next := none
      expectedSeq := 0
      lastRaw := none
      watermark := some (corrected (r.firstSegment.getD ⟨0, 0, 0⟩) (r.startBound.getD 0))
      nextOrdinal := some 0
      counters := SourceCounters.zero
      skew := SkewStats.zero }

/-- The value of a skew sample (R34). -/
def skewSample (incoming existing : Nat) : Int :=
  clampMagnitude maxSample ((incoming : Int) - existing)

/-- A sample is recorded (R35). -/
def SkewStats.record (k : SkewStats) (v : Int) : SkewStats where
  count := satSucc max16 k.count
  minimum := if k.count = 0 then v else min k.minimum v
  maximum := if k.count = 0 then v else max k.maximum v
  sum := clampMagnitude maxSkewSum (k.sum + v)

end Sys2Proof.Machine
end

