-- ==== Sys2Proof/Machine/Flags.lean ====
section
/-! DEFINITION. The flag computations: the attention flags and the line they drive, the LINK condition, the hold cause
set, and their codes (R97, R98, R104, R137, R138; STATE CODE TABLE). -/

namespace Sys2Proof.Machine

/-- No hold cause is present (R97). -/
def HoldCauses.isEmpty (c : HoldCauses) : Bool :=
  !c.startPending && !c.localHold && !c.step && !c.brk && !c.peer && !c.lag

/-- The code of a set of six with bit 0 first (STATE CODE TABLE). -/
def sixBits (b0 b1 b2 b3 b4 b5 : Bool) : Nat :=
  b0.toNat + 2 * b1.toNat + 4 * b2.toNat + 8 * b3.toNat + 16 * b4.toNat + 32 * b5.toNat

/-- The hold cause set as one byte. -/
def HoldCauses.code (c : HoldCauses) : Nat :=
  sixBits c.startPending c.localHold c.step c.brk c.peer c.lag

/-- The attention flags or the mask as one byte. -/
def AttentionFlags.code (f : AttentionFlags) : Nat :=
  sixBits f.brk f.complete f.stall f.error f.lag f.link

/-- The entries of both sets. -/
def AttentionFlags.inter (a b : AttentionFlags) : AttentionFlags :=
  ⟨a.brk && b.brk, a.complete && b.complete, a.stall && b.stall, a.error && b.error, a.lag && b.lag, a.link && b.link⟩

/-- Some entry is set. -/
def AttentionFlags.any (f : AttentionFlags) : Bool :=
  f.brk || f.complete || f.stall || f.error || f.lag || f.link

/-- The attention line: some flag is set whose mask entry is unmasked (R137). -/
def State.attentionLine (s : State) : Bool := (s.attention.flags.inter s.attention.mask).any

/-- The highest set flag and its code: ERROR, STALL, LINK, LAG, BREAK, COMPLETE, or none (R140). -/
def AttentionFlags.highest (f : AttentionFlags) : Nat :=
  if f.error then 1 else if f.stall then 2 else if f.link then 3 else if f.lag then 4
  else if f.brk then 5 else if f.complete then 6 else 0

/-- The transmitter is MUTED, for either kind of mute (R59). -/
def TxState.isMuted : TxState → Bool
  | .muted _ => true
  | .idle => false
  | .waiting => false
  | .sending _ => false
  | .backoff _ => false

/-- The LINK condition (R137): the transmitter is MUTED, or some counted peer is SILENT or DESYNC. -/
def State.linkHolds (s : State) : Bool :=
  s.tx.state.isMuted || s.peers.toList.any fun p => p.state == .silent || p.state == .desync

/-- The LINK condition is re-formed; the flag is set when it begins (R137). -/
def State.reformLink (s : State) : State :=
  { s with attention := { s.attention with
      flags := { s.attention.flags with
        link := s.attention.flags.link || (s.linkHolds && !s.attention.linkCondition) }
      linkCondition := s.linkHolds } }

/-- BREAK is added to the hold cause set, with the BREAK flag (R97, R103, R137). -/
def State.setBreak (s : State) : State :=
  { s with
    clock := { s.clock with causes := { s.clock.causes with brk := true } }
    attention := { s.attention with flags := { s.attention.flags with brk := true } } }

/-- CLEAR_FLAGS (R138): each flag named is cleared, but STALL and LINK while their conditions hold. -/
def AttentionFlags.cleared (f named : AttentionFlags) (stallHolds linkHolds : Bool) : AttentionFlags where
  brk := f.brk && !named.brk
  complete := f.complete && !named.complete
  stall := f.stall && (!named.stall || stallHolds)
  error := f.error && !named.error
  lag := f.lag && !named.lag
  link := f.link && (!named.link || linkHolds)

/-- The announced hold request (R104). -/
def State.announcedHold (s : State) : Bool :=
  s.clock.causes.localHold || (s.clock.causes.brk && s.clock.broadcastBreak)

/-- The PEER cause is present while some counted peer requests a hold (R104). -/
def State.reformPeerHold (s : State) : State :=
  { s with clock := { s.clock with causes := { s.clock.causes with
      peer := s.peers.toList.any fun p => p.counted && p.hold } } }

/-- RUNNING for an empty set, HELD for a non-empty one (R98). -/
def HoldCauses.holdState (c : HoldCauses) : HoldState := if c.isEmpty then .running else .held

/-- A HOLD_STATE record is owed: the set's emptiness differs from the reported hold state. It lapses where they agree
again (R98). -/
def State.holdStateOwed (s : State) : Bool := s.clock.causes.holdState != s.clock.reported

end Sys2Proof.Machine
end

