-- ==== Sys2Proof/Machine/Bounds.lean ====
section
/-! DEFINITION. Bounds and monitors: the local watermark, the safe time and its limiting cause (file 05), the own horizon
and when a frame is wanted (R60, R77), the lag monitor and stall detection (R106, R107), completion (R124); and what
is re-formed after an act that changes an input of theirs. -/

namespace Sys2Proof.Machine

/-! ## The local watermark and the safe time -/

/-- The watermark of an open source: a source without one takes no part (R8, R75). -/
def Source.bound (r : Source) : Option Nat := if r.isOpen then r.watermark else none

/-- The least of some bounds; END where there is none (R75, R90). -/
def leastBound (bs : List Nat) : Nat := bs.foldr min endTime

/-- The station is before its first commit since power-on reset: UNCONFIGURED or LOADING. -/
def State.beforeCommit (s : State) : Bool :=
  s.station.state == .unconfigured || s.station.state == .loading

/-- The local watermark (R75). -/
def State.localWatermark (s : State) : Nat :=
  if s.beforeCommit then 0 else leastBound (s.sources.toList.filterMap Source.bound)

/-- The stored horizons of the counted peers (R80). -/
def State.countedHorizons (s : State) : List Nat :=
  (s.peers.toList.filter Peer.counted).map Peer.horizon

/-- The safe time (R90). -/
def State.safeBound (s : State) : Nat :=
  if s.beforeCommit then 0 else min s.localWatermark (leastBound s.countedHorizons)

/-- The lowest-numbered open source whose watermark is `t`. -/
def State.firstSourceAt (s : State) (t : Nat) : Option Nat :=
  s.sources.toList.findIdx? fun r => r.bound == some t

/-- The lowest-numbered counted peer whose stored horizon is `t`. -/
def State.firstPeerAt (s : State) (t : Nat) : Option Nat :=
  s.peers.toList.findIdx? fun p => p.counted && p.horizon == t

/-- The limiting cause (R91); none before commit (R76). -/
def State.limitingCause (s : State) : LimitingCause :=
  if s.beforeCommit then .none
  else match s.firstSourceAt s.safeBound with
    | some n => .source n
    | none => match s.firstPeerAt s.safeBound with
      | some n => .peer n
      | none => .none

/-- The horizon unit re-forms LW, the safe time and the limiting cause (R75, R76, R90, R91). -/
def State.reformBounds (s : State) : State :=
  { s with horizon := { s.horizon with
      lw := s.localWatermark, safeTime := s.safeBound, limiting := s.limitingCause } }

/-- The lowest-numbered laggard (R19). -/
def State.laggard (s : State) : Option Nat := s.firstSourceAt s.horizon.lw

/-- Source `n` is a laggard (R19). -/
def State.isLaggard (s : State) (n : Nat) : Bool := (s.source n).bound == some s.horizon.lw

/-! ## The own horizon and the wish for a frame -/

/-- The horizon a frame built now would carry (R77). -/
def State.ownHorizon (s : State) : Nat :=
  match s.outgoing[frameEntries]? with
  | some ninth => min s.horizon.lw ninth.key.time
  | none => s.horizon.lw

/-- The station state as a frame carries it (file 11). -/
def State.senderState (s : State) : SenderState :=
  match s.station.state with
  | .replaying => .replaying
  | .complete => .complete
  | .ready => .ready
  | .unconfigured => .ready
  | .loading => .ready

/-- The heartbeat is due (R60, condition 7). -/
def State.heartbeatDue (s : State) : Bool :=
  match s.tx.lastEnd with
  | some e => heartbeatInterval ≤ s.elapsed e
  | none => false

/-- A frame is wanted (R60). -/
def State.frameWanted (s : State) : Bool :=
  s.inService &&
    (match s.tx.lastSent with
      | none => true
      | some c => c.horizon != s.ownHorizon || c.hold != s.announcedHold ||
          c.restart != s.station.restartRequest || c.senderState != s.senderState)
    || (s.inService && (!s.outgoing.isEmpty || s.heartbeatDue))

/-- An IDLE transmitter moves to WAITING when a frame is wanted (R60). -/
def State.wantFrame (s : State) : State :=
  { s with tx := { s.tx with
      state := if s.tx.state = .idle ∧ s.frameWanted = true then .waiting else s.tx.state } }

/-! ## Lag and stall -/

/-- The time of the least head (R105 to R107). -/
def State.headTime (s : State) : Option Nat := s.leastHead.map fun i => i.key.time

/-- The lag, where the monitor counts one (R106). -/
def State.lagCount (s : State) : Option Nat :=
  match s.headTime with
  | some t => if t < s.horizon.safeTime ∧ t ≤ s.clock.integer then some (s.clock.integer - t) else none
  | none => none

/-- The LAG cause after a test (LAG table of R106). -/
def State.lagAfter (s : State) : Bool :=
  match s.lagCount with
  | some l =>
    if s.settings.lagLimit * 1000 < l then true
    else if s.settings.lagLimit * 500 < l then s.clock.causes.lag
    else false
  | none => false

/-- The lag monitor's inputs: the clock's integer part, the least head and the safe time (R106). The least head is the whole
item, so that a change of a field outside its key, such as the confirmation count or ANNOUNCED, counts as a change of the
least head (DEDUCED: log entry 35). -/
def State.lagInputs (s : State) : Nat × Option Item × Nat := (s.clock.integer, s.leastHead, s.horizon.safeTime)

/-- The lag test of an act that began in state `before`: taken in REPLAYING where an input changed; the LAG flag is set
when the cause is added (R106, R137). -/
def State.testLag (s before : State) : State :=
  if s.station.state = .replaying ∧ s.lagInputs ≠ before.lagInputs then
    { s with
      clock := { s.clock with causes := { s.clock.causes with lag := s.lagAfter } }
      attention := { s.attention with flags := { s.attention.flags with
        lag := s.attention.flags.lag || (s.lagAfter && !s.clock.causes.lag) } } }
  else s

/-- The stall condition: the clock has passed the least head and the safe time has not (R107). -/
def State.stallHolds (s : State) : Bool :=
  s.station.state == .replaying &&
    match s.headTime with
    | some t => decide (t ≤ s.clock.integer) && decide (s.horizon.safeTime ≤ t)
    | none => false

/-- The stall timer and the STALL condition after an act that began in state `before` (R107). While STALL is present the
timer stays stopped, also where the stall condition begins anew or the safe time falls (DEDUCED: log entry 36). -/
def State.watchStall (s before : State) : State :=
  let stall := s.clock.stall && !decide (before.horizon.safeTime < s.horizon.safeTime)
  { s with clock := { s.clock with
      stall := stall
      stallTimer :=
        if stall || !s.stallHolds then none
        else if before.horizon.safeTime = s.horizon.safeTime then some (s.clock.stallTimer.getD 0)
        else some 0 } }

/-! ## Completion -/

/-- The five conditions of R124: LW is END, no peer is counted, the lists and the outgoing change set are empty, and no
release, apply or relabel is in flight. -/
def State.drained (s : State) : Bool :=
  s.horizon.lw == endTime && !s.anyCounted &&
    s.pendingQueue.isEmpty && s.remotes.isEmpty && s.timers.isEmpty && s.outgoing.isEmpty &&
    s.engine.inFlight.isNone && s.engine.apply.isNone && s.islands.relabel.isNone

/-- The completion test of an act that began in state `before`: where the conditions of R124 have come to hold in
REPLAYING, the station becomes COMPLETE, the COMPLETE flag is set and a COMPLETE record is owed. Where they held before
the act none of them changed, and no test is taken (log entry 24). -/
def State.testCompletion (s before : State) : State :=
  if s.station.state = .replaying ∧ s.drained = true ∧ before.drained = false then
    { s with
      station := { s.station with state := .complete }
      attention := { s.attention with flags := { s.attention.flags with complete := true } }
      engine := { s.engine with completeOwed := true } }
  else s

/-! ## After an act -/

/-- What is re-formed after an act that began in state `before`: the bounds, the PEER cause, the lag test, the stall
timer, the LINK condition and the wish for a frame. -/
def State.settle (s before : State) : State :=
  (((s.reformBounds.reformPeerHold.testLag before).watchStall before).reformLink).wantFrame

/-- As `settle`, with the completion test. -/
def State.settleComplete (s before : State) : State :=
  ((((s.reformBounds.reformPeerHold.testLag before).watchStall before).testCompletion before).reformLink).wantFrame

end Sys2Proof.Machine
end

