-- ==== Sys2Proof/Machine/Layout.lean ====
section
/-! DEFINITION. The formats of file 11: the frame bit by bit with its CRC (R57, R58, R71, R156), the answers, and the
delivery records byte by byte where the manual lays them out. -/

namespace Sys2Proof.Machine

/-! ## Bits -/

/-- The `w` low bits of `n`, the most significant first (file 11). -/
def bitsOf : Nat → Nat → Bits
  | 0, _ => []
  | w + 1, n => n.testBit w :: bitsOf w n

/-- The number that bits spell, the most significant first. -/
def numberOf (bs : Bits) : Nat := bs.foldl (fun n b => 2 * n + b.toNat) 0

/-- `len` bits from bit `start` of a field table, as a number. -/
def fieldAt (bs : Bits) (start len : Nat) : Nat := numberOf ((bs.drop start).take len)

/-- The polynomial's lower 32 coefficients (R58). -/
def crcPolynomial : BitVec 32 := 0x04C11DB7#32

/-- One bit through the check register (R58). -/
def crcStep (r : BitVec 32) (b : Bool) : BitVec 32 :=
  if r.msb != b then (r <<< 1) ^^^ crcPolynomial else r <<< 1

/-- The check value over some bits: the complement of the register (R58). -/
def crcOf (bs : Bits) : BitVec 32 := ~~~ bs.foldl crcStep (BitVec.allOnes 32)

/-! ## The announcement frame -/

/-- The sender state's code (STATE CODE TABLE). -/
def SenderState.code : SenderState → Nat
  | .ready => 0
  | .replaying => 1
  | .complete => 2

/-- The sender state of a code; 3 names nothing (R156). -/
def SenderState.ofCode : Nat → Option SenderState
  | 0 => some .ready
  | 1 => some .replaying
  | 2 => some .complete
  | _ => none

/-- CHANGE ENTRY TABLE. -/
def ChangeEntry.bits (c : ChangeEntry) : Bits :=
  bitsOf 40 c.time ++ bitsOf 6 c.source ++ bitsOf 32 c.ordinal ++ bitsOf 10 c.tie ++ bitsOf 2 c.position.code ++
    bitsOf 8 c.cause ++ bitsOf 2 c.quality ++ [c.carried] ++ bitsOf 3 0

/-- FRAME HEADER TABLE. -/
def Frame.headerBits (f : Frame) : Bits :=
  bitsOf 4 f.sender ++ bitsOf 8 f.epoch ++ bitsOf 8 f.sequence ++ bitsOf 2 f.senderState.code ++
    bitsOf 40 f.horizon ++ [f.hold] ++ [f.restart] ++ bitsOf 4 f.changes.length ++ bitsOf 4 0

/-- Header and change entries, over which the CRC is computed (R58). -/
def Frame.coveredBits (f : Frame) : Bits := f.headerBits ++ f.changes.flatMap ChangeEntry.bits

/-- A frame after its start delimiter: header, change entries, CRC (R57). -/
def Frame.bits (f : Frame) : Bits :=
  f.coveredBits ++ bitsOf 32 (crcOf f.coveredBits).toNat

/-- The 16 preamble symbols: alternating, starting with a one (R57). -/
def preambleSymbols : Bits := (List.range 16).map fun i => i % 2 == 0

/-- The 8 symbols of the start delimiter, a fixed pattern; the byte that stands for it has the symbol sent first as its
most significant bit (R57; log entry 4). -/
def delimiterSymbols : Bits := bitsOf 8 Config.startDelimiter.toNat

/-- The five parts of a frame as the station drives them: preamble, start delimiter, header, change entries, CRC (R57). -/
def Frame.symbols (f : Frame) : Bits := preambleSymbols ++ delimiterSymbols ++ f.bits

/-- The bits of a frame of `n` change entries after its start delimiter (R57). -/
def frameLength (n : Nat) : Nat := 72 + 104 * n + 32

/-- The change entry whose 104 bits these are (CHANGE ENTRY TABLE). Fill bits are not examined. -/
def changeOfBits (bs : Bits) : ChangeEntry where
  time := fieldAt bs 0 40
  source := fieldAt bs 40 6
  ordinal := fieldAt bs 46 32
  tie := fieldAt bs 78 10
  position := (Position.ofCode (fieldAt bs 88 2)).getD .bad
  cause := fieldAt bs 90 8
  quality := fieldAt bs 98 2
  carried := fieldAt bs 100 1 == 1

/-- The values R156 lets through: a recorded source and a time other than END. -/
def ChangeEntry.valueGood (c : ChangeEntry) : Bool := decide (c.source ≤ 31) && c.time != endTime

/-- The `n` change entries that follow the header. -/
def changesOfBits (bs : Bits) (n : Nat) : List ChangeEntry :=
  (List.range n).map fun i => changeOfBits ((bs.drop (72 + 104 * i)).take 104)

/-- What the receiver finds in an opened frame (R71, R156): a good frame; a change count above 8; or any other frame
that is discarded as failing its CRC (line quiet too soon, CRC, field values). -/
inductive Reception where
  | good (f : Frame)
  | badCount
  | bad
  deriving DecidableEq, Repr

/-- The checks on an opened frame: length, change count, CRC (R71), then the field values (R156). -/
def receive (bs : Bits) : Reception :=
  if bs.length < 72 then .bad
  else
    let n := fieldAt bs 64 4
    if frameEntries < n then .badCount
    else if bs.length < frameLength n then .bad
    else if crcOf (bs.take (72 + 104 * n)) ≠ BitVec.ofNat 32 (fieldAt bs (72 + 104 * n) 32) then .bad
    else match SenderState.ofCode (fieldAt bs 20 2) with
      | none => .bad
      | some st =>
        let cs := changesOfBits bs n
        if cs.all ChangeEntry.valueGood then
          .good {
            sender := fieldAt bs 0 4
            epoch := fieldAt bs 4 8
            sequence := fieldAt bs 12 8
            senderState := st
            horizon := fieldAt bs 22 40
            hold := fieldAt bs 62 1 == 1
            restart := fieldAt bs 63 1 == 1
            changes := cs }
        else .bad

/-! ## Bytes -/

/-- A number over `n` bytes, most significant byte first (file 11). -/
def bytesOf : Nat → Nat → List Byte
  | 0, _ => []
  | n + 1, v => BitVec.ofNat 8 (v / 256 ^ n) :: bytesOf n v

/-- ANSWER CODE ENCODING TABLE: answers. -/
def AnswerCode.code : AnswerCode → Byte
  | .taken => 0
  | .merged => 1
  | .discarded => 2
  | .deferred => 3
  | .refused => 4

/-- ANSWER CODE ENCODING TABLE: reasons. -/
def AnswerReason.code : AnswerReason → Byte
  | .repeated => 1
  | .unmapped => 2
  | .sourceEnded => 3
  | .undeclared => 4
  | .restarted => 5
  | .reserve => 6
  | .full => 7
  | .outgoingFull => 8
  | .wrongState => 9
  | .outOfRange => 10
  | .conflict => 11
  | .malformed => 12
  | .staleSegment => 13

/-- The 4 bytes of an answer; an absent reason is 0 and an absent laggard 255 (file 11). -/
def Answer.bytes (a : Answer) : List Byte :=
  [a.kind, a.code.code, (a.reason.map AnswerReason.code).getD 0, BitVec.ofNat 8 (a.laggard.getD 255)]

/-- REPLY BODY TABLE: reasons. -/
def RefuseReason.code : RefuseReason → Byte
  | .wrongState => 1
  | .notHeld => 2
  | .busy => 3
  | .full => 4
  | .notNow => 5
  | .notApplicable => 6
  | .outOfRange => 7
  | .malformed => 8

/-- REPLY BODY TABLE. -/
def Reply.bytes (r : Reply) : List Byte :=
  [r.kind, if r.reason.isSome then 1 else 0, (r.reason.map RefuseReason.code).getD 0,
    BitVec.ofNat 8 r.rateClamped.toNat, BitVec.ofNat 8 r.flags.code]

/-- A release key: time, origin, source, ordinal. -/
def Key.bytes (k : Key) : List Byte :=
  bytesOf 5 k.time ++ bytesOf 1 k.origin ++ bytesOf 1 k.source ++ bytesOf 4 k.ordinal

/-- The flags of an EVENT body (EVENT DELIVERY BODY TABLE). -/
def EventRecord.flagBits (r : EventRecord) : Nat :=
  sixBits r.gap.isSome r.clamped r.reordered r.replaced r.boundary r.noChange +
    64 * r.chatterStart.toNat + 128 * r.lateTravel.toNat + 256 * r.travelTime.isSome.toNat

/-- EVENT DELIVERY BODY TABLE, 34 bytes. -/
def EventRecord.bytes (r : EventRecord) : List Byte :=
  r.key.bytes ++ bytesOf 1 r.element ++ bytesOf 1 r.position.code ++ bytesOf 1 r.previous.code ++
    bytesOf 1 r.cause ++ bytesOf 1 r.quality ++ bytesOf 6 r.raw ++ bytesOf 2 r.sequence ++
    bytesOf 1 r.confirmations ++ bytesOf 2 (r.gap.getD 0) ++ bytesOf 2 r.flagBits ++ bytesOf 5 (r.travelTime.getD 0)

/-- REMOTE DELIVERY BODY TABLE, 19 bytes. -/
def RemoteRecord.bytes (r : RemoteRecord) : List Byte :=
  r.key.bytes ++ bytesOf 1 r.element ++ bytesOf 2 r.tie ++ bytesOf 1 r.position.code ++ bytesOf 1 r.previous.code ++
    bytesOf 1 r.cause ++ bytesOf 1 r.quality ++ bytesOf 1 (r.noChange.toNat + 2 * r.late.toNat)

/-- STATE CODE TABLE: station state. -/
def StationState.code : StationState → Nat
  | .unconfigured => 0
  | .loading => 1
  | .ready => 2
  | .replaying => 3
  | .complete => 4

/-- STATE CODE TABLE: peer state. -/
def PeerState.code : PeerState → Nat
  | .notExpected => 0
  | .awaited => 1
  | .active => 2
  | .silent => 3
  | .desync => 4
  | .foreignEpoch => 5
  | .excluded => 6
  | .ended => 7

/-- STATE CODE TABLE: transmitter state. -/
def TxState.code : TxState → Nat
  | .idle => 0
  | .waiting => 1
  | .sending _ => 2
  | .backoff _ => 3
  | .muted (some _) => 4
  | .muted none => 5

/-- Error kinds (file 11). -/
def ErrorKind.code : ErrorKind → Nat
  | .unmapped => 1
  | .repeated => 2
  | .gap => 3
  | .reordered => 4
  | .clamped => 5
  | .feedProto => 6
  | .consoleProto => 7
  | .sync => 8
  | .crc => 9
  | .rxOverrun => 10
  | .frameGap => 11
  | .dupStation => 12
  | .remoteOverflow => 13
  | .tieConflict => 14
  | .horizonBackstep => 15
  | .lateRemote => 16
  | .muted => 17

/-- The limiting cause (STATUS RECORD TABLE, byte 25). -/
def LimitingCause.code : LimitingCause → Nat
  | .source n => n
  | .peer n => 64 + n
  | .none => 255

/-- The snapshot state (STATUS RECORD TABLE, byte 55). -/
def SnapshotState.code : SnapshotState → Nat
  | .none => 0
  | .waiting => 1
  | .emitting _ => 2

/-- The 14 bytes of a peer entry in a STATUS record. -/
def PeerStatus.bytes (p : PeerStatus) : List Byte :=
  bytesOf 1 p.state.code ++ bytesOf 5 p.horizon ++
    bytesOf 1 (p.hold.toNat + 2 * p.senderState.isSome.toNat + 4 * (p.senderState.map SenderState.code).getD 0) ++
    bytesOf 1 p.lastEpoch ++ bytesOf 2 p.frames ++ bytesOf 2 p.changes ++ bytesOf 2 p.errors

/-- Byte 14 of a STATUS record. -/
def StatusRecord.presence (r : StatusRecord) : Nat :=
  sixBits r.stepArmed r.holdAt.isSome r.skipEnable r.stall r.ownAnnounced.isSome r.releasePoint.isSome +
    64 * r.capture.first.isSome.toNat + 128 * (r.capture.first.bind ErrorReport.subject).isSome.toNat

/-- STATUS RECORD TABLE, 305 bytes; absent fields are written as zero (R157). -/
def StatusRecord.bytes (r : StatusRecord) : List Byte :=
  bytesOf 1 r.number ++ bytesOf 1 r.state.code ++ bytesOf 1 r.epoch ++ bytesOf 5 r.clock ++ bytesOf 2 r.fraction ++
    bytesOf 3 r.rate ++ bytesOf 1 r.causes.code ++ bytesOf 1 r.presence ++ bytesOf 5 (r.holdAt.getD 0) ++
    bytesOf 5 r.safeTime ++ bytesOf 1 r.limiting.code ++ bytesOf 5 r.lw ++ bytesOf 5 (r.ownAnnounced.getD 0) ++
    (r.releasePoint.getD ⟨0, 0, 0, 0⟩).bytes ++ bytesOf 2 r.pendingOccupancy ++ bytesOf 2 r.remoteOccupancy ++
    bytesOf 2 r.timerOccupancy ++ bytesOf 1 r.outgoingOccupancy ++ bytesOf 1 r.deliveryOccupancy ++
    bytesOf 1 (r.releaseInFlight.toNat + 2 * r.applyInFlight.toNat + 4 * r.relabelInFlight.toNat +
      8 * r.snapshot.code) ++
    bytesOf 1 r.transmitter.code ++ bytesOf 1 r.failures ++ bytesOf 2 r.good ++ bytesOf 2 r.sync ++ bytesOf 2 r.crc ++
    bytesOf 2 r.overrun ++ r.peers.flatMap PeerStatus.bytes ++ bytesOf 1 r.flags.code ++ bytesOf 1 r.mask.code ++
    bytesOf 1 r.highest ++ bytesOf 1 ((r.capture.first.map fun e => e.kind.code).getD 0) ++
    bytesOf 1 ((r.capture.first.bind ErrorReport.subject).getD 0) ++
    bytesOf 6 ((r.capture.first.map ErrorReport.time).getD 0) ++ bytesOf 2 r.capture.later ++
    bytesOf 2 ((r.capture.latestKind.map ErrorKind.code).getD 0)

/-- DELIVERY KIND TABLE: kind codes. -/
def RecordBody.kind : RecordBody → Byte
  | .event _ => 1
  | .remote _ => 2
  | .stuck _ _ _ => 3
  | .chatterEnd _ _ _ _ => 4
  | .islands _ => 5
  | .mark _ _ _ => 6
  | .holdState _ _ => 7
  | .complete _ _ _ => 8
  | .restarted _ _ _ _ => 9
  | .reply _ => 10
  | .status _ => 11
  | .skew _ => 12
  | .elementState _ _ => 13
  | .nodeLabels _ _ _ => 14

/-- DELIVERY KIND TABLE: body lengths. -/
def RecordBody.length : RecordBody → Nat
  | .event _ => 34
  | .remote _ => 19
  | .stuck _ _ _ => 11
  | .chatterEnd _ _ _ _ => 9
  | .islands r => 23 + 3 * r.changes.length
  | .mark _ _ _ => 13
  | .holdState _ _ => 7
  | .complete _ _ _ => 17
  | .restarted _ _ _ _ => 10
  | .reply _ => 5
  | .status _ => 305
  | .skew _ => 49
  | .elementState _ _ => 40
  | .nodeLabels _ _ _ => 131

/-- The body bytes of the records that file 11 lays out byte by byte: EVENT, REMOTE, reply and STATUS. It gives only the
lengths of the others (log entry 8). -/
def RecordBody.bytes : RecordBody → Option (List Byte)
  | .event r => some r.bytes
  | .remote r => some r.bytes
  | .reply r => some r.bytes
  | .status r => some r.bytes
  | .stuck _ _ _ => none
  | .chatterEnd _ _ _ _ => none
  | .islands _ => none
  | .mark _ _ _ => none
  | .holdState _ _ => none
  | .complete _ _ _ => none
  | .restarted _ _ _ _ => none
  | .skew _ => none
  | .elementState _ _ => none
  | .nodeLabels _ _ _ => none

/-- The 4-byte header of a delivery record: kind, epoch, body length. -/
def DeliveryRecord.header (r : DeliveryRecord) : List Byte :=
  [r.body.kind, BitVec.ofNat 8 r.epoch] ++ bytesOf 2 r.body.length

/-- The 14 bytes of an EVENT record's body (EVENT RECORD BODY TABLE, file 11). -/
def eventBodyBytes (b : Sys2Proof.EventBody) : List Byte :=
  [b.source] ++ bytesOf 2 b.sequence.toNat ++ bytesOf 6 b.raw.toNat ++ bytesOf 2 b.point.toNat ++
    [b.position, b.cause, b.quality]

/-- The number that bytes spell, the most significant first. -/
def numberOfBytes (bs : List Byte) : Nat := bs.foldl (fun n b => 256 * n + b.toNat) 0

/-- The EVENT record read from the bytes received before the end-of-record signal (file 11, R155): byte 0 is the kind
code 7, byte 1 the length byte, and the body follows. -/
def eventOfBytes (bs : List Byte) : Option Sys2Proof.Instr :=
  match bs with
  | k :: l :: body =>
    if k = kindEvent then
      some (.event ⟨l, bs.length⟩ {
        source := (body[0]?).getD 0
        sequence := BitVec.ofNat 16 (numberOfBytes ((body.drop 1).take 2))
        raw := BitVec.ofNat 48 (numberOfBytes ((body.drop 3).take 6))
        point := BitVec.ofNat 16 (numberOfBytes ((body.drop 9).take 2))
        position := (body[11]?).getD 0
        cause := (body[12]?).getD 0
        quality := (body[13]?).getD 0 })
    else none
  | _ => none

end Sys2Proof.Machine
end

