-- ==== Sys2Proof/Machine/Restart.lean ====
section
/-! DEFINITION. The start of an epoch: what commit and RESTART set in every block (R150, R153, R154), and power-on reset
(R146). -/

namespace Sys2Proof.Machine

/-- An element at the start of an epoch (R111). -/
def Element.epochStart (e : Element) : Element :=
  { e with
    current := e.initial
    travelStart := none
    stuck := false
    chatter := .normal
    windowStart := none
    windowCount := 0
    suppressed := 0
    lastRelease := none }

/-- A peer entry at the start of an epoch (R79): AWAITED where its bit is set in the expected peer mask and it is not
the own station. The bit of station `n` is bit `n` of the mask (log entry 9). -/
def Peer.epochStart (own : Nat) (mask : BitVec 16) (n : Nat) (p : Peer) : Peer :=
  { p with
    state := if n ≠ own ∧ mask.getLsbD n = true then .awaited else .notExpected
    horizon := 0
    hold := false
    senderState := none
    expectedSeq := none
    silence := none
    discarded := 0 }

/-- The replay clock at the start of an epoch (R94). -/
def Clock.epochStart (c : Clock) (startTime : Nat) : Clock where
  integer := startTime
  fraction := 0
  rate := c.rate
  causes := { HoldCauses.empty with startPending := true }
  broadcastBreak := false
  stepArmed := false
  holdAt := none
  skipEnable := c.skipEnable
  stallTimer := none
  stall := false
  reported := .held

/-- Every label its own number, the uncertain count 0, and a relabel started (R131). The island count is left until the
relabel computes it (log entry 10). -/
def IslandUnit.epochStart (u : IslandUnit) (cause : RelabelCause) : IslandUnit where
  labels := ownLabels
  islandCount := u.islandCount
  uncertainCount := 0
  relabel := some ⟨cause, .computing⟩

/-- The parts of the state that commit and RESTART set alike (R8, R79, R94, R108, R111, R131). -/
def State.epochStart (s : State) (cause : RelabelCause) : State :=
  { s with
    sources := s.sources.mapIdx fun _ (r : Source) => r.epochStart
    elements := s.elements.mapIdx fun _ (e : Option Element) => e.map Element.epochStart
    pendingQueue := []
    outgoing := []
    remotes := []
    timers := []
    engine := ⟨none, none, none, .none, false⟩
    islands := s.islands.epochStart cause
    peers := s.peers.mapIdx fun n (p : Peer) => p.epochStart s.station.number s.settings.expectedMask n
    processing := none
    horizon := { s.horizon with ownAnnounced := none }
    clock := s.clock.epochStart s.settings.startTime }

/-- The transmitter at RESTART (R69): a frame on the line is cut, and the transmitter is WAITING. -/
def Transmitter.restarted (t : Transmitter) : Transmitter :=
  { t with
    sequence := 0
    lastSent := none
    state := match t.state with
      | .sending _ => .waiting
      | .idle => .idle
      | .waiting => .waiting
      | .backoff n => .backoff n
      | .muted e => .muted e }

/-- The answer of an intake that a restart ends; the port returns to READY (R6, R154). -/
def FeedPort.restarted (p : FeedPort) : FeedPort :=
  match p.intake with
  | some _ => ⟨.ready, some (answerDiscarded kindEvent .restarted), none⟩
  | none => p

/-- The new epoch's restart request: the option of a command restart; cleared by a followed one (R151, R152). -/
def RestartCause.request : RestartCause → Bool
  | .command b => b
  | .peer _ => false

/-- A restart of either cause (R151 to R154): every block at the epoch's starting values, every operation in flight
ended, and the RESTARTED record first in the emptied delivery queue. -/
def State.restartAct (s : State) (cause : RestartCause) (epoch : Nat) : State :=
  let t := { s.epochStart .restart with
    station := { s.station with state := .ready, epoch := epoch, restartRequest := cause.request }
    feed := s.feed.restarted
    tx := s.tx.restarted
    rx := { s.rx with buffers := [] }
    delivery := { s.delivery with queue := [] }
    console := { s.console with skew := none } }
  (t.enqueue (.restarted cause s.station.epoch epoch s.settings.startTime)).settle s

/-- A successful commit (R150). The watch marks are cleared and the delivery queue is emptied of records not begun. -/
def State.commitAct (s : State) : State :=
  let t := { s.epochStart .commit with
    station := { s.station with state := .ready }
    elements := s.elements.mapIdx fun _ (e : Option Element) => e.map fun (x : Element) => { x.epochStart with watch := .none }
    tx := { s.tx with sequence := 0 }
    delivery := { s.delivery with queue := [] }
    attention := { s.attention with mask := s.settings.initialMask } }
  (t.placeAnswer (answerTaken kindCommit)).settle s

/-- POWER_ON_RESET (R146): the straps give the station number, and every block takes its power-on values. The console's
ready signal is the console's own (log entry 6); the queue of commands and the free value counter are the model's. -/
def State.powerOnAct (s : State) (straps : BitVec 4) : State :=
  { State.powerOn straps.toNat with
    delivery := ⟨[], none, s.delivery.ready⟩
    freeCount := s.freeCount
    pending := s.pending }

/-- POWER_ON_RESET. -/
def execPowerOnReset (straps : BitVec 4) (s : State) : Host.Outcome State Fault Refusal :=
  .next (s.powerOnAct straps)

end Sys2Proof.Machine
end

