-- ==== Sys2Proof/Machine/CommandUnit.lean ====
section
/-! DEFINITION. The command unit (R135, R136): one command in flight, the tests of each command, its effect, its reply. -/

namespace Sys2Proof.Machine

/-! ## The commands' own tests -/

/-- LOCAL, STEP or BREAK is present (R100, R101). -/
def HoldCauses.resumable (c : HoldCauses) : Bool := c.localHold || c.step || c.brk

/-- The release point lies below a horizon, or is absent (R93). -/
def State.beyondReleasePoint (s : State) (horizon : Nat) : Bool :=
  match s.engine.releasePoint with
  | some k => k.time < horizon
  | none => true

/-- The command's own tests, in the order its rule gives; none where it is accepted. -/
def State.ownTest (s : State) : Command → Option RefuseReason
  | .resume _ => if s.clock.causes.resumable then none else some .notHeld
  | .step _ =>
    if s.clock.stepArmed then some .busy
    else if s.clock.causes.resumable then none else some .notHeld
  | .holdAt _ t =>
    if t.toNat ≤ s.clock.integer ∨ maxTime < t.toNat then some .outOfRange else none
  | .watchSet _ n _ =>
    match s.elementAt n.toNat with
    | none => some .outOfRange
    | some e => if e.watch = .none ∧ watchCapacity ≤ s.watched.length then some .full else none
  | .watchClear _ n =>
    match s.elementAt n.toNat with
    | none => some .outOfRange
    | some e => if e.watch = .none then some .notApplicable else none
  | .excludePeer _ p => if (s.peer p.toNat).counted then none else some .notApplicable
  | .includePeer _ p =>
    let e := s.peer p.toNat
    if e.state ≠ .excluded then some .notApplicable
    else if e.lastEpoch = s.station.epoch ∧ e.discarded = 0 ∧ s.beyondReleasePoint e.horizon = true then none
    else some .notNow
  | .snapshot _ => if s.engine.snapshot = .none then none else some .busy
  | .skew _ => if s.console.skew = none then none else some .busy
  | .start _ => none
  | .hold _ => none
  | .setRate _ _ => none
  | .skipOn _ => none
  | .skipOff _ => none
  | .status _ => none
  | .restart _ _ => none
  | .clearFlags _ _ => none
  | .mask _ _ => none
  | .malformed _ => none

/-- The tests of R135 in their order: form, station state, the command's own; none where the command is accepted. -/
def State.commandTest (s : State) (c : Command) : Option RefuseReason :=
  if !commandFormHolds c then some .malformed
  else if !commandAccepted s.station.state c then some .wrongState
  else s.ownTest c

/-! ## The effects -/

/-- START (R99, R151): START_PENDING and the restart request are cleared, the station is REPLAYING. -/
def State.startAct (s : State) : State :=
  ({ s with
    station := { s.station with state := .replaying, restartRequest := false }
    clock := { s.clock with causes := { s.clock.causes with startPending := false } } }).settle s

/-- HOLD (R100). -/
def State.holdAct (s : State) : State :=
  ({ s with clock := { s.clock with
      causes := { s.clock.causes with localHold := true }, stepArmed := false } }).wantFrame

/-- RESUME (R100). -/
def State.resumeAct (s : State) : State :=
  ({ s with clock := { s.clock with
      causes := { s.clock.causes with localHold := false, step := false, brk := false }
      broadcastBreak := false
      stepArmed := false } }).wantFrame

/-- STEP (R101). -/
def State.stepAct (s : State) : State := { s with clock := { s.clock with stepArmed := true } }

/-- The rate word of a requested rate, clamped (R96). -/
def clampedRate (requested : Nat) : Nat :=
  if requested = 0 then 1 else if maxRate < requested then maxRate else requested

/-- SET_RATE (R96). -/
def State.setRateAct (s : State) (rate : BitVec 32) : State :=
  { s with clock := { s.clock with rate := clampedRate rate.toNat } }

/-- HOLD_AT (R103). -/
def State.holdAtAct (s : State) (t : BitVec 40) : State :=
  { s with clock := { s.clock with holdAt := some t.toNat } }

/-- SKIP_ON and SKIP_OFF (R144). -/
def State.skipAct (s : State) (on : Bool) : State := { s with clock := { s.clock with skipEnable := on } }

/-- An element's watch mark is written; the watch list is the set of elements whose mark is not none (R142, R143). -/
def State.watchAct (s : State) (n : Nat) (m : WatchMark) : State :=
  match s.elementAt n with
  | some e => s.setElement n { e with watch := m }
  | none => s

/-- EXCLUDE (R92). -/
def State.excludeAct (s : State) (n : Nat) : State :=
  let p := s.peer n
  (s.setPeer n { p with
    state := .excluded
    silence := none
    discarded := if p.state = .desync then 1 else 0
    expectedSeq := if p.state = .desync ∨ p.state = .foreignEpoch then none else p.expectedSeq }).settleComplete s

/-- INCLUDE (R93). -/
def State.includeAct (s : State) (n : Nat) : State :=
  let p := s.peer n
  (s.setPeer n { p with
    state := if p.horizon = endTime then .ended else .active
    silence := if p.horizon = endTime then none else some 0 }).settle s

/-- SNAPSHOT: the snapshot becomes WAITING (R122). -/
def State.snapshotAct (s : State) : State := { s with engine := { s.engine with snapshot := .waiting } }

/-- SKEW: the emission begins (R141). -/
def State.skewAct (s : State) : State := { s with console := { s.console with skew := some 0 } }

/-- CLEAR_FLAGS (R138); naming ERROR empties the error capture (R139). -/
def State.clearFlagsAct (s : State) (flags : Byte) : State :=
  let named := AttentionFlags.ofByte flags
  { s with attention := { s.attention with
      flags := s.attention.flags.cleared named s.clock.stall s.linkHolds
      capture := if named.error then ⟨none, 0, none⟩ else s.attention.capture } }

/-- MASK (R138). -/
def State.maskAct (s : State) (entries : Byte) : State :=
  { s with attention := { s.attention with mask := AttentionFlags.ofByte entries } }

/-- What an accepted command does at its owning block. -/
def State.commandEffect (s : State) : Command → State
  | .start _ => s.startAct
  | .hold _ => s.holdAct
  | .resume _ => s.resumeAct
  | .step _ => s.stepAct
  | .setRate _ r => s.setRateAct r
  | .holdAt _ t => s.holdAtAct t
  | .skipOn _ => s.skipAct true
  | .skipOff _ => s.skipAct false
  | .watchSet _ n k => s.watchAct n.toNat ((WatchMark.ofCode k).getD .none)
  | .watchClear _ n => s.watchAct n.toNat .none
  | .excludePeer _ p => s.excludeAct p.toNat
  | .includePeer _ p => s.includeAct p.toNat
  | .snapshot _ => s.snapshotAct
  | .skew _ => s.skewAct
  | .restart _ b => s.restartAct (.command ((yesNo b).getD false)) ((s.station.epoch + 1) % 256)
  | .clearFlags _ f => s.clearFlagsAct f
  | .mask _ m => s.maskAct m
  | .status _ => s
  | .malformed _ => s

/-! ## Replies and STATUS -/

/-- RATE_CLAMPED: an accepted SET_RATE whose request was clamped (R96). -/
def rateClamped : Command → Bool
  | .setRate _ r => clampedRate r.toNat != r.toNat
  | _ => false

/-- A peer entry as STATUS reports it (R140). -/
def Peer.report (p : Peer) : PeerStatus :=
  ⟨p.state, p.horizon, p.hold, p.senderState, p.lastEpoch, p.frames, p.changes, p.errors⟩

/-- The STATUS record, built from the state of every block (R140, R157). -/
def State.statusRecord (s : State) : StatusRecord where
  number := s.station.number
  state := s.station.state
  epoch := s.station.epoch
  clock := s.clock.integer
  fraction := s.clock.fraction
  rate := s.clock.rate
  causes := s.clock.causes
  stepArmed := s.clock.stepArmed
  holdAt := s.clock.holdAt
  skipEnable := s.clock.skipEnable
  stall := s.clock.stall
  safeTime := s.horizon.safeTime
  limiting := s.horizon.limiting
  lw := s.horizon.lw
  ownAnnounced := s.horizon.ownAnnounced
  releasePoint := s.engine.releasePoint
  pendingOccupancy := s.pendingQueue.length
  remoteOccupancy := s.remotes.length
  timerOccupancy := s.timers.length
  outgoingOccupancy := s.outgoing.length
  deliveryOccupancy := s.delivery.queue.length
  releaseInFlight := s.engine.inFlight.isSome
  applyInFlight := s.engine.apply.isSome
  relabelInFlight := s.islands.relabel.isSome
  snapshot := s.engine.snapshot
  transmitter := s.tx.state
  failures := s.tx.failures
  good := s.rx.good
  sync := s.rx.sync
  crc := s.rx.crc
  overrun := s.rx.overrun
  peers := s.peers.toList.map Peer.report
  flags := s.attention.flags
  mask := s.attention.mask
  highest := s.attention.flags.highest
  capture := s.attention.capture

/-- The reply of a command, with the flags as they stand after the act (R136). The reply of an accepted STATUS is the
STATUS record (R140). -/
def State.replyBody (after : State) (c : Command) (reason : Option RefuseReason) : RecordBody :=
  match c, reason with
  | .status _, none => .status after.statusRecord
  | _, _ => .reply ⟨commandKind c, reason, reason.isNone && rateClamped c, after.attention.flags⟩

/-- The command unit decides a command in one act (R135): the tests, the effect where it is accepted, the reply. R98 lets an
owed HOLD_STATE reach the queue on either side of the reply of the command that owes it; here the reply is always
first (log entry 33). -/
def State.decideCommand (s : State) (c : Command) : State :=
  let t := { s with console := { s.console with inFlight := none } }
  match t.commandTest c with
  | some r => t.enqueue (t.replyBody c (some r))
  | none =>
    let u := t.commandEffect c
    u.enqueue (u.replyBody c none)

/-- The command in flight can be decided: one free delivery entry and, for EXCLUDE and INCLUDE, no frame processing in
flight (R135). -/
def State.canDecide (s : State) (c : Command) : Bool :=
  s.roomForReply && (!waitsForProcessing c || s.processing.isNone)

/-- The command waiting, if any, is decided where it can be (R135). -/
def State.decideWaiting (s : State) : State :=
  match s.console.inFlight with
  | some c => if s.canDecide c then s.decideCommand c else s
  | none => s

/-- The write of a command ends: the command is in flight, and is decided at once where it can be. The end of a write
that was ignored does nothing (R135). -/
def State.submit (s : State) (c : Command) : State :=
  if s.console.writing then
    ({ s with console := { s.console with writing := false, inFlight := some c } }).decideWaiting
  else s

/-- The start of a command's write (R135): ignored with CONSOLE_PROTO where another command is in flight. -/
def State.commandWriteStart (s : State) : State :=
  match s.console.inFlight with
  | some _ => s.report .consoleProto none
  | none => { s with console := { s.console with writing := true } }

end Sys2Proof.Machine
end

