-- ==== Sys2Proof/Machine/Intake.lean ====
section
/-! DEFINITION. The feed port and the intake of records: file 01, the SEGMENT record of file 02, and the settings and
description records and COMMIT of file 10. A record row is the end of the record's write. -/

namespace Sys2Proof.Machine

/-- The start of a record's write (R3): READY goes BUSY; while BUSY the write is ignored with FEED_PROTO. -/
def State.feedWriteStart (s : State) : State :=
  match s.feed.port with
  | .ready => { s with feed := { s.feed with port := .busy } }
  | .busy => s.report .feedProto none

/-- A record of kind `kind` whose screening gave `verdict`: refused (R5), or handed to its own work. The end of a write
that the port ignored hands nothing over (R3). -/
def State.receiveRecord (s : State) (kind : Byte) (verdict : Option AnswerReason) (work : State → State) : State :=
  if s.recordArrives then
    match verdict with
    | some r => s.placeAnswer (answerRefused kind r)
    | none => work s
  else s

/-! ## Settings and description (R147, R10, R148, R13) -/

/-- Screening of a STATION_SETTINGS record (R5, R147). -/
def State.screenSettings (s : State) (f : Sys2Proof.RecordForm) (b : Sys2Proof.SettingsBody) : Option AnswerReason :=
  screen (formHolds kindSettings f && (yesNo b.follow).isSome) s.acceptsDescription (settingsInRange b)

/-- A STATION_SETTINGS record taken replaces every setting (R147). -/
def State.takeSettings (s : State) (b : Sys2Proof.SettingsBody) : State :=
  ({ s with settings := settingsOf b }.toLoading).placeAnswer (answerTaken kindSettings)

/-- Screening of a DECLARE_SOURCE record (R5, R10, R22). -/
def State.screenDeclare (s : State) (f : Sys2Proof.RecordForm) (b : Sys2Proof.DeclareBody) : Option AnswerReason :=
  screen (formHolds kindDeclare f) s.acceptsDescription
    (decide (b.source.toNat ≤ 31) && decide (b.quality.toNat ≤ 3) && decide (b.window.toNat ≤ maxWindow) &&
      (segmentOf b.segment).inRange)

/-- A DECLARE_SOURCE record past screening (R10): CONFLICT where the source is DECLARED, else taken. -/
def State.takeDeclare (s : State) (b : Sys2Proof.DeclareBody) : State :=
  let n := b.source.toNat
  if (s.source n).state = .declared then s.placeAnswer (answerRefused kindDeclare .conflict)
  else
    ((s.setSource n { s.source n with
      state := .declared
      startBound := some b.startBound.toNat
      quality := some b.quality.toNat
      window := some b.window.toNat
      firstSegment := some (segmentOf b.segment) }).toLoading).placeAnswer (answerTaken kindDeclare)

/-- Screening of an ELEMENT record (R5, R148). -/
def State.screenElement (s : State) (f : Sys2Proof.RecordForm) (b : Sys2Proof.ElementBody) : Option AnswerReason :=
  screen (formHolds kindElement f && elementNamed b) s.acceptsDescription (elementInRange b)

/-- An ELEMENT record past screening (R148): CONFLICT where the number is described, else taken. -/
def State.takeElement (s : State) (b : Sys2Proof.ElementBody) : State :=
  if (s.elementAt b.number.toNat).isSome then s.placeAnswer (answerRefused kindElement .conflict)
  else ((s.setElement b.number.toNat (elementOf b)).toLoading).placeAnswer (answerTaken kindElement)

/-- Screening of a POINT record (R5, R13). -/
def State.screenPoint (s : State) (f : Sys2Proof.RecordForm) (b : Sys2Proof.PointBody) : Option AnswerReason :=
  screen (formHolds kindPoint f && (yesNo b.invert).isSome) s.acceptsDescription (decide (b.source.toNat ≤ 31))

/-- The point map's entry for a source and a point number (R13, R14). -/
def State.pointEntry (s : State) (source point : Nat) : Option PointEntry :=
  s.points.find? fun p => p.source == source && p.point == point

/-- The three checks on a POINT record, in their order (R13). -/
def State.checkPoint (s : State) (b : Sys2Proof.PointBody) : Option AnswerReason :=
  if (s.source b.source.toNat).state ≠ .declared then some .conflict
  else if (s.pointEntry b.source.toNat b.point.toNat).isSome then some .conflict
  else if pointCapacity ≤ s.points.length then some .outOfRange
  else none

/-- A POINT record past screening (R13). -/
def State.takePoint (s : State) (b : Sys2Proof.PointBody) : State :=
  match s.checkPoint b with
  | some r => s.placeAnswer (answerRefused kindPoint r)
  | none =>
    ({ s with points := s.points ++
        [PointEntry.mk b.source.toNat b.point.toNat b.element.toNat ((yesNo b.invert).getD false)] }.toLoading).placeAnswer
      (answerTaken kindPoint)

/-! ## COMMIT (R149) -/

/-- Check 2: a point map entry's element is present and not MIRROR. -/
def State.pointCommits (s : State) (p : PointEntry) : Bool :=
  match s.elementAt p.element with
  | some e => match e.ownership with
    | .mirror _ _ => false
    | .localOnly => true
    | .localTie _ => true
  | none => false

/-- Check 3: node A differs from node B. -/
def Element.nodesDiffer (e : Element) : Bool :=
  match e.nodes with
  | some (a, b) => a != b
  | none => true

/-- The tie numbers carried by elements. -/
def State.ties (s : State) : List Nat := s.present.filterMap fun p => p.2.tie

/-- Check 5: a MIRROR element's owner is not the own station and is expected. -/
def State.ownerCommits (s : State) (e : Element) : Bool :=
  match e.ownership with
  | .mirror _ o => o != s.station.number && s.settings.expectedMask.getLsbD o
  | .localOnly => true
  | .localTie _ => true

/-- The five checks of COMMIT in their order (R149). -/
def State.checkCommit (s : State) : Option AnswerReason :=
  if !s.sources.toList.any (fun r => r.state == .declared) then some .conflict
  else if !s.points.all s.pointCommits then some .conflict
  else if !s.present.all (fun p => p.2.nodesDiffer) then some .conflict
  else if !decide s.ties.Nodup then some .conflict
  else if !s.present.all (fun p => s.ownerCommits p.2) then some .outOfRange
  else none

/-- A COMMIT past screening: refused by the first check that fails, or the commit act (R149, R150). A command waiting
for reply space is then decided, since the delivery queue is empty (R135). -/
def State.takeCommit (s : State) : State :=
  match s.checkCommit with
  | some r => s.placeAnswer (answerRefused kindCommit r)
  | none => s.commitAct.decideWaiting

/-! ## Records of a source -/

/-- The source-state check of R11: what ends the record, if anything. An ENDED source's PROGRESS and END_SOURCE are taken
with no effect. -/
def State.sourceCheck (s : State) (kind : Byte) (n : Nat) : Option Answer :=
  match (s.source n).state with
  | .opened => none
  | .live => none
  | .ended =>
    if kind = kindProgress ∨ kind = kindEndSource then some (answerTaken kind)
    else some (answerDiscarded kind .sourceEnded)
  | .undeclared => some (answerDiscarded kind .undeclared)
  | .declared => some (answerDiscarded kind .undeclared)

/-- The raw time of reference of the staleness test (R24). -/
def Source.reference (r : Source) : Nat :=
  match r.state with
  | .live => r.lastRaw.getD 0
  | _ => r.startBound.getD 0

/-- A SEGMENT record past screening (R24). -/
def State.takeSegment (s : State) (b : Sys2Proof.SegmentBody) : State :=
  let n := b.source.toNat
  let g := segmentOf b.segment
  match s.sourceCheck kindSegment n with
  | some a => s.placeAnswer a
  | none =>
    if g.anchor ≤ (s.source n).reference then s.placeAnswer (answerRefused kindSegment .staleSegment)
    else (s.setSource n { s.source n with next := some g }).placeAnswer (answerTaken kindSegment)

/-- A PROGRESS record past screening (R17, R25, R31). -/
def State.takeProgress (s : State) (b : Sys2Proof.ProgressBody) : State :=
  let n := b.source.toNat
  match s.sourceCheck kindProgress n with
  | some a => s.placeAnswer a
  | none =>
    let r := (s.source n).promote b.bound.toNat
    let bound := corrected r.segment b.bound.toNat
    ((s.setSource n { r with watermark := some (max (r.watermark.getD 0) bound) }).placeAnswer
      (answerTaken kindProgress)).settle s

/-- An END_SOURCE record past screening (R18). -/
def State.takeEndSource (s : State) (source : Byte) : State :=
  let n := source.toNat
  match s.sourceCheck kindEndSource n with
  | some a => s.placeAnswer a
  | none =>
    ((s.setSource n { s.source n with watermark := some endTime, state := .ended, next := none }).placeAnswer
      (answerTaken kindEndSource)).settleComplete s

/-! ## EVENT, steps 1 to 7 -/

/-- Screening of an EVENT record (R5). -/
def State.screenEvent (s : State) (f : Sys2Proof.RecordForm) (b : Sys2Proof.EventBody) : Option AnswerReason :=
  screen (formHolds kindEvent f && (Position.ofReport b.position).isSome) s.acceptsReplay
    (decide (b.source.toNat ≤ 31) && decide (b.quality.toNat ≤ 3))

/-- How far the sequence stands from the expected one, modulo 65536 (R15). -/
def sequenceDistance (sequence expected : Nat) : Nat := (sequence + 65536 - expected % 65536) % 65536

/-- The classes of R15; a record of an OPEN source is not classified. -/
inductive SequenceClass where
  | inOrder
  | gap (count : Nat)
  | repetition
  deriving DecidableEq, Repr

/-- Sequence classification (R15). -/
def Source.classify (r : Source) (sequence : Nat) : SequenceClass :=
  match r.state with
  | .live =>
    let d := sequenceDistance sequence r.expectedSeq
    if d = 0 then .inOrder else if d ≤ 32767 then .gap d else .repetition
  | _ => .inOrder

/-- The gap count of a class. -/
def SequenceClass.gapCount : SequenceClass → Option Nat
  | .gap d => some d
  | .inOrder => none
  | .repetition => none

/-- The tie number of a LOCAL_TIE element. -/
def State.localTieOf (s : State) (element : Nat) : Option Nat :=
  match s.elementAt element with
  | some e => match e.ownership with
    | .localTie t => some t
    | .localOnly => none
    | .mirror _ _ => none
  | none => none

/-- The free entries of the Pending Queue (R20, R38). -/
def State.freeEntries (s : State) : Nat := pendingCapacity - s.pendingQueue.length

/-- The admission test (R20): what defers the record, if anything. -/
def State.admission (s : State) (source element : Nat) : Option Answer :=
  if s.freeEntries = 0 then some (answerDeferred kindEvent .full s.laggard)
  else if s.freeEntries ≤ reserveSize ∧ s.isLaggard source = false then
    some (answerDeferred kindEvent .reserve s.laggard)
  else if (s.localTieOf element).isSome ∧ outgoingCapacity ≤ s.outgoing.length then
    some (answerDeferred kindEvent .outgoingFull none)
  else none

/-- The record's corrected time after correction step 6 (R29). -/
def heldTime (r : Source) (raw : Nat) : Nat := max (corrected r.segment raw) (r.watermark.getD 0)

/-- Correction step 6 holds the record at the watermark (R29). -/
def isReordered (r : Source) (raw : Nat) : Bool := decide (corrected r.segment raw < r.watermark.getD 0)

/-- The next intake ordinal after one was assigned; none once exhausted (R16). -/
def nextOrdinalAfter (o : Nat) : Option Nat := if o < max32 then some (o + 1) else none

/-- The source record after steps 5 to 7, `r` being the record after any promotion (R16, R25, R30). -/
def Source.commitEvent (r : Source) (b : Sys2Proof.EventBody) (ordinal : Nat) : Source :=
  { r with
    watermark := some (heldTime r b.raw.toNat)
    expectedSeq := (b.sequence.toNat + 1) % 65536
    lastRaw := some b.raw.toNat
    state := .live
    nextOrdinal := nextOrdinalAfter ordinal
    counters := { r.counters with taken := satSucc max32 r.counters.taken } }

/-- Reports an error where a condition holds. -/
def State.reportIf (s : State) (c : Bool) (kind : ErrorKind) (subject : Option Nat) : State :=
  if c then s.report kind subject else s

/-- The intake in flight after step 7 (R21); the effective quality is the worse of the record's and the source's. -/
def intakeOf (s : State) (r : Source) (b : Sys2Proof.EventBody) (p : PointEntry) (position : Position) (c : SequenceClass)
    (ordinal : Nat) : Intake where
  key := ⟨heldTime r b.raw.toNat, s.station.number, b.source.toNat, ordinal⟩
  element := p.element
  tie := s.localTieOf p.element
  position := if p.invert then position.inverted else position
  cause := b.cause.toNat
  quality := max b.quality.toNat (r.quality.getD 0)
  raw := b.raw.toNat
  sequence := b.sequence.toNat
  gap := c.gapCount
  clamped := correctionClamps r.segment b.raw.toNat
  reordered := isReordered r b.raw.toNat

/-- Steps 5 to 7 of an admitted EVENT (R7): promotion and correction with their error reports, the watermark, the
ordinal and the sequence, and the GAP report. The intake then stands before step 8. -/
def State.admitEvent (s : State) (b : Sys2Proof.EventBody) (p : PointEntry) (position : Position) (c : SequenceClass)
    (ordinal : Nat) : State :=
  let n := b.source.toNat
  let r := (s.source n).promote b.raw.toNat
  let t := s.setSource n (r.commitEvent b ordinal)
  let t := t.reportIf (correctionClamps r.segment b.raw.toNat) .clamped (some n)
  let t := t.reportIf (isReordered r b.raw.toNat) .reordered (some n)
  let t := t.reportIf c.gapCount.isSome .gap (some n)
  ({ t with feed := { t.feed with intake := some (intakeOf s r b p position c ordinal) } }).settle s

/-- An EVENT record past screening, through steps 1 to 7 (R7). -/
def State.takeEvent (s : State) (b : Sys2Proof.EventBody) : State :=
  let n := b.source.toNat
  match s.sourceCheck kindEvent n with
  | some a => s.placeAnswer a
  | none =>
    match (s.source n).nextOrdinal with
    | none => s.placeAnswer (answerRefused kindEvent .outOfRange)
    | some ordinal =>
      match s.pointEntry n b.point.toNat with
      | none =>
        ((s.countSource n fun k => { k with unmapped := satSucc max32 k.unmapped }).report .unmapped
          (some n)).placeAnswer (answerDiscarded kindEvent .unmapped)
      | some p =>
        match (s.source n).classify b.sequence.toNat with
        | .repetition =>
          ((s.countSource n fun k => { k with repeated := satSucc max32 k.repeated }).report .repeated
            (some n)).placeAnswer (answerDiscarded kindEvent .repeated)
        | .inOrder =>
          match s.admission n p.element with
          | some a => (s.countSource n fun k => { k with deferred := satSucc max32 k.deferred }).placeAnswer a
          | none => s.admitEvent b p ((Position.ofReport b.position).getD .bad) .inOrder ordinal
        | .gap d =>
          match s.admission n p.element with
          | some a => (s.countSource n fun k => { k with deferred := satSucc max32 k.deferred }).placeAnswer a
          | none => s.admitEvent b p ((Position.ofReport b.position).getD .bad) (.gap d) ordinal

/-! ## Meanings -/

/-- FEED_WRITE_START (R3). -/
def execFeedWriteStart (s : State) : Host.Outcome State Fault Refusal := .next s.feedWriteStart

/-- STATION_SETTINGS (R147). -/
def execStationSettings (f : Sys2Proof.RecordForm) (b : Sys2Proof.SettingsBody) (s : State) :
    Host.Outcome State Fault Refusal :=
  .next (s.receiveRecord kindSettings (s.screenSettings f b) fun s => s.takeSettings b)

/-- DECLARE_SOURCE (R10). -/
def execDeclareSource (f : Sys2Proof.RecordForm) (b : Sys2Proof.DeclareBody) (s : State) :
    Host.Outcome State Fault Refusal :=
  .next (s.receiveRecord kindDeclare (s.screenDeclare f b) fun s => s.takeDeclare b)

/-- ELEMENT (R148). -/
def execElement (f : Sys2Proof.RecordForm) (b : Sys2Proof.ElementBody) (s : State) :
    Host.Outcome State Fault Refusal :=
  .next (s.receiveRecord kindElement (s.screenElement f b) fun s => s.takeElement b)

/-- POINT (R13). -/
def execPoint (f : Sys2Proof.RecordForm) (b : Sys2Proof.PointBody) (s : State) :
    Host.Outcome State Fault Refusal :=
  .next (s.receiveRecord kindPoint (s.screenPoint f b) fun s => s.takePoint b)

/-- COMMIT (R149). -/
def execCommit (f : Sys2Proof.RecordForm) (s : State) : Host.Outcome State Fault Refusal :=
  .next (s.receiveRecord kindCommit (screen (formHolds kindCommit f) s.acceptsCommit true) State.takeCommit)

/-- SEGMENT (R24). -/
def execSegment (f : Sys2Proof.RecordForm) (b : Sys2Proof.SegmentBody) (s : State) :
    Host.Outcome State Fault Refusal :=
  .next (s.receiveRecord kindSegment
    (screen (formHolds kindSegment f) s.acceptsReplay
      (decide (b.source.toNat ≤ 31) && (segmentOf b.segment).inRange)) fun s => s.takeSegment b)

/-- EVENT, steps 1 to 7 (R7). -/
def execEvent (f : Sys2Proof.RecordForm) (b : Sys2Proof.EventBody) (s : State) : Host.Outcome State Fault Refusal :=
  .next (s.receiveRecord kindEvent (s.screenEvent f b) fun s => s.takeEvent b)

/-- PROGRESS (R17). -/
def execProgress (f : Sys2Proof.RecordForm) (b : Sys2Proof.ProgressBody) (s : State) :
    Host.Outcome State Fault Refusal :=
  .next (s.receiveRecord kindProgress
    (screen (formHolds kindProgress f) s.acceptsReplay (decide (b.source.toNat ≤ 31))) fun s => s.takeProgress b)

/-- END_SOURCE (R18). -/
def execEndSource (f : Sys2Proof.RecordForm) (source : Byte) (s : State) : Host.Outcome State Fault Refusal :=
  .next (s.receiveRecord kindEndSource
    (screen (formHolds kindEndSource f) s.acceptsEndSource (decide (source.toNat ≤ 31))) fun s => s.takeEndSource source)

/-- The kind code that the answer to a malformed record echoes; a free value where no byte was received (R155). -/
def echoedKind (s : State) (kind : Byte) (received : Nat) : Byte :=
  if received = 0 then Sys2Proof.Config.unreceivedKindEcho s.freeCount else kind

/-- A record whose kind code lies outside 1..9 (R155). -/
def State.takeMalformed (s : State) (kind : Byte) (received : Nat) : State :=
  { s with freeCount := s.freeCount + (if received = 0 then 1 else 0) }.placeAnswer
    (answerRefused (echoedKind s kind received) .malformed)

/-- MALFORMED_FEED_RECORD (R155). -/
def execMalformedFeedRecord (kind : Byte) (received : Nat) (s : State) : Host.Outcome State Fault Refusal :=
  .next (s.receiveRecord kind none fun s => s.takeMalformed kind received)

end Sys2Proof.Machine
end

