-- ==== Sys2Proof/Machine/Merge.lean ====
section
/-! DEFINITION. Steps 8 and 9 of an EVENT's intake: the duplicate search, insertion, merge and replacement (file 03). -/

namespace Sys2Proof.Machine

/-- A candidate of the duplicate search with the values it is taken with (R45); `pending` is none for the released
candidate. -/
structure Candidate where
  time     : Nat
  source   : Nat
  position : Position
  window   : Nat
  quality  : Nat
  pending  : Option PendingEntry
  deriving DecidableEq, Repr

/-- A source's duplicate window (R10). -/
def State.windowOf (s : State) (n : Nat) : Nat := (s.source n).window.getD 0

/-- A source's quality class (R10). -/
def State.classOf (s : State) (n : Nat) : Nat := (s.source n).quality.getD 0

/-- A Pending Queue entry as a candidate (R45, R46). -/
def State.pendingCandidate (s : State) (x : PendingEntry) : Candidate :=
  ⟨x.key.time, x.key.source, x.position, s.windowOf x.key.source, x.quality, some x⟩

/-- An item that has been released as a candidate: its window and quality are its source's (R45). -/
def State.releasedAs (s : State) (time source : Nat) (position : Position) : Candidate :=
  ⟨time, source, position, s.windowOf source, s.classOf source, none⟩

/-- The own event of element `n` that the release engine holds in flight (R42, R45). -/
def State.ownInFlight (s : State) (n : Nat) : Option PendingEntry :=
  match s.engine.inFlight with
  | some r => match r.item with
    | .own x => if x.element = n then some x else none
    | .remote _ => none
    | .timer _ => none
  | none => none

/-- The released candidate of element `n` (R45): the own event in flight, or the last release where it records a
recorded source. -/
def State.releasedCandidate (s : State) (n : Nat) : Option Candidate :=
  match s.ownInFlight n with
  | some x => some (s.releasedAs x.key.time x.key.source x.position)
  | none =>
    match (s.elementAt n).bind Element.lastRelease with
    | some l => if l.source ≤ 31 then some (s.releasedAs l.time l.source l.position) else none
    | none => none

/-- The candidates in the order of choice among equally near ones: the released candidate, then the pending candidates
in key order (R45, R47). -/
def State.candidates (s : State) (n : Nat) : List Candidate :=
  (s.releasedCandidate n).toList ++
    (s.pendingQueue.filter fun x => x.element == n).map s.pendingCandidate

/-- The magnitude of the difference of two times. -/
def timeDistance (a b : Nat) : Nat := (a - b) + (b - a)

/-- A candidate matches the record in intake (R46). -/
def State.candidateMatches (s : State) (e : Intake) (x : Candidate) : Bool :=
  x.position == e.position && x.source != e.key.source &&
    decide (timeDistance e.key.time x.time ≤ max (s.windowOf e.key.source) x.window)

/-- The nearest of some candidates, the first among equally near ones (R47). -/
def nearest (t : Nat) : List Candidate → Option Candidate
  | [] => none
  | x :: xs =>
    match nearest t xs with
    | none => some x
    | some y => if timeDistance t y.time < timeDistance t x.time then some y else some x

/-- The match of the record in intake (R47). -/
def State.findMatch (s : State) (e : Intake) : Option Candidate :=
  nearest e.key.time ((s.candidates e.element).filter (s.candidateMatches e))

/-- The entry built from an intake (R21, R37). -/
def Intake.entry (e : Intake) : PendingEntry where
  key := e.key
  element := e.element
  position := e.position
  cause := e.cause
  quality := e.quality
  raw := e.raw
  sequence := e.sequence
  gap := e.gap
  clamped := e.clamped
  reordered := e.reordered
  replaced := false
  boundary := e.tie.isSome
  announced := false
  confirmations := 0

/-- The outgoing copy of an entry on a LOCAL_TIE element (R40). -/
def Intake.copy (e : Intake) (tie : Nat) : OutgoingCopy :=
  ⟨e.key, tie, e.position, e.cause, e.quality, false, false⟩

/-- Insertion (R39): the entry in key order, PENDING of the source, the outgoing copy, TAKEN. -/
def State.insertEvent (s : State) (e : Intake) : State :=
  let t := { s with
    pendingQueue := insertByKey PendingEntry.key e.entry s.pendingQueue
    outgoing := match e.tie with
      | some tie => insertByKey OutgoingCopy.key (e.copy tie) s.outgoing
      | none => s.outgoing }
  (t.countSource e.key.source fun k => { k with pending := k.pending + 1 }).placeAnswer (answerTaken kindEvent)

/-- The entry's outgoing copy bars replacement: held by a frame on the line, or CARRIED (R41, R50). -/
def State.copyBars (s : State) (k : Key) : Bool :=
  s.outgoing.any fun c => c.key == k && (c.held || c.carried)

/-- The merge replaces its match (R50). -/
def State.replaces (s : State) (e : Intake) (x : PendingEntry) : Bool :=
  !x.announced && !s.copyBars x.key && decide (e.quality < x.quality)

/-- A confirmation count after one more match: it stays at 3 (R49). -/
def confirmed (n : Nat) : Nat := satSucc 3 n

/-- The entry that a replacement leaves: e's report in x, which keeps its element, position, BOUNDARY and confirmations
(R51). -/
def replacement (e : Intake) (x : PendingEntry) : PendingEntry :=
  { x with
    key := e.key
    cause := e.cause
    quality := e.quality
    raw := e.raw
    sequence := e.sequence
    gap := e.gap
    clamped := e.clamped
    reordered := e.reordered
    replaced := true
    confirmations := confirmed x.confirmations }

/-- The outgoing copies after the replacement of the entry of key `old`: its copy takes the new key, quality and cause,
and moves to its new place (R52). -/
def movedCopies (e : Intake) (old : Key) (cs : List OutgoingCopy) : List OutgoingCopy :=
  match cs.find? fun c => c.key == old with
  | some c =>
    insertByKey OutgoingCopy.key { c with key := e.key, quality := e.quality, cause := e.cause }
      (cs.filter fun c => c.key != old)
  | none => cs

/-- A replacement (R51 to R53). -/
def State.replaceMatch (s : State) (e : Intake) (x : PendingEntry) : State :=
  let t := { s with
    pendingQueue := insertByKey PendingEntry.key (replacement e x) (s.pendingQueue.filter fun y => y.key != x.key)
    outgoing := movedCopies e x.key s.outgoing }
  let t := t.countSource x.key.source fun k => { k with pending := k.pending - 1, merged := satSucc max32 k.merged }
  t.countSource e.key.source fun k => { k with pending := k.pending + 1 }

/-- A match against a pending entry that keeps its report: its confirmation count rises (R49). -/
def State.confirmMatch (s : State) (x : PendingEntry) : State :=
  { s with pendingQueue := s.pendingQueue.map fun y =>
      if y.key = x.key then { y with confirmations := confirmed y.confirmations } else y }

/-- MERGED of the record's source, and a skew sample where the match is at least as well kept (R48, R54). -/
def State.countMerge (s : State) (e : Intake) (quality time : Nat) : State :=
  let t := s.countSource e.key.source fun k => { k with merged := satSucc max32 k.merged }
  if quality ≤ e.quality then
    t.setSource e.key.source { t.source e.key.source with
      skew := (t.source e.key.source).skew.record (skewSample e.key.time time) }
  else t

/-- The merge of the record into its match (R48). -/
def State.mergeEvent (s : State) (e : Intake) (x : Candidate) : State :=
  let t := match x.pending with
    | some p => if s.replaces e p then s.replaceMatch e p else (s.confirmMatch p).countMerge e x.quality x.time
    | none => s.countMerge e x.quality x.time
  t.placeAnswer (answerMerged kindEvent)

/-- The merge act: the candidates are fixed, the match chosen and the insertion or merge done in one act (R55). With no
intake before step 8 there is no merge act. -/
def State.mergeAct (s : State) : State :=
  match s.feed.intake with
  | some e =>
    match s.findMatch e with
    | none => (s.insertEvent e).settle s
    | some x => (s.mergeEvent e x).settle s
  | none => s

/-- MERGE_ACT (R55). -/
def execMergeAct (s : State) : Host.Outcome State Fault Refusal := .next s.mergeAct

end Sys2Proof.Machine
end

