-- ==== Sys2Proof/Machine/Commands.lean ====
section
/-! DEFINITION. The console commands (files 06, 07, 09 and 10): a row is the end of the command's write (R135). Their
tests, effects and replies stand in Machine/CommandUnit.lean. -/

namespace Sys2Proof.Machine

/-- COMMAND_WRITE_START (R135). -/
def execCommandWriteStart (s : State) : Host.Outcome State Fault Refusal := .next s.commandWriteStart

/-- START (R99). -/
def execStart (lengthByte : Byte) (s : State) : Host.Outcome State Fault Refusal :=
  .next (s.submit (.start lengthByte))

/-- HOLD (R100). -/
def execHold (lengthByte : Byte) (s : State) : Host.Outcome State Fault Refusal :=
  .next (s.submit (.hold lengthByte))

/-- RESUME (R100). -/
def execResume (lengthByte : Byte) (s : State) : Host.Outcome State Fault Refusal :=
  .next (s.submit (.resume lengthByte))

/-- STEP (R101). -/
def execStep (lengthByte : Byte) (s : State) : Host.Outcome State Fault Refusal :=
  .next (s.submit (.step lengthByte))

/-- SET_RATE (R96). -/
def execSetRate (lengthByte : Byte) (rate : BitVec 32) (s : State) : Host.Outcome State Fault Refusal :=
  .next (s.submit (.setRate lengthByte rate))

/-- HOLD_AT (R103). -/
def execHoldAt (lengthByte : Byte) (time : BitVec 40) (s : State) : Host.Outcome State Fault Refusal :=
  .next (s.submit (.holdAt lengthByte time))

/-- SKIP_ON (R144). -/
def execSkipOn (lengthByte : Byte) (s : State) : Host.Outcome State Fault Refusal :=
  .next (s.submit (.skipOn lengthByte))

/-- SKIP_OFF (R144). -/
def execSkipOff (lengthByte : Byte) (s : State) : Host.Outcome State Fault Refusal :=
  .next (s.submit (.skipOff lengthByte))

/-- WATCH_SET (R142). -/
def execWatchSet (lengthByte : Byte) (element kind : Byte) (s : State) : Host.Outcome State Fault Refusal :=
  .next (s.submit (.watchSet lengthByte element kind))

/-- WATCH_CLEAR (R143). -/
def execWatchClear (lengthByte : Byte) (element : Byte) (s : State) : Host.Outcome State Fault Refusal :=
  .next (s.submit (.watchClear lengthByte element))

/-- EXCLUDE (R92). -/
def execExcludePeer (lengthByte : Byte) (peer : Byte) (s : State) : Host.Outcome State Fault Refusal :=
  .next (s.submit (.excludePeer lengthByte peer))

/-- INCLUDE (R93). -/
def execIncludePeer (lengthByte : Byte) (peer : Byte) (s : State) : Host.Outcome State Fault Refusal :=
  .next (s.submit (.includePeer lengthByte peer))

/-- SNAPSHOT (R122). -/
def execSnapshot (lengthByte : Byte) (s : State) : Host.Outcome State Fault Refusal :=
  .next (s.submit (.snapshot lengthByte))

/-- STATUS (R140). -/
def execStatus (lengthByte : Byte) (s : State) : Host.Outcome State Fault Refusal :=
  .next (s.submit (.status lengthByte))

/-- SKEW (R141). -/
def execSkew (lengthByte : Byte) (s : State) : Host.Outcome State Fault Refusal :=
  .next (s.submit (.skew lengthByte))

/-- RESTART (R151). -/
def execRestart (lengthByte : Byte) (broadcast : Byte) (s : State) : Host.Outcome State Fault Refusal :=
  .next (s.submit (.restart lengthByte broadcast))

/-- CLEAR_FLAGS (R138). -/
def execClearFlags (lengthByte : Byte) (flags : Byte) (s : State) : Host.Outcome State Fault Refusal :=
  .next (s.submit (.clearFlags lengthByte flags))

/-- MASK (R138). -/
def execMask (lengthByte : Byte) (entries : Byte) (s : State) : Host.Outcome State Fault Refusal :=
  .next (s.submit (.mask lengthByte entries))

/-- MALFORMED_COMMAND (R135): a command whose kind code lies outside 1..18. -/
def execMalformedCommand (kind : Byte) (s : State) : Host.Outcome State Fault Refusal :=
  .next (s.submit (.malformed kind))

end Sys2Proof.Machine
end

