-- ==== Sys2Proof/Machine/Deliver.lean ====
section
/-! DEFINITION. The delivery side of the console port: the ready signal and the sender (R133), and the records that the
clock, the release engine and the command unit owe it (R98, R124, R141). A record that lacks room, or is not owed, is
not queued: the row's event does not happen. -/

namespace Sys2Proof.Machine

/-- CONSOLE_READY_ASSERT (R133). -/
def execConsoleReadyAssert (s : State) : Host.Outcome State Fault Refusal :=
  .next { s with delivery := { s.delivery with ready := true } }

/-- CONSOLE_READY_WITHDRAW (R133): a record begun is sent whole all the same. -/
def execConsoleReadyWithdraw (s : State) : Host.Outcome State Fault Refusal :=
  .next { s with delivery := { s.delivery with ready := false } }

/-- The delivery sender begins the oldest record where ready is asserted, no record is being sent and the queue is not
empty; the entry is free from this moment, and a command waiting for it is decided (R133, R135). -/
def State.beginRecord (s : State) : State :=
  match s.delivery.queue with
  | [] => s
  | r :: rest =>
    if s.delivery.ready = true ∧ s.delivery.sending = none then
      ({ s with delivery := { s.delivery with queue := rest, sending := some r } }).decideWaiting
    else s

/-- DELIVERY_RECORD_BEGIN (R133). -/
def execDeliveryRecordBegin (s : State) : Host.Outcome State Fault Refusal := .next s.beginRecord

/-- DELIVERY_RECORD_END (R133): the record being sent has been sent whole. -/
def execDeliveryRecordEnd (s : State) : Host.Outcome State Fault Refusal :=
  .next { s with delivery := { s.delivery with sending := none } }

/-- An owed HOLD_STATE record is queued with the set and the clock as they stand, and the reported hold state becomes the
emptiness of that set (R98). -/
def State.queueHoldState (s : State) : State :=
  if s.holdStateOwed ∧ s.roomForRecord then
    let t := s.enqueue (.holdState s.clock.causes s.clock.integer)
    { t with clock := { t.clock with reported := t.clock.causes.holdState } }
  else s

/-- HOLD_STATE (R98). -/
def execHoldState (s : State) : Host.Outcome State Fault Refusal := .next s.queueHoldState

/-- The COMPLETE record is queued once there is room after completion (R124). -/
def State.queueComplete (s : State) : State :=
  if s.engine.completeOwed = true ∧ s.roomForRecord then
    let t := s.enqueue (.complete s.station.epoch s.engine.releasePoint s.clock.integer)
    { t with engine := { t.engine with completeOwed := false } }
  else s

/-- COMPLETE_RECORD (R124). -/
def execCompleteRecord (s : State) : Host.Outcome State Fault Refusal := .next s.queueComplete

/-- The declared sources from number `n` on, in increasing number (R141). -/
def State.declaredFrom (s : State) (n : Nat) : List Nat :=
  (List.range 32).filter fun i => decide (n ≤ i) && (s.source i).state != .undeclared

/-- The SKEW record of source `n`, as it stands at its queuing (R141). -/
def State.skewRecord (s : State) (n : Nat) : SkewRecord :=
  let r := s.source n
  ⟨n, r.state, r.quality, r.watermark, r.counters, r.skew⟩

/-- A SKEW emission queues the record of its next declared source; it ends with the last (R141). -/
def State.emitSkew (s : State) : State :=
  match s.console.skew with
  | none => s
  | some next =>
    match s.declaredFrom next with
    | [] => s
    | n :: rest =>
      if s.roomForRecord then
        let t := s.enqueue (.skew (s.skewRecord n))
        { t with console := { t.console with skew := rest.head? } }
      else s

/-- SKEW_RECORD (R141). -/
def execSkewRecord (s : State) : Host.Outcome State Fault Refusal := .next s.emitSkew

end Sys2Proof.Machine
end

