-- ==== Sys2Proof/Machine/Islands.lean ====
section
/-! DEFINITION. The island unit: labels, conduction, uncertain islands, the relabel and its record (file 08). -/

namespace Sys2Proof.Machine

/-- The element records present (R125). -/
def State.elementList (s : State) : List Element := s.elements.toList.filterMap id

/-- A node is in use when some present element with nodes names it (R125). -/
def State.nodesInUse (s : State) : List Nat :=
  (List.range 128).filter fun n => s.elementList.any fun e =>
    match e.nodes with
    | some (a, b) => a == n || b == n
    | none => false

/-- The joins: the nodes of the elements with nodes whose current position is CLOSED (R125). -/
def State.joins (s : State) : List (Nat × Nat) :=
  s.elementList.filterMap fun e => if e.current = .closed then e.nodes else none

/-- The nodes touched by an element in INTERMEDIATE, BAD or UNKNOWN (R126). -/
def State.uncertainNodes (s : State) : List Nat :=
  s.elementList.flatMap fun e =>
    match e.nodes with
    | some (a, b) => if e.current.uncertain then [a, b] else []
    | none => []

/-- The label of a node; a node is its own label where the table has no entry. -/
def labelAt (labels : Vector Nat 128) (n : Nat) : Nat := labels[n]?.getD n

/-- One join: the two nodes' islands become one, named by the lesser of their labels (R125). -/
def joinLabels (labels : Vector Nat 128) (join : Nat × Nat) : Vector Nat 128 :=
  let la := labelAt labels join.1
  let lb := labelAt labels join.2
  labels.mapIdx fun _ l => if l = la ∨ l = lb then min la lb else l

/-- The labels that a list of joins gives: every node alone, then one join after another (R125). -/
def labelsOf (joins : List (Nat × Nat)) : Vector Nat 128 := joins.foldl joinLabels ownLabels

/-- The number of islands that the nodes in use form: the distinct labels among them (R125). -/
def countIslands (labels : Vector Nat 128) (inUse : List Nat) : Nat :=
  ((inUse.map (labelAt labels)).dedup).length

/-- The number of uncertain islands: the distinct labels of the nodes an uncertain element touches (R126). -/
def countUncertain (labels : Vector Nat 128) (touched : List Nat) : Nat :=
  ((touched.map (labelAt labels)).dedup).length

/-- The change list: each node whose label changed, with its old and its new label, in increasing node number (R129). -/
def labelChanges (before after : Vector Nat 128) : List (Nat × Nat × Nat) :=
  (List.range 128).filterMap fun n =>
    if labelAt before n = labelAt after n then none else some (n, labelAt before n, labelAt after n)

/-- The end of COMPUTING (R128): the computed labels and counts replace those held. Where a label or the uncertain count
changed the relabel passes to EMITTING; otherwise it ends, and with it the apply that started it, or the release where its
own records are queued. -/
def State.computeRelabel (s : State) : State :=
  match s.islands.relabel with
  | none => s
  | some r =>
    match r.stage with
    | .emitting _ _ _ => s
    | .computing =>
      let labels := labelsOf s.joins
      let islands := countIslands labels s.nodesInUse
      let uncertain := countUncertain labels s.uncertainNodes
      let changes := labelChanges s.islands.labels labels
      if changes.isEmpty ∧ uncertain = s.islands.uncertainCount then
        ({ s with islands := ⟨labels, islands, uncertain, some r⟩ }.endRelabel r.cause).settleComplete s
      else
        ({ s with islands := ⟨labels, islands, uncertain, some ⟨r.cause, .emitting changes islands uncertain⟩⟩ })

/-- RELABEL_COMPUTED (R128). -/
def execRelabelComputed (s : State) : Host.Outcome State Fault Refusal := .next s.computeRelabel

/-- A relabel in EMITTING queues its ISLANDS record and ends (R128, R129). The record follows the own records of the
release that started the relabel (R121, R129). -/
def State.emitIslands (s : State) : State :=
  match s.islands.relabel with
  | none => s
  | some r =>
    match r.stage with
    | .computing => s
    | .emitting changes islands uncertain =>
      if s.roomForRecord ∧ s.engine.inFlight.all ReleaseInFlight.queued = true then
        ((s.enqueue (.islands ⟨r.cause, s.clock.integer, islands, uncertain, changes⟩)).endRelabel
          r.cause).settleComplete s
      else s

/-- ISLANDS_EMIT (R129). -/
def execIslandsEmit (s : State) : Host.Outcome State Fault Refusal := .next s.emitIslands

end Sys2Proof.Machine
end

