-- ==== Sys2Proof/Machine/Engine.lean ====
section
/-! DEFINITION. The release engine: removal, own events, remote changes, travel, chatter, timers, watch marks, the apply
step and SNAPSHOT (file 07). -/

namespace Sys2Proof.Machine

/-! ## The release condition and the removal (R109, R110) -/

/-- The least head is releasable (R109). A LATE hand-over is taken before it (R114). -/
def State.releasable (s : State) (i : Item) : Bool :=
  s.station.state == .replaying && decide (i.key.time < s.horizon.safeTime) &&
    (decide (i.key.time ≤ s.clock.integer) || s.clock.stepArmed) && s.engineIdle && s.handOver.isNone

/-- The item leaves its list, of which it is the head (R110). -/
def State.dropHead (s : State) : Item → State
  | .own _ => { s with pendingQueue := s.pendingQueue.tail }
  | .remote _ => { s with remotes := s.remotes.tail }
  | .timer _ => { s with timers := s.timers.tail }

/-- The step completes at the removal of an item at time `t` (R102): the clock is raised to it, STEP is added, and a
hold-at time that the clock reaches sets BREAK (R103). -/
def State.completeStep (s : State) (t : Nat) : State :=
  if s.clock.stepArmed then
    let c := s.clock
    let now := max c.integer t
    let s := { s with clock := { c with
      integer := now, fraction := 0, stepArmed := false, causes := { c.causes with step := true } } }
    match c.holdAt with
    | some h => if h ≤ now then ({ s with clock := { s.clock with holdAt := none } }).setBreak else s
    | none => s
  else s

/-! ## Travel and chatter on a change of position (R115, R117, R118) -/

/-- The position is OPEN or CLOSED. -/
def Position.final : Position → Bool
  | .opened => true
  | .closed => true
  | .intermediate => false
  | .bad => false
  | .unknown => false

/-- Travel timing applies: LOCAL or LOCAL_TIE with a travel limit above 0 (R115). -/
def Element.timesTravel (e : Element) : Bool :=
  (match e.ownership with
    | .localOnly => true
    | .localTie _ => true
    | .mirror _ _ => false) && decide (0 < e.travelLimit)

/-- What an own event's release found and did at its element, for its EVENT record. -/
structure Applied where
  state        : State
  travelTime   : Option Nat
  lateTravel   : Bool
  chatterStart : Bool
  suppressed   : Bool
  deriving DecidableEq, Repr

/-- Travel handling of a change from `prev` to the element's position at time `t` (TRAVEL TABLE, R115): the state after,
the travel time and LATE_TRAVEL. -/
def State.handleTravel (s : State) (n : Nat) (e : Element) (prev : Position) (t : Nat) : State × Option Nat × Bool :=
  if !e.timesTravel then (s, none, false)
  else if e.current = .intermediate then
    if prev.final then
      ((s.setElement n { e with travelStart := some t }).setTimer travelSource n (t + e.travelLimit * 1000), none, false)
    else (s, none, false)
  else if e.current.final then
    match e.travelStart with
    | some start =>
      ((s.setElement n { e with travelStart := none, stuck := false }).cancelTimer travelSource n,
        some (t - start), e.stuck)
    | none => (s.setElement n { e with stuck := false }, none, false)
  else if e.current = .bad then
    ((s.setElement n { e with travelStart := none }).cancelTimer travelSource n, none, false)
  else (s, none, false)

/-- Chatter handling of a change of position at time `t` (R117, R118): the state after, CHATTER_START, and whether the
EVENT record is suppressed. -/
def State.handleChatter (s : State) (n : Nat) (e : Element) (t : Nat) : State × Bool × Bool :=
  match e.chatter with
  | .chattering =>
    ((s.setElement n { e with suppressed := satSucc max16 e.suppressed }).setTimer quietSource n
      (t + s.settings.chatterQ * 1000), false, true)
  | .normal =>
    if !e.chatterEnable then (s, false, false)
    else
      let restarts := match e.windowStart with
        | none => true
        | some w => decide (s.settings.chatterW * 1000 ≤ t - w)
      let e := if restarts then { e with windowStart := some t, windowCount := 1 }
        else { e with windowCount := e.windowCount + 1 }
      if e.windowCount = s.settings.chatterN then
        ((s.setElement n { e with chatter := .chattering }).setTimer quietSource n
          (t + s.settings.chatterQ * 1000), true, false)
      else (s.setElement n e, false, false)

/-- Steps 1 to 5 of an own event's release on its element (R112). A no change leaves travel and chatter untouched; on a
CHATTERING element it is suppressed (R118). -/
def State.applyOwn (s : State) (x : PendingEntry) (e : Element) : Applied :=
  let e1 := { e with current := x.position, lastRelease := some ⟨x.key.time, x.key.source, x.position⟩ }
  let s := (s.setElement x.element e1).countSource x.key.source fun k =>
    { k with released := satSucc max32 k.released, pending := k.pending - 1 }
  if x.position = e.current then ⟨s, none, false, false, e.chatter == .chattering⟩
  else
    let (s, travelTime, lateTravel) := s.handleTravel x.element e1 e.current x.key.time
    let (s, chatterStart, suppressed) := s.handleChatter x.element ((s.elementAt x.element).getD e1) x.key.time
    ⟨s, travelTime, lateTravel, chatterStart, suppressed⟩

/-- The EVENT record of an own event (R121). -/
def eventRecord (x : PendingEntry) (previous : Position) (a : Applied) : EventRecord where
  key := x.key
  element := x.element
  position := x.position
  previous := previous
  cause := x.cause
  quality := x.quality
  raw := x.raw
  sequence := x.sequence
  confirmations := x.confirmations
  gap := x.gap
  clamped := x.clamped
  reordered := x.reordered
  replaced := x.replaced
  boundary := x.boundary
  noChange := x.position == previous
  chatterStart := a.chatterStart
  lateTravel := a.lateTravel
  travelTime := a.travelTime

/-! ## Records, watch marks and the end of a release (R110, R112, R120, R121) -/

/-- The element an item names. -/
def Item.element : Item → Nat
  | .own e => e.element
  | .remote r => r.element
  | .timer k => k.ordinal

/-- The watch mark that the check of an item's release finds: own events and remote changes only (R120). -/
def State.watchCheck (s : State) (i : Item) : WatchMark :=
  match i with
  | .own e => ((s.elementAt e.element).map Element.watch).getD .none
  | .remote r => ((s.elementAt r.element).map Element.watch).getD .none
  | .timer _ => .none

/-- All records of the release are queued: the release ends, or stays in flight until the relabel it started has ended
(R110, R127, R128). -/
def State.finishRecords (s : State) (r : ReleaseInFlight) : State :=
  { s with engine := { s.engine with
      inFlight := if s.islands.relabel.isSome then some { r with record := none, mark := none } else none } }

/-- The item's own record is queued or suppressed: the watch check, after which a MARK is owed or the release goes on
(R120). -/
def State.afterRecord (s : State) (r : ReleaseInFlight) : State :=
  match s.watchCheck r.item with
  | .none => s.finishRecords r
  | m => { s with engine := { s.engine with inFlight := some { r with record := none, mark := some m } } }

/-- The item goes into flight with its own record owed, or with none where it is suppressed (R110, R118). Where it
changed the position of an element with nodes its relabel starts in the same act, so that the labels held never differ
from the positions with no relabel in flight (R127, R128; log entry 17). -/
def State.enterFlight (s : State) (i : Item) (record : Option RecordBody) (relabels : Bool) : State :=
  let s := if relabels then s.startRelabel (.item i.key) else s
  let r : ReleaseInFlight := ⟨i, record, none⟩
  match record with
  | some _ => { s with engine := { s.engine with inFlight := some r } }
  | none => s.afterRecord r

/-- The release of an own event (R112). -/
def State.releaseOwn (s : State) (x : PendingEntry) : State :=
  match s.elementAt x.element with
  | none => s
  | some e =>
    let a := s.applyOwn x e
    a.state.enterFlight (.own x) (if a.suppressed then none else some (.event (eventRecord x e.current a)))
      (e.nodes.isSome && x.position != e.current)

/-- The position of a remote change is written to its MIRROR element with the last release (R113, R114). -/
def State.writeRemote (s : State) (r : RemoteEntry) (e : Element) : State :=
  s.setElement r.element { e with
    current := r.position, lastRelease := some ⟨r.key.time, r.key.source, r.position⟩ }

/-- The REMOTE record of a remote change (R121). -/
def remoteRecord (r : RemoteEntry) (previous : Position) (late : Bool) : RemoteRecord where
  key := r.key
  element := r.element
  tie := r.tie
  position := r.position
  previous := previous
  cause := r.cause
  quality := r.quality
  noChange := r.position == previous
  late := late

/-- The release of a remote change (R113). -/
def State.releaseRemote (s : State) (r : RemoteEntry) : State :=
  match s.elementAt r.element with
  | none => s
  | some e =>
    (s.writeRemote r e).enterFlight (.remote r) (some (.remote (remoteRecord r e.current false)))
      (e.nodes.isSome && r.position != e.current)

/-- The release of a travel timer (R116). -/
def State.releaseTravel (s : State) (k : Key) : State :=
  match s.elementAt k.ordinal with
  | none => s
  | some e =>
    (s.setElement k.ordinal { e with
      stuck := true, lastRelease := some ⟨k.time, travelSource, .intermediate⟩ }).enterFlight (.timer k)
      (some (.stuck k.ordinal k.time e.travelStart)) false

/-- The release of a quiet timer (R118). -/
def State.releaseQuiet (s : State) (k : Key) : State :=
  match s.elementAt k.ordinal with
  | none => s
  | some e =>
    (s.setElement k.ordinal { e with
      chatter := .normal
      suppressed := 0
      windowStart := none
      windowCount := 0
      lastRelease := some ⟨k.time, quietSource, e.current⟩ }).enterFlight (.timer k)
      (some (.chatterEnd k.ordinal k.time e.suppressed e.current)) false

/-- The release of an item that has left its list (R110). -/
def State.releaseItem (s : State) : Item → State
  | .own x => s.releaseOwn x
  | .remote r => s.releaseRemote r
  | .timer k => if k.source = travelSource then s.releaseTravel k else s.releaseQuiet k

/-- The release engine judges the least head and removes it where it is releasable, in one act (R109, R110). -/
def State.releaseAct (s : State) : State :=
  match s.leastHead with
  | none => s
  | some i =>
    if s.releasable i then
      let t := s.dropHead i
      let t := { t with engine := { t.engine with releasePoint := some i.key } }
      ((t.completeStep i.key.time).releaseItem i).settleComplete s
    else s

/-- RELEASE (R110). -/
def execRelease (s : State) : Host.Outcome State Fault Refusal := .next s.releaseAct

/-- BREAK is added by a watch hit, with the broadcast break where the mark is broadcast (R97, R120). -/
def State.watchHit (s : State) (m : WatchMark) : State :=
  let s := s.setBreak
  { s with clock := { s.clock with broadcastBreak := s.clock.broadcastBreak || m == .broadcast } }

/-- A record of the release in flight is queued where there is room (R121): the item's own record, then MARK. -/
def State.queueReleaseRecord (s : State) : State :=
  match s.engine.inFlight with
  | none => s
  | some r =>
    if s.roomForRecord then
      match r.record, r.mark with
      | some b, _ => ((s.enqueue b).afterRecord { r with record := none }).settleComplete s
      | none, some m =>
        (((s.enqueue (.mark r.item.element r.item.key m)).watchHit m).finishRecords { r with mark := none }).settleComplete s
      | none, none => s
    else s

/-- RELEASE_RECORD_QUEUE (R121). -/
def execReleaseRecordQueue (s : State) : Host.Outcome State Fault Refusal := .next s.queueReleaseRecord

/-! ## The apply step (R114) -/

/-- The hand-over has been taken from the frame processing. -/
def State.takeHandOver (s : State) : State :=
  { s with processing := s.processing.map fun p => { p with handOver := none } }

/-- The apply step takes a LATE change: the position and the last release are written, a REMOTE record flagged LATE is
queued, and a relabel starts where the element has nodes and its position changed (R114). -/
def State.lateApply (s : State) : State :=
  match s.handOver with
  | none => s
  | some r =>
    if s.engineIdle then
      match s.elementAt r.element with
      | none => s.takeHandOver
      | some e =>
        let t := ((s.takeHandOver).writeRemote r e).enqueue (.remote (remoteRecord r e.current true))
        if e.nodes.isSome ∧ r.position ≠ e.current then
          ({ t with engine := { t.engine with apply := some r } }.startRelabel (.late r.key)).settleComplete s
        else t.settleComplete s
    else s

/-- LATE_APPLY (R114). -/
def execLateApply (s : State) : Host.Outcome State Fault Refusal := .next s.lateApply

/-! ## SNAPSHOT (R122, R123) -/

/-- A WAITING snapshot becomes EMITTING when no release, apply or relabel is in flight (R122). -/
def State.beginEmission (s : State) : State :=
  if s.engine.snapshot = .waiting ∧ s.engine.inFlight = none ∧ s.engine.apply = none ∧ s.islands.relabel = none then
    { s with engine := { s.engine with snapshot := .emitting 0 } }
  else s

/-- SNAPSHOT_EMITTING (R122). -/
def execSnapshotEmitting (s : State) : Host.Outcome State Fault Refusal := .next s.beginEmission

/-- The present elements from number `n` on. -/
def State.presentFrom (s : State) (n : Nat) : List (Nat × Element) :=
  s.present.filter fun p => decide (n ≤ p.1)

/-- An EMITTING snapshot queues the ELEMENT_STATE record of the next present element (R123). -/
def State.emitElement (s : State) : State :=
  match s.engine.snapshot with
  | .none => s
  | .waiting => s
  | .emitting next =>
    match s.presentFrom next with
    | [] => s
    | (n, e) :: _ =>
      if s.roomForRecord then
        let t := s.enqueue (.elementState n e)
        { t with engine := { t.engine with snapshot := .emitting (n + 1) } }
      else s

/-- ELEMENT_STATE (R123). -/
def execElementState (s : State) : Host.Outcome State Fault Refusal := .next s.emitElement

/-- An EMITTING snapshot with no element left queues NODE_LABELS and ends (R123). -/
def State.emitLabels (s : State) : State :=
  match s.engine.snapshot with
  | .none => s
  | .waiting => s
  | .emitting next =>
    if s.presentFrom next = [] ∧ s.roomForRecord then
      let t := s.enqueue (.nodeLabels s.islands.labels s.islands.islandCount s.islands.uncertainCount)
      { t with engine := { t.engine with snapshot := .none } }
    else s

/-- NODE_LABELS (R123). -/
def execNodeLabels (s : State) : Host.Outcome State Fault Refusal := .next s.emitLabels

end Sys2Proof.Machine
end

