-- ==== Sys2Proof/Machine/Clock.lean ====
section
/-! DEFINITION. The station time-base tick (R95, R139): station time, the timers that count it, the advance of the replay
clock, hold-at, skip idle, the lag test, and stall detection (file 06). -/

namespace Sys2Proof.Machine

/-! ## Station time and the timers that count it (log entries 11, 12) -/

/-- The silence timer of an ACTIVE peer counts up to 40 ms (R89). -/
def Peer.tick (p : Peer) : Peer :=
  match p.state with
  | .active => { p with silence := p.silence.map fun n => min (n + 1) silenceLimit }
  | .notExpected => p
  | .awaited => p
  | .silent => p
  | .desync => p
  | .foreignEpoch => p
  | .excluded => p
  | .ended => p

/-- The remaining time of a timed mute falls to 0 (R67). -/
def TxState.tick : TxState → TxState
  | .muted (some n) => .muted (some (n - 1))
  | .muted none => .muted none
  | .idle => .idle
  | .waiting => .waiting
  | .sending f => .sending f
  | .backoff n => .backoff n

/-- One microsecond of station time: the time count of 48 bits, the silence timers, the stall timer, the timed mute
(R67, R89, R107, R139). -/
def State.countTime (s : State) : State :=
  { s with
    station := { s.station with time := (s.station.time + 1) % timeModulus }
    peers := s.peers.mapIdx fun _ (p : Peer) => p.tick
    clock := { s.clock with stallTimer := s.clock.stallTimer.map fun n => min (n + 1) stallLimit }
    tx := { s.tx with state := s.tx.state.tick } }

/-! ## The advance (R95, R103) -/

/-- The clock runs: the station is REPLAYING and the hold cause set is empty (R95). -/
def State.clockRuns (s : State) : Bool := s.station.state == .replaying && s.clock.causes.isEmpty

/-- The integer part an unbounded advance would give (R95). -/
def Clock.advanced (c : Clock) : Nat := c.integer + (c.fraction + c.rate) / 65536

/-- The fraction an advance leaves (R95). -/
def Clock.advancedFraction (c : Clock) : Nat := (c.fraction + c.rate) % 65536

/-- The hold-at time is reached: the clock stands at it, it becomes absent, BREAK is set (R103). -/
def State.reachHoldAt (s : State) (t : Nat) : State :=
  ({ s with clock := { s.clock with integer := t, fraction := 0, holdAt := none } }).setBreak

/-- An advance whose hold-at time, if any, is not reached; the integer part saturates (R95). -/
def State.plainAdvance (s : State) : State :=
  { s with clock := { s.clock with
      integer := min s.clock.advanced maxTime
      fraction := if maxTime < s.clock.advanced then 0 else s.clock.advancedFraction } }

/-- One advance of a running clock (R95, R103). At saturation a tick changes nothing: neither the fraction that stands there
(log entry 23), nor a hold-at time of 2^40 - 2 on which a skip jump of lead 0 has landed, which thus never sets BREAK
(DEDUCED: log entry 34). -/
def State.advanceClock (s : State) : State :=
  if maxTime ≤ s.clock.integer then s
  else match s.clock.holdAt with
    | some t =>
      if t < s.clock.advanced ∨ (t = s.clock.advanced ∧ t = maxTime) then s.reachHoldAt t else s.plainAdvance
    | none => s.plainAdvance

/-! ## Skip idle (R105) -/

/-- The target of a skip jump, where the three conditions hold (R105). -/
def State.skipTarget (s : State) : Option Nat :=
  match s.headTime with
  | some t =>
    if t < s.horizon.safeTime ∧ s.settings.skipThreshold * 1000 < t - s.clock.integer ∧
        s.clock.integer + s.settings.skipLead * 1000 < t then some (t - s.settings.skipLead * 1000) else none
  | none => none

/-- The jump to a target; a hold-at time below it is reached instead (R103, R105). A hold-at time equal to the target is not
reached by the jump, be it 2^40 - 2 (log entry 34). -/
def State.jumpTo (s : State) (target : Nat) : State :=
  let plain := { s with clock := { s.clock with integer := target, fraction := 0 } }
  match s.clock.holdAt with
  | some t => if t < target then s.reachHoldAt t else plain
  | none => plain

/-- The skip test after the advance of a tick, while skip enable is on and the clock runs (R105). -/
def State.skipTest (s : State) : State :=
  if s.clock.skipEnable ∧ s.clockRuns then
    match s.skipTarget with
    | some target => s.jumpTo target
    | none => s
  else s

/-! ## The tick -/

/-- The clock's part of a tick, where it runs. -/
def State.clockAct (s : State) : State := if s.clockRuns then s.advanceClock.skipTest else s

/-- CLOCK_ADVANCE: station time and its timers count, the clock advances, and the lag and stall tests are taken
(R95, R105 to R107). -/
def State.tick (s : State) : State :=
  let t := s.countTime
  ((t.clockAct).testLag t).watchStall t

/-- CLOCK_ADVANCE (R95). -/
def execClockAdvance (s : State) : Host.Outcome State Fault Refusal := .next s.tick

/-! ## Stall (R107) -/

/-- The stall timer has reached 100 ms: the STALL condition is present, the timer stops, the STALL flag is set (R107,
R137). -/
def State.stallAct (s : State) : State :=
  match s.clock.stallTimer with
  | some n =>
    if stallLimit ≤ n then
      { s with
        clock := { s.clock with stall := true, stallTimer := none }
        attention := { s.attention with flags := { s.attention.flags with stall := true } } }
    else s
  | none => s

/-- STALL_TIMEOUT (R107). -/
def execStallTimeout (s : State) : Host.Outcome State Fault Refusal := .next s.stallAct

end Sys2Proof.Machine
end

