-- ==== Sys2Proof/Machine/Link.lean ====
section
/-! DEFINITION. The link transmitter and the link receiver (file 04). What the line shows comes with each row's operands
(log entry 14). -/

namespace Sys2Proof.Machine

/-! ## Wanting and building a frame (R60 to R62, R77) -/

/-- A heartbeat falls due at an IDLE transmitter (R60, condition 7). -/
def State.heartbeatAct (s : State) : State :=
  if s.tx.state = .idle ∧ s.inService ∧ s.heartbeatDue then
    { s with tx := { s.tx with state := .waiting } }
  else s

/-- HEARTBEAT (R60). -/
def execHeartbeat (s : State) : Host.Outcome State Fault Refusal := .next s.heartbeatAct

/-- The frame spacing is met (R61). -/
def State.spacingMet (s : State) : Bool :=
  match s.tx.lastEnd with
  | some e => frameSpacing ≤ s.elapsed e
  | none => true

/-- The change entry that carries an outgoing copy (CHANGE ENTRY TABLE). -/
def OutgoingCopy.entry (c : OutgoingCopy) : ChangeEntry where
  time := c.key.time
  source := c.key.source
  ordinal := c.key.ordinal
  tie := c.tie
  position := c.position
  cause := c.cause
  quality := c.quality
  carried := c.carried

/-- The frame a build gives (R62, R77). -/
def State.builtFrame (s : State) : Frame where
  sender := s.station.number
  epoch := s.station.epoch
  sequence := s.tx.sequence
  senderState := s.senderState
  horizon := s.ownHorizon
  hold := s.announcedHold
  restart := s.station.restartRequest
  changes := (s.outgoing.take frameEntries).map OutgoingCopy.entry

/-- The first eight copies, which the frame carries, become held (R41, R62). -/
def holdFirst (cs : List OutgoingCopy) : List OutgoingCopy :=
  ((cs.take frameEntries).map fun c => { c with held := true }) ++ cs.drop frameEntries

/-- A WAITING transmitter builds a frame and moves to SENDING where the line has been quiet for the quiet gap, the
spacing is met and the station is in service (R62). -/
def State.buildFrame (s : State) (quietBits : Nat) : State :=
  if s.tx.state = .waiting ∧ quietGap ≤ quietBits ∧ s.spacingMet ∧ s.inService then
    { s with
      outgoing := holdFirst s.outgoing
      tx := { s.tx with state := .sending s.builtFrame } }
  else s

/-- FRAME_BUILD (R62). -/
def execFrameBuild (quietBits : Nat) (s : State) : Host.Outcome State Fault Refusal := .next (s.buildFrame quietBits)

/-- The symbols that the station drives on the line, from the first preamble symbol on; none where it does not drive
(R56, R57, R59). -/
def State.drivenSymbols (s : State) : Bits :=
  match s.tx.state with
  | .sending f => f.symbols
  | .idle => []
  | .waiting => []
  | .backoff _ => []
  | .muted _ => []

/-! ## Failures (R63, R65, R67) -/

/-- The holds of a frame abandoned are lifted and its copies marked CARRIED (R41). -/
def abandonCopies (cs : List OutgoingCopy) : List OutgoingCopy :=
  cs.map fun c => if c.held then { c with held := false, carried := true } else c

/-- A failure of the frame on the line (R63, R65): it is abandoned and counted; the sixteenth in succession mutes the
transmitter for 200 ms with a MUTED report, and `retry` is where the transmitter goes otherwise. -/
def State.failFrame (s : State) (retry : TxState) : State :=
  let t := { s with
    outgoing := abandonCopies s.outgoing
    tx := { s.tx with failures := s.tx.failures + 1 } }
  if failureLimit ≤ t.tx.failures then
    (({ t with tx := { t.tx with state := .muted (some muteTime) } }).report .muted none).reformLink
  else { t with tx := { t.tx with state := retry } }

/-- The backoff count of a station number (R64). -/
def backoffBits (number : Nat) : Nat := (number + 1) * 64

/-- A mismatch in bit times 1 to 64 of the frame on the line (R63). -/
def State.collide (s : State) (bit : Nat) : State :=
  match s.tx.state with
  | .sending _ =>
    if 1 ≤ bit ∧ bit ≤ collisionWindow then s.failFrame (.backoff (backoffBits s.station.number)) else s
  | .idle => s
  | .waiting => s
  | .backoff _ => s
  | .muted _ => s

/-- COLLISION (R63). -/
def execCollision (bit : Nat) (s : State) : Host.Outcome State Fault Refusal := .next (s.collide bit)

/-- A mismatch after bit time 64 and within the frame on the line (R65). -/
def State.transmitError (s : State) (bit : Nat) : State :=
  match s.tx.state with
  | .sending f =>
    if collisionWindow < bit ∧ bit ≤ f.symbols.length then s.failFrame .waiting else s
  | .idle => s
  | .waiting => s
  | .backoff _ => s
  | .muted _ => s

/-- TRANSMIT_ERROR (R65). -/
def execTransmitError (bit : Nat) (s : State) : Host.Outcome State Fault Refusal := .next (s.transmitError bit)

/-- A quiet line counts the backoff down; at 0 the transmitter is WAITING (R64). -/
def State.countBackoff (s : State) (quietBits : Nat) : State :=
  match s.tx.state with
  | .backoff n =>
    { s with tx := { s.tx with state := if n ≤ quietBits then .waiting else .backoff (n - quietBits) } }
  | .idle => s
  | .waiting => s
  | .sending _ => s
  | .muted _ => s

/-- BACKOFF_DONE (R64). -/
def execBackoffDone (quietBits : Nat) (s : State) : Host.Outcome State Fault Refusal :=
  .next (s.countBackoff quietBits)

/-- The expiry of a timed mute: the count is 0 and the transmitter WAITING (R67). -/
def State.expireMute (s : State) : State :=
  match s.tx.state with
  | .muted (some n) =>
    if n = 0 then ({ s with tx := { s.tx with state := .waiting, failures := 0 } }).reformLink else s
  | .muted none => s
  | .idle => s
  | .waiting => s
  | .sending _ => s
  | .backoff _ => s

/-- MUTE_EXPIRY (R67). -/
def execMuteExpiry (s : State) : Host.Outcome State Fault Refusal := .next s.expireMute

/-! ## A frame sent whole (R66, R78) -/

/-- The entries whose copies were carried gain ANNOUNCED (R78). -/
def announceEntries (keys : List Key) (es : List PendingEntry) : List PendingEntry :=
  es.map fun e => if keys.contains e.key then { e with announced := true } else e

/-- The keys of the copies held by the frame on the line. -/
def heldKeys (cs : List OutgoingCopy) : List Key := (cs.filter OutgoingCopy.held).map OutgoingCopy.key

/-- What the transmitter keeps of a frame sent whole (R66, step 3). -/
def Frame.sentContent (f : Frame) : SentContent := ⟨f.horizon, f.hold, f.restart, f.senderState⟩

/-- The frame on the line has been sent whole (R66). -/
def State.frameSent (s : State) : State :=
  match s.tx.state with
  | .sending f =>
    ({ s with
      pendingQueue := announceEntries (heldKeys s.outgoing) s.pendingQueue
      outgoing := s.outgoing.filter fun c => !c.held
      horizon := { s.horizon with ownAnnounced := some f.horizon }
      tx := {
        state := .idle
        sequence := (s.tx.sequence + 1) % 256
        failures := 0
        lastSent := some f.sentContent
        lastEnd := some s.station.time } }).settleComplete s
  | .idle => s
  | .waiting => s
  | .backoff _ => s
  | .muted _ => s

/-- FRAME_SENT_WHOLE (R66). -/
def execFrameSentWhole (s : State) : Host.Outcome State Fault Refusal := .next s.frameSent

/-! ## The receiver (R70 to R74) -/

/-- The receiver takes a preamble: it is not sampling an open frame, and the line had been read as quiet before the first
symbol (R56, R70). A receiver that waits for the line to fall quiet has seen it do so by then (R70, R71). -/
def RxPhase.searches (phase : RxPhase) (quietBits : Nat) : Bool :=
  decide (quietGap ≤ quietBits) && match phase with
    | .searching => true
    | .awaitQuiet => true
    | .sampling _ => false

/-- A preamble out of rate, or one with no start delimiter after it (R70). -/
def State.rejectSync (s : State) (p : Sys2Proof.Preamble) (delimiter : Byte) : State :=
  if s.rx.phase.searches p.quietBits = true ∧ preambleOpens p.duration delimiter = false then
    ({ s with rx := { s.rx with phase := .awaitQuiet, sync := satSucc max16 s.rx.sync } }).report .sync none
  else s

/-- SYNC_REJECT (R70). -/
def execSyncReject (preamble : Sys2Proof.Preamble) (delimiter : Byte) (s : State) :
    Host.Outcome State Fault Refusal := .next (s.rejectSync preamble delimiter)

/-- A preamble in rate with the start delimiter after it opens a frame (R70). -/
def State.openFrame (s : State) (p : Sys2Proof.Preamble) (delimiter : Byte) : State :=
  if s.rx.phase.searches p.quietBits = true ∧ preambleOpens p.duration delimiter = true then
    { s with rx := { s.rx with phase := .sampling p.duration } }
  else s

/-- FRAME_OPENED (R70). -/
def execFrameOpened (preamble : Sys2Proof.Preamble) (delimiter : Byte) (s : State) :
    Host.Outcome State Fault Refusal := .next (s.openFrame preamble delimiter)

/-- A frame discarded with a CRC count and report (R71, R156). -/
def State.discardFrame (s : State) (phase : RxPhase) : State :=
  ({ s with rx := { s.rx with phase := phase, crc := satSucc max16 s.rx.crc } }).report .crc none

/-- A duplicate-station frame (R73): the transmitter is muted with no expiry; a frame on the line is abandoned. -/
def State.duplicateStation (s : State) : State :=
  (({ s with
    outgoing := abandonCopies s.outgoing
    tx := { s.tx with state := .muted none } }).report .dupStation none).reformLink

/-- A good frame of another station (R72): counted and dropped before commit, placed in a free buffer in service, lost
with RX_OVERRUN where both are full. -/
def State.placeFrame (s : State) (f : Frame) : State :=
  if !s.inService then { s with rx := { s.rx with good := satSucc max16 s.rx.good } }
  else if s.rx.buffers.length < bufferCount then
    { s with rx := { s.rx with buffers := s.rx.buffers ++ [f], good := satSucc max16 s.rx.good } }
  else ({ s with rx := { s.rx with overrun := satSucc max16 s.rx.overrun } }).report .rxOverrun none

/-- The end of an open frame: the checks of R71 and R156, then the sender (R72, R73). -/
def State.receiveFrame (s : State) (bits : Bits) (own : Bool) : State :=
  match s.rx.phase with
  | .sampling _ =>
    match receive bits with
    | .bad => s.discardFrame .searching
    | .badCount => s.discardFrame .awaitQuiet
    | .good f =>
      let t := { s with rx := { s.rx with phase := .searching } }
      if own then t
      else if f.sender = s.station.number then t.duplicateStation
      else t.placeFrame f
  | .searching => s
  | .awaitQuiet => s

/-- FRAME_RECEIVE (R71). -/
def execFrameReceive (bits : Bits) (own : Bool) (s : State) : Host.Outcome State Fault Refusal :=
  .next (s.receiveFrame bits own)

end Sys2Proof.Machine
end

