-- ==== Sys2Proof/Machine/PeerTable.lean ====
section
/-! DEFINITION. The peer table and the Remote Change List: the processing of a frame and a peer's silence (file 05). -/

namespace Sys2Proof.Machine

/-! ## Peer entries -/

/-- Rewrites the peer entry of station number `n`. -/
def State.updatePeer (s : State) (n : Nat) (f : Peer → Peer) : State := s.setPeer n (f (s.peer n))

/-- An error charged to peer `n`: reported, and counted in its ERRORS (R79). -/
def State.chargePeer (s : State) (n : Nat) (kind : ErrorKind) (subject : Nat) : State :=
  (s.report kind (some subject)).updatePeer n fun p => { p with errors := satSucc max16 p.errors }

/-- A change discarded while its peer is EXCLUDED (R92). -/
def Peer.discard (p : Peer) : Peer := { p with discarded := satSucc max16 p.discarded }

/-- The receive buffer of the frame in processing is freed (R72, R81). -/
def State.endProcessing (s : State) : State :=
  { s with processing := none, rx := { s.rx with buffers := s.rx.buffers.tail } }

/-! ## The sequence test (R83) -/

/-- How a frame sequence stands to the expected one (R83). -/
inductive SequenceTest where
  | inOrder
  | again
  | gap
  deriving DecidableEq, Repr

/-- The distance of a frame sequence from the expected one, modulo 256 (R83). -/
def frameDistance (sequence expected : Nat) : Nat := (sequence + 256 - expected % 256) % 256

/-- The sequence test (R83): where no sequence is expected, any is in order. -/
def Peer.testSequence (p : Peer) (sequence : Nat) : SequenceTest :=
  match p.expectedSeq with
  | none => .inOrder
  | some e =>
    if frameDistance sequence e = 0 then .inOrder
    else if frameDistance sequence e = 255 then .again
    else .gap

/-- The expected frame sequence after a frame taken under the sequence test: a repeat leaves it (R83). -/
def Peer.advanceSequence (p : Peer) (sequence : Nat) (t : SequenceTest) : Peer :=
  match t with
  | .inOrder => { p with expectedSeq := some ((sequence + 1) % 256) }
  | .gap => { p with expectedSeq := some ((sequence + 1) % 256) }
  | .again => p

/-! ## One change entry (R84 to R87, R92) -/

/-- The release key of a change announced by peer `sender` (R85). -/
def ChangeEntry.key (c : ChangeEntry) (sender : Nat) : Key := ⟨c.time, sender, c.source, c.ordinal⟩

/-- A CARRIED change at or below the release point (R85). -/
def State.alreadyTaken (s : State) (c : ChangeEntry) (k : Key) : Bool :=
  c.carried && match s.engine.releasePoint with
    | some rp => k.le rp
    | none => false

/-- The key lies below the release point: the change is late (R85). -/
def State.isLate (s : State) (k : Key) : Bool :=
  match s.engine.releasePoint with
  | some rp => k.lt rp
  | none => false

/-- The Remote Change List's entry for a change routed to element `n` (R86). -/
def ChangeEntry.remote (c : ChangeEntry) (sender n : Nat) : RemoteEntry :=
  ⟨c.key sender, n, c.tie, c.position, c.cause, c.quality⟩

/-- What the processing does after one change entry: it goes on, it waits for the apply step with a LATE change handed
over, or the frame ends in an overflow. -/
inductive ChangeStep where
  | goesOn (s : State)
  | waits (s : State) (r : RemoteEntry)
  | overflowed (s : State)
  deriving DecidableEq, Repr

/-- A change of peer `p` placed in the list or handed over as LATE counts in CHANGES (R79). -/
def State.countChange (s : State) (p : Nat) : State :=
  s.updatePeer p fun e => { e with changes := satSucc max16 e.changes }

/-- An overflow of the Remote Change List by a change of frame `f` at some time (R87). The frame's horizon is not stored;
its hold request and sender state are, since the frame was accepted (R79, R88). Nor is the horizon compared with the stored
one: a lower one is not reported as HORIZON_BACKSTEP (DEDUCED: log entry 21). -/
def State.overflowRemotes (s : State) (f : Frame) (time : Nat) : State :=
  (s.updatePeer f.sender fun e => { e with
      state := .desync
      silence := none
      horizon := min e.horizon time
      hold := f.hold
      senderState := some f.senderState }).chargePeer f.sender .remoteOverflow f.sender

/-- A change routed to a MIRROR element of peer `f.sender`, accepted: ignored, late, already listed, overflowing or
inserted (R85 to R87). The test for a listed key comes before the overflow (log entry 20). -/
def State.takeRouted (s : State) (f : Frame) (c : ChangeEntry) (n : Nat) : ChangeStep :=
  let p := f.sender
  let k := c.key p
  if s.alreadyTaken c k then .goesOn s
  else if s.isLate k then .waits ((s.chargePeer p .lateRemote p).countChange p) (c.remote p n)
  else if s.remotes.any fun r => r.key == k then .goesOn s
  else if remoteCapacity ≤ s.remotes.length then .overflowed (s.overflowRemotes f c.time)
  else .goesOn (({ s with remotes := insertByKey RemoteEntry.key (c.remote p n) s.remotes }).countChange p)

/-- A change routed to a MIRROR element of an EXCLUDED peer: discarded and counted, but one that R85 ignores (R92). -/
def State.discardRouted (s : State) (p : Nat) (c : ChangeEntry) : State :=
  if s.alreadyTaken c (c.key p) then s else s.updatePeer p Peer.discard

/-- One change entry: the tie lookup, then its own way (R84, R92). -/
def State.takeChange (s : State) (f : Frame) (tracked : Bool) (c : ChangeEntry) : ChangeStep :=
  match s.tieElement c.tie with
  | none => .goesOn s
  | some (n, e) =>
    match e.ownership with
    | .localOnly => .goesOn s
    | .localTie _ => .goesOn (s.chargePeer f.sender .tieConflict n)
    | .mirror _ owner =>
      if owner ≠ f.sender then .goesOn (s.chargePeer f.sender .tieConflict n)
      else if tracked then .goesOn (s.discardRouted f.sender c)
      else s.takeRouted f c n

/-! ## Step 5 (R88, R92) -/

/-- The frame's horizon: stored where it is at or above the stored one, else reported (R88). -/
def State.takeHorizon (s : State) (f : Frame) : State :=
  if (s.peer f.sender).horizon ≤ f.horizon then
    s.updatePeer f.sender fun p => { p with horizon := f.horizon }
  else s.chargePeer f.sender .horizonBackstep f.sender

/-- END, the silence timer of a peer that is ACTIVE after the frame, the hold request and the sender state of an accepted
frame (R88). -/
def Peer.takeRequests (p : Peer) (f : Frame) : Peer :=
  { p with
    state := if p.horizon = endTime then .ended else p.state
    silence := if p.horizon = endTime then none else if p.state = .active then some 0 else p.silence
    hold := f.hold
    senderState := some f.senderState }

/-- Step 5 of an accepted frame (R88), or of a frame tracked while EXCLUDED (R92); the processing ends. -/
def State.finishFrame (s : State) (f : Frame) (tracked : Bool) : State :=
  ((s.takeHorizon f).updatePeer f.sender fun p =>
    if tracked then { p with hold := f.hold, senderState := some f.senderState }
    else p.takeRequests f).endProcessing

/-- Steps 4 and 5: the change entries in their order, at most `n` of them in this act, then step 5. The processing stands
where entries remain, or where a LATE change waits for the apply step (R81, R85; log entries 18, 19). -/
def State.takeChanges (f : Frame) (tracked : Bool) : Nat → List ChangeEntry → State → State
  | _, [], s => s.finishFrame f tracked
  | 0, c :: cs, s => { s with processing := some ⟨f, c :: cs, tracked, none⟩ }
  | n + 1, c :: cs, s =>
    match s.takeChange f tracked c with
    | .goesOn t => State.takeChanges f tracked n cs t
    | .waits t r => { t with processing := some ⟨f, cs, tracked, some r⟩ }
    | .overflowed t => t.endProcessing

/-! ## Steps 1 to 3 (R81 to R83) -/

/-- The frame is one whose restart the station follows (R82). -/
def State.follows (s : State) (f : Frame) : Bool :=
  f.restart && s.settings.follow &&
    decide (1 ≤ frameDistance f.epoch s.station.epoch) && decide (frameDistance f.epoch s.station.epoch ≤ 127)

/-- A peer entry after a frame of another epoch that is not followed (R82). -/
def Peer.foreign (p : Peer) (epoch : Nat) : Peer :=
  if p.counted ∧ p.state ≠ .desync then
    { p with lastEpoch := epoch, state := .foreignEpoch, hold := false, silence := none }
  else { p with lastEpoch := epoch }

/-- A LATE_REMOTE report for each change entry of a frame from an ENDED peer (R88). -/
def State.refuseChanges (p : Nat) : List ChangeEntry → State → State
  | [], s => s
  | _ :: cs, s => State.refuseChanges p cs (s.chargePeer p .lateRemote p)

/-- A frame of the own epoch against its sender's state and expected sequence (R83). -/
def State.acceptFrame (s : State) (f : Frame) (entries : Nat) : State :=
  let p := f.sender
  let e := s.peer p
  let t := e.testSequence f.sequence
  let taken (u : Peer) : Peer := { u.advanceSequence f.sequence t with lastEpoch := f.epoch, state := .active }
  let gapped (u : Peer) : Peer :=
    { u with lastEpoch := f.epoch, state := .desync, silence := none, senderState := some f.senderState }
  match e.state with
  | .notExpected => (s.updatePeer p fun u => { u with lastEpoch := f.epoch }).endProcessing
  | .awaited =>
    if t = .gap then ((s.updatePeer p gapped).chargePeer p .frameGap p).endProcessing
    else State.takeChanges f false entries f.changes (s.updatePeer p taken)
  | .active =>
    if t = .gap then ((s.updatePeer p gapped).chargePeer p .frameGap p).endProcessing
    else State.takeChanges f false entries f.changes (s.updatePeer p taken)
  | .silent =>
    if t = .gap then ((s.updatePeer p gapped).chargePeer p .frameGap p).endProcessing
    else State.takeChanges f false entries f.changes (s.updatePeer p taken)
  | .foreignEpoch =>
    if t = .gap then ((s.updatePeer p gapped).chargePeer p .frameGap p).endProcessing
    else State.takeChanges f false entries f.changes (s.updatePeer p taken)
  | .desync =>
    (s.updatePeer p fun u => { u with
      lastEpoch := f.epoch, hold := f.hold, senderState := some f.senderState }).endProcessing
  | .excluded =>
    State.takeChanges f true entries f.changes (s.updatePeer p fun u =>
      let v := { u.advanceSequence f.sequence t with lastEpoch := f.epoch }
      if t = .gap then v.discard else v)
  | .ended =>
    let u := s.updatePeer p fun u => { u.advanceSequence f.sequence t with
      lastEpoch := f.epoch, senderState := some f.senderState }
    if t = .inOrder then (State.refuseChanges p f.changes u).endProcessing else u.endProcessing

/-- FRAMES of the sender's entry rises (R81, step 1). -/
def State.countFrame (s : State) (p : Nat) : State :=
  s.updatePeer p fun u => { u with frames := satSucc max16 u.frames }

/-- The peer table takes the oldest buffered frame (R81, R82). -/
def State.beginFrame (s : State) (f : Frame) (entries : Nat) : State :=
  let t := s.countFrame f.sender
  if f.epoch = t.station.epoch then ((t.acceptFrame f entries).settleComplete s).decideWaiting
  else if t.follows f then (t.restartAct (.peer f.sender) f.epoch).decideWaiting
  else (((t.updatePeer f.sender fun p => p.foreign f.epoch).endProcessing).settleComplete s).decideWaiting

/-- A frame processing in flight goes on once no LATE change is handed over or being applied; otherwise the oldest
buffered frame is taken (R81, R85). A command waiting for the processing is then decided (R92, R135). -/
def State.processFrame (s : State) (entries : Nat) : State :=
  match s.processing with
  | some pr =>
    if pr.handOver = none ∧ s.engine.apply = none then
      ((State.takeChanges pr.frame pr.tracked entries pr.remaining s).settleComplete s).decideWaiting
    else s
  | none =>
    match s.rx.buffers with
    | [] => s
    | f :: _ => if s.inService then s.beginFrame f entries else s

/-- FRAME_PROCESSING (R81). -/
def execFrameProcessing (entries : Nat) (s : State) : Host.Outcome State Fault Refusal :=
  .next (s.processFrame entries)

/-! ## Silence (R89) -/

/-- An accepted frame of peer `n` is in processing. -/
def State.inProcessing (s : State) (n : Nat) : Bool :=
  match s.processing with
  | some pr => pr.frame.sender == n && !pr.tracked
  | none => false

/-- The silence timer of an ACTIVE peer has reached 40 ms: it becomes SILENT and the timer stops (R89). A peer whose
frame is in processing stays ACTIVE (log entry 22). -/
def State.silencePeer (s : State) (n : Nat) : State :=
  match (s.peer n).silence with
  | some k =>
    if (s.peer n).state = .active ∧ silenceLimit ≤ k ∧ s.inProcessing n = false then
      (s.updatePeer n fun p => { p with state := .silent, silence := none }).reformLink
    else s
  | none => s

/-- PEER_SILENCE_TIMEOUT (R89). -/
def execPeerSilenceTimeout (peer : BitVec 4) (s : State) : Host.Outcome State Fault Refusal :=
  .next (s.silencePeer peer.toNat)

end Sys2Proof.Machine
end

