-- ==== Sys2Proof/Machine/Dispatch.lean ====
section
/-! DEFINITION. The dispatch: one arm for each command, in the order of spec/opcode_table.json. -/

namespace Sys2Proof.Machine

/-- What a command does to everything but the queue of commands. -/
def exec (i : Instr) (s : State) : Host.Outcome State Fault Refusal :=
  match i with
  | .powerOnReset straps => Sys2Proof.Machine.execPowerOnReset straps s
  | .feedWriteStart => Sys2Proof.Machine.execFeedWriteStart s
  | .stationSettings form body => Sys2Proof.Machine.execStationSettings form body s
  | .declareSource form body => Sys2Proof.Machine.execDeclareSource form body s
  | .element form body => Sys2Proof.Machine.execElement form body s
  | .point form body => Sys2Proof.Machine.execPoint form body s
  | .commit form => Sys2Proof.Machine.execCommit form s
  | .segment form body => Sys2Proof.Machine.execSegment form body s
  | .event form body => Sys2Proof.Machine.execEvent form body s
  | .progress form body => Sys2Proof.Machine.execProgress form body s
  | .endSource form source => Sys2Proof.Machine.execEndSource form source s
  | .mergeAct => Sys2Proof.Machine.execMergeAct s
  | .commandWriteStart => Sys2Proof.Machine.execCommandWriteStart s
  | .start lengthByte => Sys2Proof.Machine.execStart lengthByte s
  | .hold lengthByte => Sys2Proof.Machine.execHold lengthByte s
  | .resume lengthByte => Sys2Proof.Machine.execResume lengthByte s
  | .step lengthByte => Sys2Proof.Machine.execStep lengthByte s
  | .setRate lengthByte rate => Sys2Proof.Machine.execSetRate lengthByte rate s
  | .holdAt lengthByte time => Sys2Proof.Machine.execHoldAt lengthByte time s
  | .skipOn lengthByte => Sys2Proof.Machine.execSkipOn lengthByte s
  | .skipOff lengthByte => Sys2Proof.Machine.execSkipOff lengthByte s
  | .watchSet lengthByte element kind => Sys2Proof.Machine.execWatchSet lengthByte element kind s
  | .watchClear lengthByte element => Sys2Proof.Machine.execWatchClear lengthByte element s
  | .excludePeer lengthByte peer => Sys2Proof.Machine.execExcludePeer lengthByte peer s
  | .includePeer lengthByte peer => Sys2Proof.Machine.execIncludePeer lengthByte peer s
  | .snapshot lengthByte => Sys2Proof.Machine.execSnapshot lengthByte s
  | .status lengthByte => Sys2Proof.Machine.execStatus lengthByte s
  | .skew lengthByte => Sys2Proof.Machine.execSkew lengthByte s
  | .restart lengthByte broadcast => Sys2Proof.Machine.execRestart lengthByte broadcast s
  | .clearFlags lengthByte flags => Sys2Proof.Machine.execClearFlags lengthByte flags s
  | .mask lengthByte entries => Sys2Proof.Machine.execMask lengthByte entries s
  | .consoleReadyAssert => Sys2Proof.Machine.execConsoleReadyAssert s
  | .consoleReadyWithdraw => Sys2Proof.Machine.execConsoleReadyWithdraw s
  | .deliveryRecordBegin => Sys2Proof.Machine.execDeliveryRecordBegin s
  | .deliveryRecordEnd => Sys2Proof.Machine.execDeliveryRecordEnd s
  | .heartbeat => Sys2Proof.Machine.execHeartbeat s
  | .frameBuild quietBits => Sys2Proof.Machine.execFrameBuild quietBits s
  | .collision bit => Sys2Proof.Machine.execCollision bit s
  | .transmitError bit => Sys2Proof.Machine.execTransmitError bit s
  | .frameSentWhole => Sys2Proof.Machine.execFrameSentWhole s
  | .backoffDone quietBits => Sys2Proof.Machine.execBackoffDone quietBits s
  | .muteExpiry => Sys2Proof.Machine.execMuteExpiry s
  | .syncReject preamble delimiter => Sys2Proof.Machine.execSyncReject preamble delimiter s
  | .frameReceive bits own => Sys2Proof.Machine.execFrameReceive bits own s
  | .frameProcessing entries => Sys2Proof.Machine.execFrameProcessing entries s
  | .peerSilenceTimeout peer => Sys2Proof.Machine.execPeerSilenceTimeout peer s
  | .release => Sys2Proof.Machine.execRelease s
  | .releaseRecordQueue => Sys2Proof.Machine.execReleaseRecordQueue s
  | .lateApply => Sys2Proof.Machine.execLateApply s
  | .relabelComputed => Sys2Proof.Machine.execRelabelComputed s
  | .islandsEmit => Sys2Proof.Machine.execIslandsEmit s
  | .snapshotEmitting => Sys2Proof.Machine.execSnapshotEmitting s
  | .elementState => Sys2Proof.Machine.execElementState s
  | .nodeLabels => Sys2Proof.Machine.execNodeLabels s
  | .skewRecord => Sys2Proof.Machine.execSkewRecord s
  | .holdState => Sys2Proof.Machine.execHoldState s
  | .completeRecord => Sys2Proof.Machine.execCompleteRecord s
  | .clockAdvance => Sys2Proof.Machine.execClockAdvance s
  | .stallTimeout => Sys2Proof.Machine.execStallTimeout s
  | .malformedFeedRecord kind received => Sys2Proof.Machine.execMalformedFeedRecord kind received s
  | .malformedCommand kind => Sys2Proof.Machine.execMalformedCommand kind s
  | .frameOpened preamble delimiter => Sys2Proof.Machine.execFrameOpened preamble delimiter s

end Sys2Proof.Machine
end

