-- ==== Sys2Proof/Machine/Step.lean ====
section
/-! DEFINITION. The step: the command at the front of the queue. -/

namespace Sys2Proof.Machine

/-- The state without the command at the front of its queue. -/
def State.popCommand (s : State) : State := { s with pending := s.pending.tail }

/-- Takes the command at the front of the queue and runs it on the state with the queue's rest. With no command waiting
the block idles (log entry 1). -/
def step (s : State) : Host.Outcome State Fault Refusal :=
  match s.pending with
  | [] => .next s
  | i :: _ => exec i s.popCommand

/-- The state with the command that a word spells at the front of its queue; no word spells one (log entry 2). -/
def State.withFetchWord (s : State) (nbits w : Nat) : State :=
  match decodeTableWord nbits w with
  | some i => { s with pending := i :: s.pending }
  | none => s

end Sys2Proof.Machine
end

