-- ==== Sys2Proof/Safety.lean ====
section
/-! DEFINITION. What the statements speak of: the invariants of the whole machine, well-formed frames, islands as a
relation, and the replies the command unit queues. -/

namespace Sys2Proof.Machine

/-! ## Ordered lists -/

/-- A list in strictly increasing order of release key (R2, R39, R86, R119). -/
def KeySorted {α : Type} (key : α → Key) (xs : List α) : Prop :=
  xs.Pairwise fun a b => (key a).lt (key b) = true

/-- The three release lists and the outgoing change set are in increasing key order with no key twice (R39, R40, R86,
R119). -/
structure State.ListsSorted (s : State) : Prop where
  pendingQueue : KeySorted PendingEntry.key s.pendingQueue
  outgoing : KeySorted OutgoingCopy.key s.outgoing
  remotes : KeySorted RemoteEntry.key s.remotes
  timers : KeySorted id s.timers

/-- The ordinals of source `n` below this one have been assigned; 2^32 once all have (R16). -/
def State.nextOrdinalBound (s : State) (n : Nat) : Nat := (s.source n).nextOrdinal.getD 4294967296

/-- The ordinal of a key of this station was assigned by its source (R16). -/
def State.assigned (s : State) (k : Key) : Prop := k.ordinal < s.nextOrdinalBound k.source

/-- Two keys name the same record of the same source. -/
def Key.sameRecord (a b : Key) : Prop := a.source = b.source ∧ a.ordinal = b.ordinal

/-- Ordinals are used once (R16): every key held was assigned, and the record in intake is held nowhere yet. -/
structure State.OrdinalsFresh (s : State) : Prop where
  next : ∀ n o, (s.source n).nextOrdinal = some o → o ≤ max32
  pendingQueue : ∀ x ∈ s.pendingQueue, s.assigned x.key
  outgoing : ∀ c ∈ s.outgoing, s.assigned c.key
  intake : ∀ e, s.feed.intake = some e → s.assigned e.key ∧
    (∀ x ∈ s.pendingQueue, ¬ x.key.sameRecord e.key) ∧ ∀ c ∈ s.outgoing, ¬ c.key.sameRecord e.key

/-! ## Capacities -/

/-- The timers are of the two kinds, on element numbers, one of each kind for an element (R119). -/
structure State.TimersShaped (s : State) : Prop where
  shape : ∀ k ∈ s.timers, (k.source = travelSource ∨ k.source = quietSource) ∧ k.ordinal < 256
  distinct : s.timers.Pairwise fun a b => ¬ a.sameRecord b

/-- No buffer holds more than its capacity, and a record past its admission test has its place (R13, R20, R38, R40, R72,
R86, R134). -/
structure State.WithinCapacity (s : State) : Prop where
  pendingQueue : s.pendingQueue.length ≤ pendingCapacity
  admitted : s.feed.intake.isSome → s.pendingQueue.length < pendingCapacity
  outgoing : s.outgoing.length ≤ outgoingCapacity
  admittedCopy : ∀ e, s.feed.intake = some e → e.tie.isSome → s.outgoing.length < outgoingCapacity
  remotes : s.remotes.length ≤ remoteCapacity
  points : s.points.length ≤ pointCapacity
  timers : s.timers.length ≤ timerCapacity
  timersShaped : s.TimersShaped
  delivery : s.delivery.queue.length ≤ deliveryCapacity
  buffers : s.rx.buffers.length ≤ bufferCount

/-! ## Times and the clock -/

/-- Every time held lies within 0 .. 2^40 - 2, and the clock's fields lie in their ranges (R94, R95, R147). -/
structure State.TimesInRange (s : State) : Prop where
  startTime : s.settings.startTime ≤ maxTime
  watermarks : ∀ n w, (s.source n).isOpen = true → (s.source n).watermark = some w → w ≤ maxTime
  intake : ∀ e, s.feed.intake = some e → e.key.time ≤ maxTime
  pendingQueue : ∀ x ∈ s.pendingQueue, x.key.time ≤ maxTime
  outgoing : ∀ c ∈ s.outgoing, c.key.time ≤ maxTime
  remotes : ∀ r ∈ s.remotes, r.key.time ≤ maxTime
  timers : ∀ k ∈ s.timers, k.time ≤ maxTime
  sending : ∀ f, s.tx.state = .sending f → ∀ c ∈ f.changes, c.time ≤ maxTime
  buffers : ∀ f ∈ s.rx.buffers, ∀ c ∈ f.changes, c.time ≤ maxTime
  processing : ∀ pr, s.processing = some pr →
    (∀ c ∈ pr.frame.changes, c.time ≤ maxTime) ∧ (∀ c ∈ pr.remaining, c.time ≤ maxTime) ∧
      ∀ r, pr.handOver = some r → r.key.time ≤ maxTime
  releasePoint : ∀ k, s.engine.releasePoint = some k → k.time ≤ maxTime
  inFlight : ∀ r, s.engine.inFlight = some r → r.item.key.time ≤ maxTime
  apply : ∀ r, s.engine.apply = some r → r.key.time ≤ maxTime
  relabel : ∀ k st, (s.islands.relabel = some ⟨.item k, st⟩ ∨ s.islands.relabel = some ⟨.late k, st⟩) → k.time ≤ maxTime
  elements : ∀ n e, s.elementAt n = some e →
    (∀ l, e.lastRelease = some l → l.time ≤ maxTime) ∧ (∀ w, e.travelStart = some w → w ≤ maxTime) ∧
      ∀ w, e.windowStart = some w → w ≤ maxTime
  integer : s.clock.integer ≤ maxTime
  fraction : s.clock.fraction < 65536
  rate : 1 ≤ s.clock.rate ∧ s.clock.rate ≤ maxRate
  holdAt : ∀ t, s.clock.holdAt = some t → s.clock.integer ≤ t ∧ t ≤ maxTime

/-! ## Values formed from others -/

/-- The horizon unit's values are those its inputs give (R75, R76, R90, R91). -/
structure State.BoundsAgree (s : State) : Prop where
  lw : s.horizon.lw = s.localWatermark
  safeTime : s.horizon.safeTime = s.safeBound
  limiting : s.horizon.limiting = s.limitingCause

/-- The PEER cause is present exactly while a counted peer requests a hold (R104). -/
def State.PeerHoldAgrees (s : State) : Prop :=
  s.clock.causes.peer = true ↔ ∃ p ∈ s.peers.toList, p.counted = true ∧ p.hold = true

/-- The LINK condition held is the one the transmitter and the counted peers give (R137). -/
def State.LinkAgrees (s : State) : Prop :=
  s.attention.linkCondition = true ↔
    s.tx.state.isMuted = true ∨ ∃ p ∈ s.peers.toList, p.state = .silent ∨ p.state = .desync

/-! ## Station state, transmitter, peers -/

/-- In UNCONFIGURED and LOADING the transmitter is IDLE or under a mute with no expiry (R68). -/
def State.SilentBeforeCommit (s : State) : Prop :=
  s.beforeCommit = true → s.tx.state = .idle ∨ s.tx.state = .muted none

/-- START_PENDING holds the clock in READY and is absent in REPLAYING and COMPLETE (R95, R97, R99). -/
structure State.StartPendingAgrees (s : State) : Prop where
  ready : s.station.state = .ready → s.clock.causes.startPending = true
  started : s.station.state = .replaying ∨ s.station.state = .complete → s.clock.causes.startPending = false

/-- Copies are held exactly while their frame is on the line, and it carries them as they are held (R41, R62, R78). -/
structure State.HeldAgree (s : State) : Prop where
  sending : ∀ f, s.tx.state = .sending f → f.changes = (s.outgoing.filter OutgoingCopy.held).map fun c =>
    ChangeEntry.mk c.key.time c.key.source c.key.ordinal c.tie c.position c.cause c.quality c.carried
  idle : (∀ f, s.tx.state ≠ .sending f) → ∀ c ∈ s.outgoing, c.held = false

/-- The silence timer runs for ACTIVE peers alone (R89). -/
def State.SilenceAgrees (s : State) : Prop :=
  ∀ p ∈ s.peers.toList, p.state ≠ .active → p.silence = none

/-- The own station's peer entry stays NOT_EXPECTED, and no frame of the own number reaches the peer table (R73, R79). -/
structure State.OwnEntryUnused (s : State) : Prop where
  entry : (s.peer s.station.number).state = .notExpected
  buffers : ∀ f ∈ s.rx.buffers, f.sender ≠ s.station.number
  processing : ∀ pr, s.processing = some pr → pr.frame.sender ≠ s.station.number

/-! ## The stall timer and the wish for a frame -/

/-- The stall condition of R107: in REPLAYING, the least head lies at or below the clock and at or above the safe time. -/
def State.Stalls (s : State) : Prop :=
  s.station.state = .replaying ∧
    ∃ i, s.leastHead = some i ∧ i.key.time ≤ s.clock.integer ∧ s.horizon.safeTime ≤ i.key.time

/-- The stall timer runs exactly while the stall condition holds and STALL is absent (R107; that it stays stopped while STALL
is present is log entry 36). -/
def State.StallTimerAgrees (s : State) : Prop :=
  s.clock.stallTimer.isSome = true ↔ s.Stalls ∧ s.clock.stall = false

/-- The horizon, the hold request, the restart request and the station state that a frame built now would carry (R60, R77,
R104). -/
def State.contentNow (s : State) : SentContent where
  horizon := match s.outgoing[8]? with
    | some ninth => min s.horizon.lw ninth.key.time
    | none => s.horizon.lw
  hold := s.clock.causes.localHold || (s.clock.causes.brk && s.clock.broadcastBreak)
  restart := s.station.restartRequest
  senderState := match s.station.state with
    | .replaying => .replaying
    | .complete => .complete
    | _ => .ready

/-- A frame is wanted by one of the conditions 1 to 6 of R60: none was sent in the epoch, or the last one sent whole
carried other content, or a copy waits. -/
def State.ContentWanted (s : State) : Prop :=
  s.inService = true ∧ (s.tx.lastSent ≠ some s.contentNow ∨ s.outgoing ≠ [])

/-- A frame is wanted (R60): by its content or as the heartbeat, 10 ms after the last one sent whole. -/
def State.Wanted (s : State) : Prop :=
  s.ContentWanted ∨ s.inService = true ∧ ∃ e, s.tx.lastEnd = some e ∧ 10000 ≤ s.elapsed e

/-- An IDLE transmitter never has a frame wanted by its content (R60); and a broadcast break holds with BREAK alone
(R104). -/
structure State.IdleAgrees (s : State) : Prop where
  idle : s.tx.state = .idle → ¬ s.ContentWanted
  broadcastBreak : s.clock.broadcastBreak = true → s.clock.causes.brk = true

/-! ## Announced horizons -/

/-- What the horizon law of R77 rests on: no copy, no record in intake and no local watermark below the horizon last
announced in the epoch, and nothing but the copies it carries below that of a frame on the line. -/
structure State.HorizonLaw (s : State) : Prop where
  marked : ∀ n, (s.source n).isOpen = true → (s.source n).watermark.isSome = true
  watermark : ∀ h, s.horizon.ownAnnounced = some h → h ≤ s.horizon.lw
  copies : ∀ h, s.horizon.ownAnnounced = some h → ∀ c ∈ s.outgoing, h ≤ c.key.time
  frameWatermark : ∀ f, s.tx.state = .sending f → f.horizon ≤ s.horizon.lw
  frameCopies : ∀ f, s.tx.state = .sending f → ∀ c ∈ s.outgoing, c.held = false → f.horizon ≤ c.key.time
  frameAbove : ∀ f h, s.tx.state = .sending f → s.horizon.ownAnnounced = some h → h ≤ f.horizon
  frameEpoch : ∀ f, s.tx.state = .sending f → s.inService = true
  intake : ∀ e, s.feed.intake = some e →
    s.inService = true ∧ (s.source e.key.source).isOpen = true ∧ (s.source e.key.source).watermark = some e.key.time

/-- The release point lies below LW in time and below every key in the Pending Queue (R44); no remote change and no timer
below it waits in the other two lists (R85, R110, R119), since a quiet timer is set some way ahead (R147). -/
structure State.ReleasePointLaw (s : State) : Prop where
  time : ∀ k, s.engine.releasePoint = some k → k.time < s.horizon.lw
  pendingQueue : ∀ k, s.engine.releasePoint = some k → ∀ x ∈ s.pendingQueue, k.lt x.key = true
  remotes : ∀ k, s.engine.releasePoint = some k → ∀ r ∈ s.remotes, r.key.lt k = false
  timers : ∀ k, s.engine.releasePoint = some k → ∀ x ∈ s.timers, x.lt k = false
  quiet : 1 ≤ s.settings.chatterQ

/-! ## Source counters -/

/-- How many Pending Queue entries are of source `n`. -/
def State.heldOf (s : State) (n : Nat) : Nat := (s.pendingQueue.filter fun x => x.key.source == n).length

/-- One where the record in intake, past step 7, is of source `n`. -/
def State.intakeOf (s : State) (n : Nat) : Nat :=
  match s.feed.intake with
  | some e => if e.key.source = n then 1 else 0
  | none => 0

/-- The counters of every source (R12): PENDING is the number of its entries, and until TAKEN saturates it is the sum of
MERGED, PENDING, RELEASED and the record in intake. Every own event is of a present element, as is every point once
committed (R111, R149). -/
structure State.CountersAgree (s : State) : Prop where
  undeclared : ∀ n, (s.source n).state = .undeclared → (s.source n).counters = SourceCounters.zero
  pending : ∀ n, n < 32 → (s.source n).counters.pending = s.heldOf n
  taken : ∀ n, n < 32 → (s.source n).counters.taken < max32 →
    (s.source n).counters.taken = (s.source n).counters.merged + (s.source n).counters.pending +
      (s.source n).counters.released + s.intakeOf n
  points : s.inService = true → ∀ p ∈ s.points, (s.elementAt p.element).isSome = true
  intake : ∀ e, s.feed.intake = some e → (s.elementAt e.element).isSome = true
  entries : ∀ x ∈ s.pendingQueue, (s.elementAt x.element).isSome = true

/-! ## What an act leaves -/

/-- The lag test is taken in the act from `s` to `t` (R106): in REPLAYING, where the clock's integer part, the least head or
the safe time changed. The least head has changed where any field of the item has, its confirmation count and ANNOUNCED
among them (log entry 35). The act that completes the replay is still one of REPLAYING. -/
def State.LagTested (s t : State) : Prop :=
  (t.station.state = .replaying ∨ s.station.state = .replaying ∧ t.station.state = .complete) ∧
    (t.clock.integer ≠ s.clock.integer ∨ t.leastHead ≠ s.leastHead ∨ t.horizon.safeTime ≠ s.horizon.safeTime)

/-- The LAG cause after an act from `s` to `t` (R106). A lag is counted where the head lies below the safe
time and the clock has reached it; above the limit it adds LAG, above half the limit it leaves it, else LAG is clear. -/
structure State.LagFollows (s t : State) : Prop where
  untested : ¬ s.LagTested t → t.clock.causes.lag = s.clock.causes.lag
  above : s.LagTested t → ∀ i, t.leastHead = some i → i.key.time < t.horizon.safeTime →
    i.key.time + t.settings.lagLimit * 1000 < t.clock.integer → t.clock.causes.lag = true
  between : s.LagTested t → ∀ i, t.leastHead = some i → i.key.time < t.horizon.safeTime →
    i.key.time + t.settings.lagLimit * 500 < t.clock.integer →
    t.clock.integer ≤ i.key.time + t.settings.lagLimit * 1000 → t.clock.causes.lag = s.clock.causes.lag
  below : s.LagTested t → (∀ i, t.leastHead = some i → t.horizon.safeTime ≤ i.key.time ∨
    t.clock.integer ≤ i.key.time + t.settings.lagLimit * 500) → t.clock.causes.lag = false

/-- The STALL condition and the stall timer after an act from `s` to `t` (R107): STALL ends when the safe time rises; the
timer goes on, starts or starts again, or is stopped. While STALL is present it stays stopped, also where the stall
condition begins anew or the safe time falls (log entry 36). -/
structure State.StallFollows (s t : State) : Prop where
  stall : t.clock.stall = true ↔ s.clock.stall = true ∧ t.horizon.safeTime ≤ s.horizon.safeTime
  stopped : t.clock.stall = true ∨ ¬ t.Stalls → t.clock.stallTimer = none
  goesOn : t.clock.stall = false → t.Stalls → t.horizon.safeTime = s.horizon.safeTime →
    t.clock.stallTimer = some (s.clock.stallTimer.getD 0)
  restarts : t.clock.stall = false → t.Stalls → t.horizon.safeTime ≠ s.horizon.safeTime → t.clock.stallTimer = some 0

/-- From `s` to `t` the transmitter changed from IDLE to WAITING where a frame is wanted, and not otherwise (R60). -/
structure State.TxFollows (s t : State) : Prop where
  frame : t.tx = { s.tx with state := t.tx.state }
  wanted : s.tx.state = .idle → t.Wanted → t.tx.state = .waiting
  unwanted : s.tx.state ≠ .idle ∨ ¬ t.Wanted → t.tx.state = s.tx.state

/-- From `s` to `t` the attention unit changed by the LINK condition alone, and its flag was set where it began (R137). -/
structure State.LinkFollows (s t : State) : Prop where
  frame : t.attention = { s.attention with
    flags := { s.attention.flags with link := t.attention.flags.link }
    linkCondition := t.attention.linkCondition }
  link : t.LinkAgrees
  flag : t.attention.flags.link =
    (s.attention.flags.link || (t.attention.linkCondition && !s.attention.linkCondition))

/-- In an act from `s` to `t` nothing of the horizon unit, the clock, the attention unit and the transmitter changed but
what the act itself writes there, which `w` holds, and what is re-formed after it: LW, the safe time and the limiting
cause (R76), the PEER cause (R104), the LAG cause and flag (R106), the stall condition and its timer (R107), the LINK
condition and flag (R137), and IDLE to WAITING (R60). The COMPLETE flag is left to the structures below. -/
structure State.Reformed (s w t : State) : Prop where
  ownAnnounced : t.horizon.ownAnnounced = w.horizon.ownAnnounced
  clock : t.clock = { w.clock with
    causes := { w.clock.causes with peer := t.clock.causes.peer, lag := t.clock.causes.lag }
    stall := t.clock.stall
    stallTimer := t.clock.stallTimer }
  attention : t.attention = { w.attention with
    flags := { w.attention.flags with
      lag := t.attention.flags.lag, link := t.attention.flags.link, complete := t.attention.flags.complete }
    linkCondition := t.attention.linkCondition }
  tx : w.TxFollows t
  bounds : t.BoundsAgree
  peerHold : t.PeerHoldAgrees
  link : t.LinkAgrees
  linkFlag : t.attention.flags.link =
    (w.attention.flags.link || (t.attention.linkCondition && !w.attention.linkCondition))
  lag : s.LagFollows t
  lagFlag : t.attention.flags.lag = (w.attention.flags.lag || (t.clock.causes.lag && !s.clock.causes.lag))
  stall : s.StallFollows t

/-- What is re-formed after an act from `s` to `t` that writes nothing of its own there and takes no completion test. -/
structure State.OnlyReformed (s t : State) : Prop extends s.Reformed s t where
  complete : t.attention.flags.complete = s.attention.flags.complete

/-- The five conditions of R124: LW is END, no peer is counted, the three lists and the outgoing change set are empty, and
no release, apply or relabel is in flight. -/
structure State.Drained (s : State) : Prop where
  lw : s.horizon.lw = endTime
  peers : ∀ p ∈ s.peers.toList, p.counted = false
  lists : s.pendingQueue = [] ∧ s.remotes = [] ∧ s.timers = []
  outgoing : s.outgoing = []
  idle : s.engine.inFlight = none ∧ s.engine.apply = none ∧ s.islands.relabel = none

/-- From `s` to `t` the conditions of R124 came to hold in REPLAYING. Where they hold already and none of them changes, R124
asks for no test (log entry 24). -/
def State.ComesToEnd (s t : State) : Prop := s.station.state = .replaying ∧ ¬ s.Drained ∧ t.Drained

/-- The station completes in the act from `s` to `t`: COMPLETE, with the COMPLETE flag and a COMPLETE record owed (R124). -/
structure State.Completed (s t : State) : Prop where
  station : t.station = { s.station with state := .complete }
  flag : t.attention.flags.complete = true
  owed : t.engine.completeOwed = true

/-- The station state and what completion writes are as they were. -/
structure State.NotCompleted (s t : State) : Prop where
  station : t.station = s.station
  flag : t.attention.flags.complete = s.attention.flags.complete
  owed : t.engine.completeOwed = s.engine.completeOwed

/-- What is re-formed after an act from `s` to `t` whose own writes `w` holds, with the completion test of R124: the
station completes exactly where the conditions came to hold. -/
structure State.ReformedWith (s w t : State) : Prop extends s.Reformed w t where
  completes : s.ComesToEnd t → s.Completed t
  otherwise : ¬ s.ComesToEnd t → s.NotCompleted t

/-- As `ReformedWith`, of an act that writes nothing of its own there. -/
abbrev State.ReformedToEnd (s t : State) : Prop := s.ReformedWith s t

/-- From `s` to `t` nothing changed but that one error reached the error capture (R139): the first error with ERROR set,
or one more later error. -/
structure State.Reported (s t : State) (kind : ErrorKind) (subject : Option Nat) : Prop where
  frame : t = { s with attention := t.attention }
  mask : t.attention.mask = s.attention.mask ∧ t.attention.linkCondition = s.attention.linkCondition
  asFirst : s.attention.capture.first = none →
    t.attention.capture = { s.attention.capture with first := some ⟨kind, subject, s.station.time⟩ } ∧
    t.attention.flags = { s.attention.flags with error := true }
  asLater : ∀ e, s.attention.capture.first = some e →
    t.attention.capture = ⟨some e, if s.attention.capture.later < 65535 then s.attention.capture.later + 1
      else s.attention.capture.later, some kind⟩ ∧ t.attention.flags = s.attention.flags

/-! ## Release -/

/-- No release, apply or relabel is in flight, no snapshot WAITING or EMITTING, and more than 4 delivery entries are free
(R109, R114). -/
structure State.EngineFree (s : State) : Prop where
  inFlight : s.engine.inFlight = none
  apply : s.engine.apply = none
  relabel : s.islands.relabel = none
  snapshot : s.engine.snapshot = .none
  room : s.delivery.queue.length < 60

/-- An item of key `k` that is the least head is releasable (R109), with no LATE hand-over before it (R114). -/
structure State.CanRelease (s : State) (k : Key) : Prop where
  replaying : s.station.state = .replaying
  safe : k.time < s.horizon.safeTime
  clock : k.time ≤ s.clock.integer ∨ s.clock.stepArmed = true
  engine : s.EngineFree
  noHandOver : ∀ pr, s.processing = some pr → pr.handOver = none

/-- The state with the clock as the removal of an item at time `t` leaves it (R102): where a step is armed, the clock is
raised to the item, the fraction is 0, the step is disarmed and STEP added; a hold-at time that the raised clock has
reached becomes absent and sets BREAK with its flag (R103, R137). Nothing else of the clock changes, and nothing at all
where no step is armed. -/
def State.steppedTo (s : State) (t : Nat) : State :=
  let now := max s.clock.integer t
  let reached := s.clock.holdAt.any fun h => decide (h ≤ now)
  if s.clock.stepArmed = true then { s with
    clock := { s.clock with
      integer := now
      fraction := 0
      stepArmed := false
      holdAt := if reached = true then none else s.clock.holdAt
      causes := { s.clock.causes with step := true, brk := s.clock.causes.brk || reached } }
    attention := { s.attention with flags := { s.attention.flags with brk := s.attention.flags.brk || reached } } }
  else s

/-- The timers without that of a kind on element `n`. -/
def timersWithout (kind n : Nat) (ts : List Key) : List Key :=
  ts.filter fun k => !(k.source == kind && k.ordinal == n)

/-- The timer of a kind on element `n` removed, and inserted at `due` where that does not exceed 2^40 - 2 (R115, R117,
R118). -/
def State.timerMoved (s : State) (kind n due : Nat) (ts : List Key) : List Key :=
  if due ≤ 1099511627774 then insertByKey id ⟨due, s.station.number, kind, n⟩ (timersWithout kind n ts)
  else timersWithout kind n ts

/-- Travel timing applies: LOCAL or LOCAL_TIE with a travel limit above 0 (R115). -/
def Element.Timed (e : Element) : Prop := (∀ t o, e.ownership ≠ .mirror t o) ∧ 0 < e.travelLimit

/-- The chatter count after a change of position at time `t` on a NORMAL element (R117): 1 where a window starts. -/
def State.chatterCount (s : State) (e : Element) (t : Nat) : Nat :=
  match e.windowStart with
  | none => 1
  | some w => if s.settings.chatterW * 1000 ≤ t - w then 1 else e.windowCount + 1

/-- The own event's release on element `e` starts CHATTERING (R117). -/
def State.StartsChatter (s : State) (x : PendingEntry) (e : Element) : Prop :=
  x.position ≠ e.current ∧ e.chatter = .normal ∧ e.chatterEnable = true ∧
    s.chatterCount e x.key.time = s.settings.chatterN

/-- The timers after the travel handling of an own event's release on element `e` (TRAVEL TABLE, R115). -/
structure State.TravelTimers (s : State) (x : PendingEntry) (e : Element) (ts : List Key) : Prop where
  untimed : ¬ e.Timed ∨ x.position = e.current ∨ x.position = .unknown → ts = s.timers
  starts : e.Timed → x.position = .intermediate → e.current = .opened ∨ e.current = .closed →
    ts = s.timerMoved 32 x.element (x.key.time + e.travelLimit * 1000) s.timers
  staysAbsent : x.position = .intermediate → e.current ≠ .opened → e.current ≠ .closed → ts = s.timers
  ends : e.Timed → x.position ≠ e.current → (x.position = .opened ∨ x.position = .closed) →
    ts = if e.travelStart.isSome then timersWithout 32 x.element s.timers else s.timers
  bad : e.Timed → x.position ≠ e.current → x.position = .bad → ts = timersWithout 32 x.element s.timers

/-- An own event `x` on element `e` was released from `s` to `t` (R110, R112): the removal, the release point, the element's
new record `f`, the counters, the record owed (none where it is suppressed, R118), the relabel started in the act (log
entry 17), the step it completes where one is armed (R102), and the end of a release with nothing left to queue. `ts` is
the timer list after travel. -/
structure State.OwnReleased (s : State) (x : PendingEntry) (e f : Element) (record : Option EventRecord)
    (ts : List Key) (t : State) : Prop where
  frame : t = { s with
    pendingQueue := s.pendingQueue.tail, timers := t.timers, elements := t.elements, sources := t.sources
    engine := t.engine, islands := t.islands, station := t.station, clock := t.clock, attention := t.attention
    horizon := t.horizon, tx := t.tx }
  element : t.elementAt x.element = some f
  elements : ∀ n, n ≠ x.element → t.elementAt n = s.elementAt n
  fields : f = { e with
    current := x.position, lastRelease := some ⟨x.key.time, x.key.source, x.position⟩, travelStart := f.travelStart
    stuck := f.stuck, chatter := f.chatter, windowStart := f.windowStart, windowCount := f.windowCount
    suppressed := f.suppressed }
  source : x.key.source < 32 → t.source x.key.source = { s.source x.key.source with
    counters := { (s.source x.key.source).counters with
      released := satSucc 4294967295 (s.source x.key.source).counters.released
      pending := (s.source x.key.source).counters.pending - 1 } }
  sources : ∀ n, n ≠ x.key.source → t.source n = s.source n
  relabels : e.nodes.isSome = true → x.position ≠ e.current →
    t.islands = { s.islands with relabel := some ⟨.item x.key, .computing⟩ }
  keepsLabels : e.nodes = none ∨ x.position = e.current → t.islands = s.islands
  engine : t.engine = { s.engine with
    releasePoint := some x.key, inFlight := t.engine.inFlight, completeOwed := t.engine.completeOwed }
  owes : ∀ v, record = some v → t.engine.inFlight = some ⟨.own x, some (.event v), none⟩
  suppressed : record = none → t.engine.inFlight =
    if e.watch ≠ .none then some ⟨.own x, none, some e.watch⟩
    else if e.nodes.isSome = true ∧ x.position ≠ e.current then some ⟨.own x, none, none⟩ else none
  travelTimers : s.TravelTimers x e ts
  chatterTimers : (x.position ≠ e.current ∧ e.chatter = .chattering ∨ s.StartsChatter x e) →
    t.timers = s.timerMoved 33 x.element (x.key.time + s.settings.chatterQ * 1000) ts
  otherTimers : ¬ (x.position ≠ e.current ∧ e.chatter = .chattering ∨ s.StartsChatter x e) → t.timers = ts
  reformed : s.ReformedWith (s.steppedTo x.key.time) t

/-! ## Frame processing -/

/-- The peer entry after step 5 of an accepted frame (R88): the horizon stored unless it is lower, END, the silence timer of
an ACTIVE peer, and the requests; a lower horizon is an error charged to it. -/
def Peer.afterFrame (q : Peer) (f : Frame) : Peer :=
  let h := max q.horizon f.horizon
  { q with
    horizon := h
    state := if h = endTime then .ended else q.state
    silence := if h = endTime then none else if q.state = .active then some 0 else q.silence
    hold := f.hold
    senderState := some f.senderState
    errors := if f.horizon < q.horizon then satSucc 65535 q.errors else q.errors }

/-- The peer entry after step 5 of a frame taken while EXCLUDED (R92): its state and silence timer stay. -/
def Peer.afterTracked (q : Peer) (f : Frame) : Peer :=
  { q with
    horizon := max q.horizon f.horizon
    hold := f.hold
    senderState := some f.senderState
    errors := if f.horizon < q.horizon then satSucc 65535 q.errors else q.errors }

/-- The state with the report of step 5, where the frame's horizon is below the stored one (R88). -/
def State.backstepReported (s : State) (f : Frame) (stored : Nat) : State :=
  if f.horizon < stored then s.report .horizonBackstep (some f.sender) else s

/-- A frame processing that ends from `s` to `t` leaves its sender's entry `q`; the buffer is freed, no other peer entry
changes, and what is re-formed follows, with `w` the state with the act's reports. -/
structure State.FrameEnds (s w : State) (f : Frame) (q : Peer) (t : State) : Prop where
  frame : t = { s with
    rx := { s.rx with buffers := s.rx.buffers.tail }, processing := none, remotes := t.remotes, peers := t.peers
    horizon := t.horizon, clock := t.clock, attention := t.attention, tx := t.tx, station := t.station
    engine := { s.engine with completeOwed := t.engine.completeOwed } }
  sender : t.peer f.sender = q
  peers : ∀ n, n ≠ f.sender → t.peer n = s.peer n
  reformed : w.ReformedToEnd t

/-- A frame processing that stands from `s` to `t`, as `FrameEnds` but with a processing in flight and the buffer kept. -/
structure State.FrameStands (s w : State) (f : Frame) (q : Peer) (pr : Processing) (t : State) : Prop where
  frame : t = { s with
    processing := some pr, remotes := t.remotes, peers := t.peers, horizon := t.horizon, clock := t.clock
    attention := t.attention, tx := t.tx, station := t.station
    engine := { s.engine with completeOwed := t.engine.completeOwed } }
  sender : t.peer f.sender = q
  peers : ∀ n, n ≠ f.sender → t.peer n = s.peer n
  reformed : w.ReformedToEnd t

/-- One FRAME_PROCESSING row that leads from `s` to `t` does in one act what several rows do that lead from `s` to `u`: the
same reports and the same writes, with what is re-formed re-formed once, at its end (log entry 19). -/
structure State.SameInOneRow (s u t : State) : Prop where
  frame : t = { u with
    horizon := t.horizon, clock := t.clock, attention := t.attention, tx := t.tx, station := t.station
    engine := { u.engine with completeOwed := t.engine.completeOwed } }
  reformed : ({ s with attention := { s.attention with
    capture := u.attention.capture
    flags := { s.attention.flags with error := u.attention.flags.error } } } : State).ReformedToEnd t

/-- The entry after one is passed, with `cs` the rest: the processing stands, or step 5 ends it (R81, R88, R92). -/
structure State.EntryPassed (s w : State) (f : Frame) (tracked : Bool) (cs : List ChangeEntry) (q : Peer)
    (t : State) : Prop where
  stands : cs ≠ [] → s.FrameStands w f q ⟨f, cs, tracked, none⟩ t
  ends : cs = [] → s.FrameEnds (w.backstepReported f q.horizon) f
    (if tracked then q.afterTracked f else q.afterFrame f) t

/-! ## Frames -/

/-- A change entry whose fields fit the CHANGE ENTRY TABLE and pass R156. -/
structure ChangeEntry.Fits (c : ChangeEntry) : Prop where
  time : c.time < endTime
  source : c.source ≤ 31
  ordinal : c.ordinal < 2 ^ 32
  tie : c.tie < 2 ^ 10
  position : c.position ≠ .unknown
  cause : c.cause < 2 ^ 8
  quality : c.quality < 2 ^ 2

/-- A frame whose fields fit the FRAME HEADER TABLE. -/
structure Frame.Fits (f : Frame) : Prop where
  sender : f.sender < 2 ^ 4
  epoch : f.epoch < 2 ^ 8
  sequence : f.sequence < 2 ^ 8
  horizon : f.horizon < 2 ^ 40
  count : f.changes.length ≤ frameEntries
  changes : ∀ c ∈ f.changes, c.Fits

/-! ## Islands -/

/-- A relabel is still to bring the labels up to date: one is COMPUTING (R128). -/
def State.labelsDue (s : State) : Bool := s.islands.relabel.any fun r => r.stage == .computing

/-- From commit on, while no relabel is due the labels and counts are those of the joins (R125, R126, R128). -/
def State.LabelsAgree (s : State) : Prop :=
  s.inService = true → s.labelsDue = false →
    s.islands.labels = labelsOf s.joins ∧
    s.islands.islandCount = countIslands (labelsOf s.joins) s.nodesInUse ∧
    s.islands.uncertainCount = countUncertain (labelsOf s.joins) s.uncertainNodes

/-- Two nodes are of one island: the least equivalence that holds the joins (R125). -/
def SameIsland (joins : List (Nat × Nat)) : Nat → Nat → Prop :=
  Relation.EqvGen fun a b => (a, b) ∈ joins

/-! ## The description at COMMIT (R149) -/

/-- Check 1: at least one source is DECLARED. -/
def State.someDeclared (s : State) : Prop := ∃ n, (s.source n).state = .declared

/-- Check 2: every point map entry names a present element that is not MIRROR. -/
def State.pointsResolve (s : State) : Prop :=
  ∀ p ∈ s.points, ∃ e, s.elementAt p.element = some e ∧ ∀ t o, e.ownership ≠ .mirror t o

/-- Check 3: node A differs from node B. -/
def State.nodesDistinct (s : State) : Prop :=
  ∀ n e a b, s.elementAt n = some e → e.nodes = some (a, b) → a ≠ b

/-- Check 4: no tie number is carried by two elements. -/
def State.tiesUnique (s : State) : Prop :=
  ∀ n m e f t, s.elementAt n = some e → s.elementAt m = some f → e.tie = some t → f.tie = some t → n = m

/-- Check 5: every owner peer is another station and expected. -/
def State.ownersExpected (s : State) : Prop :=
  ∀ n e t o, s.elementAt n = some e → e.ownership = .mirror t o →
    o ≠ s.station.number ∧ s.settings.expectedMask.getLsbD o = true

/-! ## Commands -/

/-- A command's form (COMMAND KIND TABLE, R135): its length byte is that of its kind, and a mark kind, a peer number and
a yes/no byte name values. -/
def WellFormedCommand : Command → Prop
  | .start n => n = 0
  | .hold n => n = 0
  | .resume n => n = 0
  | .step n => n = 0
  | .setRate n _ => n = 4
  | .holdAt n _ => n = 5
  | .skipOn n => n = 0
  | .skipOff n => n = 0
  | .watchSet n _ k => n = 2 ∧ (k = 1 ∨ k = 2)
  | .watchClear n _ => n = 1
  | .excludePeer n p => n = 1 ∧ p.toNat ≤ 15
  | .includePeer n p => n = 1 ∧ p.toNat ≤ 15
  | .snapshot n => n = 0
  | .status n => n = 0
  | .skew n => n = 0
  | .restart n b => n = 1 ∧ (b = 0 ∨ b = 1)
  | .clearFlags n _ => n = 1
  | .mask n _ => n = 1
  | .malformed _ => False

/-- The states in which a command passes the state test (CONSOLE COMMAND TABLE, R136). -/
def acceptingStates : Command → List StationState
  | .start _ => [.ready]
  | .step _ => [.replaying]
  | .snapshot _ => [.ready, .replaying, .complete]
  | .skew _ => [.ready, .replaying, .complete]
  | .restart _ _ => [.ready, .replaying, .complete]
  | .status _ => [.unconfigured, .loading, .ready, .replaying, .complete]
  | .clearFlags _ _ => [.unconfigured, .loading, .ready, .replaying, .complete]
  | .mask _ _ => [.unconfigured, .loading, .ready, .replaying, .complete]
  | .malformed _ => []
  | .hold _ => [.ready, .replaying]
  | .resume _ => [.ready, .replaying]
  | .setRate _ _ => [.ready, .replaying]
  | .holdAt _ _ => [.ready, .replaying]
  | .skipOn _ => [.ready, .replaying]
  | .skipOff _ => [.ready, .replaying]
  | .watchSet _ _ _ => [.ready, .replaying]
  | .watchClear _ _ => [.ready, .replaying]
  | .excludePeer _ _ => [.ready, .replaying]
  | .includePeer _ _ => [.ready, .replaying]

/-- The row of the opcode table that is the end of a command's write. -/
def commandRow : Command → Instr
  | .start n => .start n
  | .hold n => .hold n
  | .resume n => .resume n
  | .step n => .step n
  | .setRate n r => .setRate n r
  | .holdAt n t => .holdAt n t
  | .skipOn n => .skipOn n
  | .skipOff n => .skipOff n
  | .watchSet n e k => .watchSet n e k
  | .watchClear n e => .watchClear n e
  | .excludePeer n p => .excludePeer n p
  | .includePeer n p => .includePeer n p
  | .snapshot n => .snapshot n
  | .status n => .status n
  | .skew n => .skew n
  | .restart n b => .restart n b
  | .clearFlags n f => .clearFlags n f
  | .mask n m => .mask n m
  | .malformed k => .malformedCommand k

/-- A command's write is under way and its end is decided at once: a delivery entry is free (R135). EXCLUDE and INCLUDE wait
for a frame processing in flight besides (R92). -/
structure State.DecidesAtOnce (s : State) : Prop where
  writing : s.console.writing = true
  room : s.delivery.queue.length < deliveryCapacity

/-- A RESTART can be decided at once: a write is under way in service and an entry is free (R135, R151). -/
structure State.writtenInService (s : State) : Prop where
  writing : s.console.writing = true
  room : s.delivery.queue.length < deliveryCapacity
  service : s.inService = true

/-- What a restart leaves in state `t` of a station that was in state `s`: every block at the epoch's starting values and
what the RESTART TABLE keeps (R8, R69, R79, R94, R131, R151 to R154). `epoch` is the new epoch, `request` the restart
request of the new epoch. The delivery queue and the command unit's command are stated apart. -/
structure State.Restarted (s t : State) (epoch : Nat) (request : Bool) : Prop where
  station : t.station = { s.station with state := .ready, epoch := epoch, restartRequest := request }
  kept : t.settings = s.settings ∧ t.points = s.points ∧ t.freeCount = s.freeCount ∧ t.pending = s.pending
  feed : t.feed = (if s.feed.intake.isSome then ⟨.ready, some ⟨7, .discarded, some .restarted, none⟩, none⟩ else s.feed)
  undeclared : ∀ n, (s.source n).state = .undeclared → t.source n = s.source n
  sources : ∀ n, (s.source n).state ≠ .undeclared → t.source n = { s.source n with
    state := .opened
    current := (s.source n).firstSegment
    next := none
    expectedSeq := 0
    lastRaw := none
    watermark := (t.source n).watermark
    nextOrdinal := some 0
    counters := SourceCounters.zero
    skew := SkewStats.zero }
  watermarks : ∀ n g b, (s.source n).state ≠ .undeclared → (s.source n).firstSegment = some g →
    (s.source n).startBound = some b → (t.source n).watermark = some (corrected g b)
  elements : ∀ n, t.elementAt n = (s.elementAt n).map fun e => { e with
    current := e.initial, travelStart := none, stuck := false, chatter := .normal, windowStart := none,
    windowCount := 0, suppressed := 0, lastRelease := none }
  lists : t.pendingQueue = [] ∧ t.outgoing = [] ∧ t.remotes = [] ∧ t.timers = []
  engine : t.engine = ⟨none, none, none, .none, false⟩ ∧ t.processing = none
  islands : t.islands.labels = ownLabels ∧ t.islands.uncertainCount = 0 ∧
    t.islands.relabel = some ⟨.restart, .computing⟩
  peers : ∀ n < 16, t.peer n = { s.peer n with
    state := if n ≠ s.station.number ∧ s.settings.expectedMask.getLsbD n = true then .awaited else .notExpected
    horizon := 0, hold := false, senderState := none, expectedSeq := none, silence := none, discarded := 0 }
  horizon : t.horizon.ownAnnounced = none ∧ t.BoundsAgree
  clock : t.clock = { s.clock with
    integer := s.settings.startTime, fraction := 0, causes := { HoldCauses.empty with startPending := true }
    broadcastBreak := false, stepArmed := false, holdAt := none, stallTimer := none, stall := false
    reported := .held }
  transmitter : t.tx = { s.tx with sequence := 0, lastSent := none, state := t.tx.state }
  transmitterState : t.tx.state = (match s.tx.state with
    | .idle => .waiting
    | .waiting => .waiting
    | .sending _ => .waiting
    | .backoff n => .backoff n
    | .muted e => .muted e)
  receiver : t.rx = { s.rx with buffers := [] }
  attention : t.attention.mask = s.attention.mask ∧ t.attention.capture = s.attention.capture ∧
    t.attention.flags = { s.attention.flags with link := t.attention.flags.link }

/-- The state with a command's write ended, its effect not yet taken (R135). -/
def State.written (s : State) : State := { s with console := { s.console with writing := false, inFlight := none } }

/-- The state with a reply record queued (R136). -/
def State.withReply (s : State) (kind : Byte) (reason : Option RefuseReason) (clamped : Bool) : State :=
  { s with delivery := { s.delivery with
      queue := s.delivery.queue ++ [⟨s.station.epoch, .reply ⟨kind, reason, clamped, s.attention.flags⟩⟩] } }

/-- The rows that are the end of a record's write, whatever the record holds (R3). -/
inductive EndsRecordWrite : Instr → Prop where
  | stationSettings (f : RecordForm) (b : SettingsBody) : EndsRecordWrite (.stationSettings f b)
  | declareSource (f : RecordForm) (b : DeclareBody) : EndsRecordWrite (.declareSource f b)
  | element (f : RecordForm) (b : ElementBody) : EndsRecordWrite (.element f b)
  | point (f : RecordForm) (b : PointBody) : EndsRecordWrite (.point f b)
  | commit (f : RecordForm) : EndsRecordWrite (.commit f)
  | segment (f : RecordForm) (b : SegmentBody) : EndsRecordWrite (.segment f b)
  | event (f : RecordForm) (b : EventBody) : EndsRecordWrite (.event f b)
  | progress (f : RecordForm) (b : ProgressBody) : EndsRecordWrite (.progress f b)
  | endSource (f : RecordForm) (n : Byte) : EndsRecordWrite (.endSource f n)
  | malformedFeedRecord (kind : Byte) (received : Nat) : EndsRecordWrite (.malformedFeedRecord kind received)

/-- A record's write is under way at the feed port (R3). -/
structure State.RecordEnds (s : State) : Prop where
  busy : s.feed.port = .busy
  idle : s.feed.intake = none

/-- The state with an answer placed and the port READY (R3, R4). -/
def State.withAnswer (s : State) (kind : Byte) (code : AnswerCode) (reason : Option AnswerReason) (laggard : Option Nat) :
    State :=
  { s with feed := ⟨.ready, some ⟨kind, code, reason, laggard⟩, none⟩ }

end Sys2Proof.Machine
end

