-- ==== Sys2Proof/Certificates/Slice0/Obligations.lean ====
section
/-! DEFINITION. The statements for the provers, in the order of OBLIGATIONS.json. In a statement of the form
`t = { s with a := t.a, … }` every part of the state not listed is unchanged. -/

open Sys2Proof Sys2Proof.Machine

/-! ## The step and reset -/

/-- A step runs the command at the front of the queue on the state with the queue's rest; with no command waiting it
leaves the state (the latter is the model's choice, log entry 1). -/
def Obligations.StepRunsFrontCommand : Prop :=
  (∀ (c : Instr) (rest : List Instr) (s : State),
    Machine.step { s with pending := c :: rest } = exec c { s with pending := rest }) ∧
  ∀ s : State, s.pending = [] → Machine.step s = .next s

/-- R146 and the table of power-on values: every block after POWER_ON_RESET, whatever it held before. The console's ready
signal is the console's own and is kept (log entry 6), as are the queue and the free value counter of the model (log
entry 31). -/
def Obligations.PowerOnResetGivesPowerOnValues : Prop :=
  ∀ (straps : BitVec 4) (s : State), ∃ t, exec (.powerOnReset straps) s = .next t ∧
    t.station = ⟨straps.toNat, .unconfigured, 0, 0, false⟩ ∧ t.settings = Settings.default ∧
    t.feed = ⟨.ready, none, none⟩ ∧ (∀ n, t.source n = Source.powerOn) ∧
    t.points = [] ∧ (∀ n, t.elementAt n = none) ∧
    t.pendingQueue = [] ∧ t.outgoing = [] ∧ t.remotes = [] ∧ t.timers = [] ∧
    t.engine = ⟨none, none, none, .none, false⟩ ∧ t.islands = ⟨ownLabels, 0, 0, none⟩ ∧
    (∀ n, t.peer n = Peer.powerOn) ∧ t.processing = none ∧ t.horizon = ⟨0, none, 0, .none⟩ ∧
    t.clock = {
      integer := 0, fraction := 0, rate := 65536, causes := HoldCauses.empty, broadcastBreak := false
      stepArmed := false, holdAt := none, skipEnable := false, stallTimer := none, stall := false
      reported := .running } ∧
    t.tx = ⟨.idle, 0, 0, none, none⟩ ∧ t.rx = ⟨.searching, [], 0, 0, 0, 0⟩ ∧
    t.delivery = ⟨[], none, s.delivery.ready⟩ ∧ t.console = ⟨false, none, none⟩ ∧
    t.attention = ⟨AttentionFlags.clear, AttentionFlags.clear, false, ⟨none, 0, none⟩⟩ ∧
    t.freeCount = s.freeCount ∧ t.pending = s.pending

/-- The machine right after reset meets every invariant. -/
def Obligations.ResetMeetsInvariants : Prop :=
  State.reset.ListsSorted ∧ State.reset.OrdinalsFresh ∧ State.reset.WithinCapacity ∧ State.reset.TimesInRange ∧
  State.reset.BoundsAgree ∧ State.reset.PeerHoldAgrees ∧ State.reset.LinkAgrees ∧ State.reset.SilentBeforeCommit ∧
  State.reset.StartPendingAgrees ∧ State.reset.HeldAgree ∧ State.reset.SilenceAgrees ∧ State.reset.OwnEntryUnused ∧
  State.reset.StallTimerAgrees ∧ State.reset.IdleAgrees ∧ State.reset.HorizonLaw ∧ State.reset.CountersAgree ∧
  State.reset.ReleasePointLaw ∧ State.reset.LabelsAgree

/-! ## Invariants that every step keeps -/

/-- The lists stay in increasing key order without a key twice (R38, R39, R86, R119), since ordinals are used once
(R16). -/
def Obligations.ListsStaySorted : Prop :=
  ∀ s t : State, s.ListsSorted → s.OrdinalsFresh → Machine.step s = .next t → t.ListsSorted ∧ t.OrdinalsFresh

/-- No buffer ever holds more than its capacity (R38, R78, R86, R119, R134). -/
def Obligations.CapacitiesHold : Prop :=
  ∀ s t : State, s.WithinCapacity → Machine.step s = .next t → t.WithinCapacity

/-- Every corrected time held by an item or carried in a change entry stays within 0 .. 2^40 - 2, wherever it is held, and
the clock's fields stay in range (R33, R94, R95). -/
def Obligations.TimesStayInRange : Prop :=
  ∀ s t : State, s.TimesInRange → Machine.step s = .next t → t.TimesInRange

/-- LW, the safe time and the limiting cause always are what the watermarks and peer entries give (R75, R90, R91). -/
def Obligations.BoundsStayAgreed : Prop :=
  ∀ s t : State, s.BoundsAgree → Machine.step s = .next t → t.BoundsAgree

/-- The PEER cause and the LINK condition always are what the peer entries and the transmitter give (R104, R137). Before
commit the transmitter is IDLE or under a mute with no expiry (R68); in READY the set holds START_PENDING (R95); the stall
timer runs exactly while the stall condition holds and STALL is absent (R107; log entry 36); and an IDLE transmitter in
service has no frame wanted by one of the conditions 1 to 6 of R60. -/
def Obligations.ConditionsStayAgreed : Prop :=
  ∀ s t : State, s.PeerHoldAgrees → s.LinkAgrees → s.SilentBeforeCommit → s.StartPendingAgrees → s.StallTimerAgrees →
    s.IdleAgrees → Machine.step s = .next t →
    t.PeerHoldAgrees ∧ t.LinkAgrees ∧ t.SilentBeforeCommit ∧ t.StartPendingAgrees ∧ t.StallTimerAgrees ∧ t.IdleAgrees

/-- Copies stay held exactly while the frame that carries them is on the line, as the frame carries them (R41, R62). -/
def Obligations.HeldCopiesMatchTheFrame : Prop :=
  ∀ s t : State, s.HeldAgree → s.SilentBeforeCommit → Machine.step s = .next t → t.HeldAgree

/-- The silence timer runs for ACTIVE peers alone (R89), and the own peer entry stays NOT_EXPECTED (R146). -/
def Obligations.PeerEntriesStayAgreed : Prop :=
  ∀ s t : State, s.SilenceAgrees → s.OwnEntryUnused → Machine.step s = .next t →
    t.SilenceAgrees ∧ t.OwnEntryUnused

/-- What the horizon law rests on is kept, and so the horizon announced by a frame sent whole is never below the one
announced before it in the epoch (R77). -/
def Obligations.AnnouncedHorizonsNeverDecrease : Prop :=
  ∀ s t : State, s.HorizonLaw → s.BoundsAgree → s.ListsSorted → s.OrdinalsFresh → Machine.step s = .next t →
    t.HorizonLaw ∧ ∀ h h', s.horizon.ownAnnounced = some h → t.horizon.ownAnnounced = some h' → h ≤ h'

/-- The release point stays below every key in the Pending Queue and its time below LW (R44); no remote change and no
timer waits below it, though one may wait at it: a change announced again as not CARRIED with the very key of the release
point is inserted, as R85 and R86 give, and leaves the release point as it was when it is released. But for that, released
keys strictly increase: a release point that gives way to another within the epoch is below it (R110). -/
def Obligations.ReleasePointStaysBelow : Prop :=
  ∀ s t : State, s.ReleasePointLaw → s.HorizonLaw → s.BoundsAgree → s.ListsSorted → s.OrdinalsFresh →
    Machine.step s = .next t → t.ReleasePointLaw ∧
      ∀ k k', s.engine.releasePoint = some k → t.engine.releasePoint = some k' → k' ≠ k → k.lt k' = true

/-- TAKEN stays the sum of MERGED, PENDING and RELEASED for every source, counting the record in intake (R12). -/
def Obligations.CountersStayAgreed : Prop :=
  ∀ s t : State, s.CountersAgree → s.ListsSorted → s.OrdinalsFresh → Machine.step s = .next t → t.CountersAgree

/-- Within one epoch the clock's integer part and the watermarks of the sources never decrease (R30, R95). -/
def Obligations.ClockAndWatermarksNeverDecrease : Prop :=
  ∀ s t : State, s.TimesInRange → Machine.step s = .next t →
    s.inService = true → t.inService = true → t.station.epoch = s.station.epoch →
    s.clock.integer ≤ t.clock.integer ∧
    ∀ n w, (s.source n).watermark = some w → w ≤ endTime → ∃ w', (t.source n).watermark = some w' ∧ w ≤ w'

/-- From commit on, whenever no relabel is in flight, the labels and counts are those of the present positions (R128). -/
def Obligations.LabelsStayAgreed : Prop :=
  ∀ s t : State, s.LabelsAgree → Machine.step s = .next t → t.LabelsAgree

/-- Over every step taken in REPLAYING with no command waiting: the LAG cause follows the LAG table of R106 and its flag is
set when the cause is added (R137; that a change of any field of the least head is a change of it is log entry 35); STALL
ends exactly when the safe time rises, begins only from a timer of 100 ms and sets its flag; the timer starts from 0, starts
again from 0 where the safe time changed, and otherwise counts on (R107; that it stays stopped while STALL is present is log
entry 36). A command that waits has its own act: `CommandsWaitAndAreTested`. -/
def Obligations.LagAndStallFollowTheirInputs : Prop :=
  ∀ s t : State, s.BoundsAgree → s.station.state = .replaying → s.console.inFlight = none → Machine.step s = .next t →
    t.inService = true → t.station.epoch = s.station.epoch →
    s.LagFollows t ∧
    (t.clock.causes.lag = true → s.clock.causes.lag = false → t.attention.flags.lag = true) ∧
    (s.clock.stall = true → (t.clock.stall = true ↔ t.horizon.safeTime ≤ s.horizon.safeTime)) ∧
    (s.clock.stall = false → t.clock.stall = true →
      (∃ k, s.clock.stallTimer = some k ∧ 100000 ≤ k) ∧ t.attention.flags.stall = true) ∧
    ∀ k, t.clock.stallTimer = some k →
      (s.clock.stallTimer = none ∨ t.horizon.safeTime ≠ s.horizon.safeTime → k = 0) ∧
      ∀ k₀, s.clock.stallTimer = some k₀ → t.horizon.safeTime = s.horizon.safeTime →
        k = k₀ ∨ k = min (k₀ + 1) 100000

/-- Over every step taken in REPLAYING with no command waiting: where the five conditions of R124 come to hold, the station is
COMPLETE with the COMPLETE flag set and a COMPLETE record owed; otherwise it stays in REPLAYING and no such flag or record
arises. Where they held before the step none of them changed, and R124 asks for no test (log entry 24). -/
def Obligations.CompletionFollowsItsConditions : Prop :=
  ∀ s t : State, s.BoundsAgree → s.station.state = .replaying → s.console.inFlight = none → Machine.step s = .next t →
    t.inService = true → t.station.epoch = s.station.epoch →
    (s.ComesToEnd t →
      t.station.state = .complete ∧ t.attention.flags.complete = true ∧ t.engine.completeOwed = true) ∧
    (¬ s.ComesToEnd t → t.station.state = .replaying ∧
      (t.attention.flags.complete = true → s.attention.flags.complete = true) ∧
      (t.engine.completeOwed = true → s.engine.completeOwed = true))

/-! ## Formats -/

/-- A frame as it is driven: 16 alternating symbols starting with a one, the start delimiter (its byte stands for the
symbols, the first sent as its most significant bit, log entry 4), then header, entries and CRC, 128 + 104 n symbols in
all (R57); the receiver reads back every frame that fits its fields (R58, R71, R156). The 16 bytes of an EVENT record are
read back as the record they lay out (EVENT RECORD BODY TABLE). -/
def Obligations.FramesAndEventsAreReadBack : Prop :=
  (∀ f : Frame, f.Fits → receive f.bits = .good f ∧
    f.symbols = [true, false, true, false, true, false, true, false, true, false, true, false, true, false, true, false] ++
      bitsOf 8 Config.startDelimiter.toNat ++ f.bits ∧
    f.symbols.length = 128 + 104 * f.changes.length) ∧
  ∀ b : EventBody, eventOfBytes (kindEvent :: 14 :: eventBodyBytes b) = some (.event ⟨14, 16⟩ b)

/-! ## Arithmetic and labels -/

/-- The correction step by step: the difference with its clamp (R26), the product, its quotient by 10^9 to the nearest integer
with one half rounded away from zero (R27), the sum and its clamp to 0 .. 2^40 - 2 (R28). Under one segment in range the
corrected time does not decrease as the raw time rises (file 02, monotonicity of the correction). -/
def Obligations.CorrectionFollowsItsSteps : Prop :=
  (∀ (g : Segment) (raw : Nat),
    let d : Int := (raw : Int) - g.anchor
    let limit : Int := 1099511627775
    let product := difference g raw * g.drift
    (-limit ≤ d → d ≤ limit → difference g raw = d) ∧
    (limit < d → difference g raw = limit) ∧
    (d < -limit → difference g raw = -limit) ∧
    (g.inRange = true → product.natAbs ≤ 549755813887500000 ∧ (roundedQuotient product).natAbs ≤ 549755814) ∧
    correctionSum g raw = raw + g.offset + roundedQuotient product ∧
    (correctionSum g raw < 0 → corrected g raw = 0) ∧
    (0 ≤ correctionSum g raw → correctionSum g raw ≤ 1099511627774 → (corrected g raw : Int) = correctionSum g raw) ∧
    (1099511627774 < correctionSum g raw → corrected g raw = 1099511627774)) ∧
  (∀ p : Int,
    let far := (p - roundedQuotient p * 1000000000).natAbs
    2 * far ≤ 1000000000 ∧ (2 * far = 1000000000 → p.natAbs < (roundedQuotient p * 1000000000).natAbs)) ∧
  ∀ (g : Segment) (r r' : Nat), g.inRange = true → r ≤ r' → corrected g r ≤ corrected g r'

/-- A node's label is the least number of the nodes of its island (R125). -/
def Obligations.LabelsNameIslands : Prop :=
  ∀ joins : List (Nat × Nat), (∀ j ∈ joins, j.1 < 128 ∧ j.2 < 128) → ∀ n < 128,
    SameIsland joins n (labelAt (labelsOf joins) n) ∧
      ∀ m < 128, SameIsland joins n m → labelAt (labelsOf joins) n ≤ m

/-! ## Feed records -/

/-- The start of a record's write: READY goes BUSY; while BUSY it is ignored with FEED_PROTO (R3). The start of a
command's write is ignored with CONSOLE_PROTO while a command is in flight (R135). The end of an ignored write changes
nothing, so that what is in flight and its answer are unaffected: a record's where the port is READY or a record stands in
intake, a command's where no command's write is under way (log entry 16). -/
def Obligations.WritesStartOrAreIgnored : Prop :=
  (∀ s : State, s.feed.port = .ready →
    exec .feedWriteStart s = .next { s with feed := { s.feed with port := .busy } }) ∧
  (∀ s : State, s.feed.port = .busy → ∃ t, exec .feedWriteStart s = .next t ∧ s.Reported t .feedProto none) ∧
  (∀ s : State, s.console.inFlight = none →
    exec .commandWriteStart s = .next { s with console := { s.console with writing := true } }) ∧
  (∀ s : State, s.console.inFlight.isSome = true → ∃ t, exec .commandWriteStart s = .next t ∧
    s.Reported t .consoleProto none) ∧
  (∀ (s : State) (c : Instr), EndsRecordWrite c → (s.feed.port = .ready ∨ s.feed.intake.isSome = true) →
    exec c s = .next s) ∧
  ∀ (s : State) (c : Command), s.console.writing = false → exec (commandRow c) s = .next s

/-- The screening of the settings and description records and of COMMIT: form, then station state, then range; a refused
record changes nothing but the answer (R5, R147, R148, R155). The ownership codes 0, 1, 2 stand for LOCAL, LOCAL_TIE and
MIRROR by the model's reading, since no table of the spec gives them (log entry 7). -/
def Obligations.DescriptionRecordsAreScreened : Prop :=
  ∀ s : State, s.RecordEnds →
  (∀ (f : RecordForm) (b : SettingsBody),
    (¬ (f.lengthByte = 20 ∧ f.received = 22 ∧ b.follow.toNat ≤ 1) →
      exec (.stationSettings f b) s = .next (s.withAnswer 1 .refused (some .malformed) none)) ∧
    (f.lengthByte = 20 → f.received = 22 → b.follow.toNat ≤ 1 →
      s.station.state ≠ .unconfigured → s.station.state ≠ .loading →
      exec (.stationSettings f b) s = .next (s.withAnswer 1 .refused (some .wrongState) none)) ∧
    (f.lengthByte = 20 → f.received = 22 → b.follow.toNat ≤ 1 → s.beforeCommit = true →
      ¬ (b.startTime.toNat ≤ maxTime ∧ 1 ≤ b.lagLimit.toNat ∧ 1 ≤ b.skipThreshold.toNat ∧ 1 ≤ b.chatterW.toNat ∧
        2 ≤ b.chatterN.toNat ∧ 1 ≤ b.chatterQ.toNat) →
      exec (.stationSettings f b) s = .next (s.withAnswer 1 .refused (some .outOfRange) none))) ∧
  (∀ (f : RecordForm) (b : DeclareBody),
    (¬ (f.lengthByte = 26 ∧ f.received = 28) →
      exec (.declareSource f b) s = .next (s.withAnswer 2 .refused (some .malformed) none)) ∧
    (f.lengthByte = 26 → f.received = 28 → s.beforeCommit = false →
      exec (.declareSource f b) s = .next (s.withAnswer 2 .refused (some .wrongState) none)) ∧
    (f.lengthByte = 26 → f.received = 28 → s.beforeCommit = true →
      ¬ (b.source.toNat ≤ 31 ∧ b.quality.toNat ≤ 3 ∧ b.window.toNat ≤ 1000000 ∧
        -500000 ≤ b.segment.drift.toInt ∧ b.segment.drift.toInt ≤ 500000) →
      exec (.declareSource f b) s = .next (s.withAnswer 2 .refused (some .outOfRange) none))) ∧
  (∀ (f : RecordForm) (b : ElementBody),
    (¬ (f.lengthByte = 12 ∧ f.received = 14 ∧ b.nodesPresent.toNat ≤ 1 ∧ b.ownership.toNat ≤ 2 ∧
        b.initial.toNat ≤ 4 ∧ b.chatter.toNat ≤ 1) →
      exec (.element f b) s = .next (s.withAnswer 3 .refused (some .malformed) none)) ∧
    (f.lengthByte = 12 → f.received = 14 → b.nodesPresent.toNat ≤ 1 → b.ownership.toNat ≤ 2 → b.initial.toNat ≤ 4 →
      b.chatter.toNat ≤ 1 → s.beforeCommit = false →
      exec (.element f b) s = .next (s.withAnswer 3 .refused (some .wrongState) none)) ∧
    (f.lengthByte = 12 → f.received = 14 → b.nodesPresent.toNat ≤ 1 → b.ownership.toNat ≤ 2 → b.initial.toNat ≤ 4 →
      b.chatter.toNat ≤ 1 → s.beforeCommit = true →
      (127 < b.nodeA.toNat ∨ 127 < b.nodeB.toNat ∨ 1023 < b.tie.toNat ∨ 15 < b.owner.toNat ∨
        (b.ownership.toNat = 0 ∧ b.tie.toNat ≠ 0) ∨ (b.ownership.toNat ≠ 2 ∧ b.owner.toNat ≠ 0) ∨
        (b.nodesPresent.toNat = 0 ∧ (b.nodeA.toNat ≠ 0 ∨ b.nodeB.toNat ≠ 0)) ∨
        (b.ownership.toNat = 2 ∧ (b.travelLimit.toNat ≠ 0 ∨ b.chatter.toNat = 1))) →
      exec (.element f b) s = .next (s.withAnswer 3 .refused (some .outOfRange) none))) ∧
  (∀ (f : RecordForm) (b : PointBody),
    (¬ (f.lengthByte = 5 ∧ f.received = 7 ∧ b.invert.toNat ≤ 1) →
      exec (.point f b) s = .next (s.withAnswer 4 .refused (some .malformed) none)) ∧
    (f.lengthByte = 5 → f.received = 7 → b.invert.toNat ≤ 1 → s.beforeCommit = false →
      exec (.point f b) s = .next (s.withAnswer 4 .refused (some .wrongState) none)) ∧
    (f.lengthByte = 5 → f.received = 7 → b.invert.toNat ≤ 1 → s.beforeCommit = true → 31 < b.source.toNat →
      exec (.point f b) s = .next (s.withAnswer 4 .refused (some .outOfRange) none))) ∧
  ∀ f : RecordForm,
    (¬ (f.lengthByte = 0 ∧ f.received = 2) →
      exec (.commit f) s = .next (s.withAnswer 5 .refused (some .malformed) none)) ∧
    (f.lengthByte = 0 → f.received = 2 → s.station.state ≠ .loading →
      exec (.commit f) s = .next (s.withAnswer 5 .refused (some .wrongState) none))

/-- The screening of SEGMENT, EVENT, PROGRESS and END_SOURCE (R5, R22, R155). A record whose kind code is none of the nine,
or of which no byte was received, is REFUSED with MALFORMED, the kind echoed; where no byte was received the echo is a
free value (R155; log entry 5). -/
def Obligations.SourceRecordsAreScreened : Prop :=
  ∀ s : State, s.RecordEnds →
  (∀ (f : RecordForm) (b : SegmentBody),
    (¬ (f.lengthByte = 16 ∧ f.received = 18) →
      exec (.segment f b) s = .next (s.withAnswer 6 .refused (some .malformed) none)) ∧
    (f.lengthByte = 16 → f.received = 18 → s.station.state ≠ .ready → s.station.state ≠ .replaying →
      exec (.segment f b) s = .next (s.withAnswer 6 .refused (some .wrongState) none)) ∧
    (f.lengthByte = 16 → f.received = 18 → (s.station.state = .ready ∨ s.station.state = .replaying) →
      (31 < b.source.toNat ∨ b.segment.drift.toInt < -500000 ∨ 500000 < b.segment.drift.toInt) →
      exec (.segment f b) s = .next (s.withAnswer 6 .refused (some .outOfRange) none))) ∧
  (∀ (f : RecordForm) (b : EventBody),
    (¬ (f.lengthByte = 14 ∧ f.received = 16 ∧ b.position.toNat ≤ 3) →
      exec (.event f b) s = .next (s.withAnswer 7 .refused (some .malformed) none)) ∧
    (f.lengthByte = 14 → f.received = 16 → b.position.toNat ≤ 3 →
      s.station.state ≠ .ready → s.station.state ≠ .replaying →
      exec (.event f b) s = .next (s.withAnswer 7 .refused (some .wrongState) none)) ∧
    (f.lengthByte = 14 → f.received = 16 → b.position.toNat ≤ 3 →
      (s.station.state = .ready ∨ s.station.state = .replaying) → (31 < b.source.toNat ∨ 3 < b.quality.toNat) →
      exec (.event f b) s = .next (s.withAnswer 7 .refused (some .outOfRange) none))) ∧
  (∀ (f : RecordForm) (b : ProgressBody),
    (¬ (f.lengthByte = 7 ∧ f.received = 9) →
      exec (.progress f b) s = .next (s.withAnswer 8 .refused (some .malformed) none)) ∧
    (f.lengthByte = 7 → f.received = 9 → s.station.state ≠ .ready → s.station.state ≠ .replaying →
      exec (.progress f b) s = .next (s.withAnswer 8 .refused (some .wrongState) none)) ∧
    (f.lengthByte = 7 → f.received = 9 → (s.station.state = .ready ∨ s.station.state = .replaying) →
      31 < b.source.toNat →
      exec (.progress f b) s = .next (s.withAnswer 8 .refused (some .outOfRange) none))) ∧
  (∀ (kind : Byte) (received : Nat),
    (received ≠ 0 → exec (.malformedFeedRecord kind received) s =
      .next (s.withAnswer kind .refused (some .malformed) none)) ∧
    (received = 0 → ∃ echo : Byte, exec (.malformedFeedRecord kind received) s =
      .next { s.withAnswer echo .refused (some .malformed) none with freeCount := s.freeCount + 1 })) ∧
  ∀ (f : RecordForm) (n : Byte),
    (¬ (f.lengthByte = 1 ∧ f.received = 3) →
      exec (.endSource f n) s = .next (s.withAnswer 9 .refused (some .malformed) none)) ∧
    (f.lengthByte = 1 → f.received = 3 → s.inService = false →
      exec (.endSource f n) s = .next (s.withAnswer 9 .refused (some .wrongState) none)) ∧
    (f.lengthByte = 1 → f.received = 3 → s.inService = true → 31 < n.toNat →
      exec (.endSource f n) s = .next (s.withAnswer 9 .refused (some .outOfRange) none))

/-- STATION_SETTINGS, ELEMENT, DECLARE_SOURCE and POINT taken before commit, and their refusals (R10, R13, R147, R148). That
the ownership codes 0, 1, 2 stand for LOCAL, LOCAL_TIE and MIRROR, and that bits 0 to 5 of the initial mask are the flags
in their order and bits 6 and 7 are not looked at, is the model's reading (log entries 7 and 27). -/
def Obligations.DescriptionRecordsAreTaken : Prop :=
  ∀ s : State, s.RecordEnds → s.beforeCommit = true →
  (∀ b : SettingsBody, b.follow.toNat ≤ 1 → b.startTime.toNat ≤ maxTime → 1 ≤ b.lagLimit.toNat →
    1 ≤ b.skipThreshold.toNat → 1 ≤ b.chatterW.toNat → 2 ≤ b.chatterN.toNat → 1 ≤ b.chatterQ.toNat →
    exec (.stationSettings ⟨20, 22⟩ b) s = .next { s.withAnswer 1 .taken none none with
      station := { s.station with state := .loading }
      settings := {
        expectedMask := b.expectedMask
        startTime := b.startTime.toNat
        lagLimit := b.lagLimit.toNat
        skipThreshold := b.skipThreshold.toNat
        skipLead := b.skipLead.toNat
        chatterW := b.chatterW.toNat
        chatterN := b.chatterN.toNat
        chatterQ := b.chatterQ.toNat
        follow := b.follow.toNat == 1
        initialMask := ⟨b.initialMask.getLsbD 0, b.initialMask.getLsbD 1, b.initialMask.getLsbD 2,
          b.initialMask.getLsbD 3, b.initialMask.getLsbD 4, b.initialMask.getLsbD 5⟩ } }) ∧
  (∀ b : ElementBody, elementNamed b = true → elementInRange b = true →
    (s.elementAt b.number.toNat = none → ∃ t e,
      exec (.element ⟨12, 14⟩ b) s = .next t ∧
      t = { s.withAnswer 3 .taken none none with
        station := { s.station with state := .loading }, elements := t.elements } ∧
      t.elementAt b.number.toNat = some e ∧ (∀ n, n ≠ b.number.toNat → t.elementAt n = s.elementAt n) ∧
      e.nodes = (if b.nodesPresent.toNat = 1 then some (b.nodeA.toNat, b.nodeB.toNat) else none) ∧
      (b.ownership.toNat = 0 → e.ownership = .localOnly) ∧
      (b.ownership.toNat = 1 → e.ownership = .localTie b.tie.toNat) ∧
      (b.ownership.toNat = 2 → e.ownership = .mirror b.tie.toNat b.owner.toNat) ∧
      some e.initial = Position.ofCode b.initial.toNat ∧ e.current = e.initial ∧
      e.travelLimit = b.travelLimit.toNat ∧ e.chatterEnable = (b.chatter.toNat == 1) ∧
      e.travelStart = none ∧ e.stuck = false ∧ e.chatter = .normal ∧ e.windowStart = none ∧ e.windowCount = 0 ∧
      e.suppressed = 0 ∧ e.lastRelease = none ∧ e.watch = .none) ∧
    ((s.elementAt b.number.toNat).isSome = true →
      exec (.element ⟨12, 14⟩ b) s = .next (s.withAnswer 3 .refused (some .conflict) none))) ∧
  (∀ b : DeclareBody, b.source.toNat ≤ 31 → b.quality.toNat ≤ 3 → b.window.toNat ≤ 1000000 →
    -500000 ≤ b.segment.drift.toInt → b.segment.drift.toInt ≤ 500000 →
    ((s.source b.source.toNat).state ≠ .declared → ∃ t,
      exec (.declareSource ⟨26, 28⟩ b) s = .next t ∧
      t = { s.withAnswer 2 .taken none none with
        station := { s.station with state := .loading }, sources := t.sources } ∧
      t.source b.source.toNat = { s.source b.source.toNat with
        state := .declared
        startBound := some b.startBound.toNat
        quality := some b.quality.toNat
        window := some b.window.toNat
        firstSegment := some ⟨b.segment.anchor.toNat, b.segment.offset.toInt, b.segment.drift.toInt⟩ } ∧
      ∀ n, n ≠ b.source.toNat → t.source n = s.source n) ∧
    ((s.source b.source.toNat).state = .declared →
      exec (.declareSource ⟨26, 28⟩ b) s = .next (s.withAnswer 2 .refused (some .conflict) none))) ∧
  (∀ b : PointBody, b.source.toNat ≤ 31 → b.invert.toNat ≤ 1 →
    ((s.source b.source.toNat).state = .declared →
      (∀ p ∈ s.points, ¬ (p.source = b.source.toNat ∧ p.point = b.point.toNat)) →
      (s.points.length < 2048 →
        exec (.point ⟨5, 7⟩ b) s = .next { s.withAnswer 4 .taken none none with
          station := { s.station with state := .loading }
          points := s.points ++ [⟨b.source.toNat, b.point.toNat, b.element.toNat, b.invert.toNat == 1⟩] }) ∧
      (2048 ≤ s.points.length →
        exec (.point ⟨5, 7⟩ b) s = .next (s.withAnswer 4 .refused (some .outOfRange) none))) ∧
    ((s.source b.source.toNat).state ≠ .declared ∨
        (∃ p ∈ s.points, p.source = b.source.toNat ∧ p.point = b.point.toNat) →
      exec (.point ⟨5, 7⟩ b) s = .next (s.withAnswer 4 .refused (some .conflict) none)))

/-- COMMIT is accepted in LOADING alone; its five checks: the first that fails gives the reason, and nothing else changes;
where every check holds it is TAKEN and the station is READY (R149). In the last case no command waits, so none is
decided in the act. Check 5 takes bit n of the expected peer mask as station n (log entry 9). -/
def Obligations.CommitChecksInOrder : Prop :=
  ∀ s : State, s.RecordEnds →
    (s.station.state ≠ .loading →
      exec (.commit ⟨0, 2⟩) s = .next (s.withAnswer 5 .refused (some .wrongState) none)) ∧
    (s.station.state = .loading → ¬ (s.someDeclared ∧ s.pointsResolve ∧ s.nodesDistinct ∧ s.tiesUnique) →
      exec (.commit ⟨0, 2⟩) s = .next (s.withAnswer 5 .refused (some .conflict) none)) ∧
    (s.station.state = .loading → s.someDeclared → s.pointsResolve → s.nodesDistinct → s.tiesUnique →
      ¬ s.ownersExpected →
      exec (.commit ⟨0, 2⟩) s = .next (s.withAnswer 5 .refused (some .outOfRange) none)) ∧
    (s.station.state = .loading → s.someDeclared → s.pointsResolve → s.nodesDistinct → s.tiesUnique →
      s.ownersExpected → s.console.inFlight = none → ∃ t, exec (.commit ⟨0, 2⟩) s = .next t ∧
        t.feed = ⟨.ready, some ⟨5, .taken, none, none⟩, none⟩ ∧ t.station.state = .ready)

/-- A COMMIT whose checks hold: READY, every block at the epoch's starting values, TAKEN (R150; R8, R32, R79, R94, R131).
No command waits here, so none is decided in the act (one that waits: `CommandsWaitAndAreTested`). Which peers are AWAITED
takes bit n of the expected peer mask as station n (log entry 9). -/
def Obligations.CommitStartsTheEpoch : Prop :=
  ∀ s : State, s.RecordEnds → s.station.state = .loading → s.someDeclared → s.pointsResolve → s.nodesDistinct →
    s.tiesUnique → s.ownersExpected → s.console.inFlight = none →
    ∃ t, exec (.commit ⟨0, 2⟩) s = .next t ∧
      t.feed = ⟨.ready, some ⟨5, .taken, none, none⟩, none⟩ ∧
      t.station = { s.station with state := .ready } ∧ t.settings = s.settings ∧ t.points = s.points ∧
      (∀ n, (s.source n).state = .undeclared → t.source n = s.source n) ∧
      (∀ n, (s.source n).state = .declared → t.source n = { s.source n with
        state := .opened
        current := (s.source n).firstSegment
        next := none
        expectedSeq := 0
        lastRaw := none
        watermark := (t.source n).watermark
        nextOrdinal := some 0
        counters := SourceCounters.zero
        skew := SkewStats.zero }) ∧
      (∀ n g b, (s.source n).state = .declared → (s.source n).firstSegment = some g →
        (s.source n).startBound = some b → (t.source n).watermark = some (corrected g b)) ∧
      (∀ n e, s.elementAt n = some e → t.elementAt n = some { e with
        current := e.initial, travelStart := none, stuck := false, chatter := .normal, windowStart := none,
        windowCount := 0, suppressed := 0, lastRelease := none, watch := .none }) ∧
      (∀ n, s.elementAt n = none → t.elementAt n = none) ∧
      t.pendingQueue = [] ∧ t.outgoing = [] ∧ t.remotes = [] ∧ t.timers = [] ∧
      t.engine = ⟨none, none, none, .none, false⟩ ∧ t.processing = none ∧
      (∀ n < 16, t.peer n = { s.peer n with
        state := if n ≠ s.station.number ∧ s.settings.expectedMask.getLsbD n = true then .awaited else .notExpected
        horizon := 0, hold := false, senderState := none, expectedSeq := none, silence := none, discarded := 0 }) ∧
      t.horizon.ownAnnounced = none ∧ t.BoundsAgree ∧
      t.clock = { s.clock with
        integer := s.settings.startTime, fraction := 0, causes := { HoldCauses.empty with startPending := true }
        broadcastBreak := false, stepArmed := false, holdAt := none, stallTimer := none, stall := false
        reported := .held } ∧
      t.islands.labels = ownLabels ∧ t.islands.uncertainCount = 0 ∧ t.islands.relabel = some ⟨.commit, .computing⟩ ∧
      t.tx = { s.tx with sequence := 0, state := t.tx.state } ∧ t.rx = s.rx ∧ t.pending = s.pending ∧
      (s.tx.state = .idle → s.tx.lastSent = none → t.tx.state = .waiting) ∧
      t.delivery = { s.delivery with queue := [] } ∧ t.console = s.console ∧
      t.attention.mask = s.settings.initialMask ∧ t.attention.capture = s.attention.capture ∧
      t.attention.flags = { s.attention.flags with link := t.attention.flags.link }

/-- The source-state check (R11): the answers for a source UNDECLARED or ENDED, END_SOURCE in COMPLETE too (R5), and for an
EVENT whose source has used up its intake ordinals; they change nothing else. -/
def Obligations.SourceStatesAreChecked : Prop :=
  ∀ s : State, s.RecordEnds →
  (s.inService = true → ∀ n : Byte, n.toNat ≤ 31 →
    ((s.source n.toNat).state = .undeclared →
      exec (.endSource ⟨1, 3⟩ n) s = .next (s.withAnswer 9 .discarded (some .undeclared) none)) ∧
    ((s.source n.toNat).state = .ended →
      exec (.endSource ⟨1, 3⟩ n) s = .next (s.withAnswer 9 .taken none none))) ∧
  ((s.station.state = .ready ∨ s.station.state = .replaying) →
  (∀ b : EventBody, b.position.toNat ≤ 3 → b.quality.toNat ≤ 3 → b.source.toNat ≤ 31 →
    ((s.source b.source.toNat).state = .undeclared →
      exec (.event ⟨14, 16⟩ b) s = .next (s.withAnswer 7 .discarded (some .undeclared) none)) ∧
    ((s.source b.source.toNat).state = .ended →
      exec (.event ⟨14, 16⟩ b) s = .next (s.withAnswer 7 .discarded (some .sourceEnded) none)) ∧
    ((s.source b.source.toNat).isOpen = true → (s.source b.source.toNat).nextOrdinal = none →
      exec (.event ⟨14, 16⟩ b) s = .next (s.withAnswer 7 .refused (some .outOfRange) none))) ∧
  (∀ b : ProgressBody, b.source.toNat ≤ 31 →
    ((s.source b.source.toNat).state = .undeclared →
      exec (.progress ⟨7, 9⟩ b) s = .next (s.withAnswer 8 .discarded (some .undeclared) none)) ∧
    ((s.source b.source.toNat).state = .ended →
      exec (.progress ⟨7, 9⟩ b) s = .next (s.withAnswer 8 .taken none none))) ∧
  ∀ b : SegmentBody, b.source.toNat ≤ 31 → -500000 ≤ b.segment.drift.toInt → b.segment.drift.toInt ≤ 500000 →
    ((s.source b.source.toNat).state = .undeclared →
      exec (.segment ⟨16, 18⟩ b) s = .next (s.withAnswer 6 .discarded (some .undeclared) none)) ∧
    ((s.source b.source.toNat).state = .ended →
      exec (.segment ⟨16, 18⟩ b) s = .next (s.withAnswer 6 .discarded (some .sourceEnded) none)))

/-- The source-state check and the staleness test of a SEGMENT and what a taken one writes (R24). -/
def Obligations.SegmentIsTakenOrStale : Prop :=
  ∀ (s : State) (b : SegmentBody), s.RecordEnds → (s.station.state = .ready ∨ s.station.state = .replaying) →
    b.source.toNat ≤ 31 → -500000 ≤ b.segment.drift.toInt → b.segment.drift.toInt ≤ 500000 →
    ((s.source b.source.toNat).state = .undeclared →
      exec (.segment ⟨16, 18⟩ b) s = .next (s.withAnswer 6 .discarded (some .undeclared) none)) ∧
    ((s.source b.source.toNat).state = .ended →
      exec (.segment ⟨16, 18⟩ b) s = .next (s.withAnswer 6 .discarded (some .sourceEnded) none)) ∧
    ∀ reference : Nat,
      ((s.source b.source.toNat).state = .live ∧ (s.source b.source.toNat).lastRaw = some reference ∨
        (s.source b.source.toNat).state = .opened ∧ (s.source b.source.toNat).startBound = some reference) →
    (b.segment.anchor.toNat ≤ reference →
      exec (.segment ⟨16, 18⟩ b) s = .next (s.withAnswer 6 .refused (some .staleSegment) none)) ∧
    (reference < b.segment.anchor.toNat → ∃ t, exec (.segment ⟨16, 18⟩ b) s = .next t ∧
      t = { s.withAnswer 6 .taken none none with sources := t.sources } ∧
      t.source b.source.toNat = { s.source b.source.toNat with
        next := some ⟨b.segment.anchor.toNat, b.segment.offset.toInt, b.segment.drift.toInt⟩ } ∧
      ∀ n, n ≠ b.source.toNat → t.source n = s.source n)

/-- Intake steps 5 to 7 of an EVENT that passes admission: promotion, correction, watermark, sequence, ordinal and TAKEN;
CLAMPED, REORDERED and GAP are reported in that order with the source number; the record stands in intake and the lists
are untouched until the merge act (R7, R14, R15, R16, R21, R25, R28, R29, R30). It is admitted where more than 256 entries
are free, or one is and its source is a laggard, and its element is not LOCAL_TIE with 64 copies waiting (R19, R20). The
record notes the tie number of a LOCAL_TIE element, and no other, for the copy and BOUNDARY of the merge act (R37, R40; log
entry 30). -/
def Obligations.EventIsAdmitted : Prop :=
  ∀ (s : State) (b : EventBody) (p : PointEntry) (pos : Position) (o : Nat),
    s.RecordEnds → (s.station.state = .ready ∨ s.station.state = .replaying) →
    b.quality.toNat ≤ 3 → b.source.toNat ≤ 31 → b.position.toNat ≤ 3 →
    Position.ofCode b.position.toNat = some pos →
    let n := b.source.toNat
    let r := (s.source n).promote b.raw.toNat
    let d := (b.sequence.toNat + 65536 - (s.source n).expectedSeq) % 65536
    let gapped := (s.source n).state = .live ∧ d ≠ 0
    let held := max (corrected r.segment b.raw.toNat) (r.watermark.getD 0)
    ((s.source n).state = .opened ∨ ((s.source n).state = .live ∧ d ≤ 32767 ∧ (s.source n).expectedSeq < 65536)) →
    (s.source n).nextOrdinal = some o → s.pointEntry n b.point.toNat = some p →
    let free := 4096 - s.pendingQueue.length
    (256 < free ∨ (0 < free ∧ (s.source n).watermark = some s.horizon.lw)) →
    ((∀ el tie, s.elementAt p.element = some el → el.ownership ≠ .localTie tie) ∨ s.outgoing.length < 64) →
    ∃ t e, exec (.event ⟨14, 16⟩ b) s = .next t ∧
      t = { s with
        feed := t.feed, sources := t.sources, horizon := t.horizon, clock := t.clock, attention := t.attention,
        tx := t.tx } ∧
      t.feed = { s.feed with intake := some e } ∧
      t.source n = { r with
        watermark := some held
        expectedSeq := (b.sequence.toNat + 1) % 65536
        lastRaw := some b.raw.toNat
        state := .live
        nextOrdinal := if o < 4294967295 then some (o + 1) else none
        counters := { r.counters with
          taken := if r.counters.taken < 4294967295 then r.counters.taken + 1 else r.counters.taken } } ∧
      (∀ m, m ≠ n → t.source m = s.source m) ∧ t.BoundsAgree ∧
      e.key = ⟨held, s.station.number, n, o⟩ ∧ e.element = p.element ∧
      (∀ tie, e.tie = some tie ↔ ∃ el, s.elementAt p.element = some el ∧ el.ownership = .localTie tie) ∧
      e.position = (if p.invert then pos.inverted else pos) ∧ e.cause = b.cause.toNat ∧
      e.quality = max b.quality.toNat (r.quality.getD 0) ∧ e.raw = b.raw.toNat ∧ e.sequence = b.sequence.toNat ∧
      (gapped → e.gap = some d) ∧ (¬ gapped → e.gap = none) ∧
      (e.clamped = true ↔ correctionSum r.segment b.raw.toNat < 0 ∨ maxTime < correctionSum r.segment b.raw.toNat) ∧
      (e.reordered = true ↔ corrected r.segment b.raw.toNat < r.watermark.getD 0) ∧
      let atStep5 := if e.clamped = true then s.report .clamped (some n) else s
      let atStep6 := if e.reordered = true then atStep5.report .reordered (some n) else atStep5
      let atStep7 := if e.gap.isSome = true then atStep6.report .gap (some n) else atStep6
      atStep7.OnlyReformed t

/-- The ways an EVENT of an OPEN or LIVE source ends at steps 1 to 4, with the counters and reports of each (R11, R14,
R15, R20). The laggard named is the lowest-numbered OPEN or LIVE source whose watermark is LW (R19). -/
def Obligations.EventEndsBeforeIntake : Prop :=
  ∀ (s : State) (b : EventBody), s.RecordEnds → (s.station.state = .ready ∨ s.station.state = .replaying) →
    b.position.toNat ≤ 3 → b.quality.toNat ≤ 3 → b.source.toNat ≤ 31 →
    let n := b.source.toNat
    let d := (b.sequence.toNat + 65536 - (s.source n).expectedSeq) % 65536
    let keeps (t : State) (c : SourceCounters) : Prop :=
      t.source n = { s.source n with counters := c } ∧ (∀ m, m ≠ n → t.source m = s.source m) ∧
      t = { s with feed := t.feed, sources := t.sources, attention := t.attention }
    let free := 4096 - s.pendingQueue.length
    let lagging (m : Nat) : Prop := m < 32 ∧
      ((s.source m).state = .opened ∨ (s.source m).state = .live) ∧ (s.source m).watermark = some s.horizon.lw
    let named (l : Option Nat) : Prop :=
      (∀ m, l = some m → lagging m ∧ ∀ k < m, ¬ lagging k) ∧ (l = none → ∀ m, ¬ lagging m)
    ((s.source n).state = .opened ∨ (s.source n).state = .live) → (s.source n).expectedSeq < 65536 →
    ((s.source n).nextOrdinal = none →
      exec (.event ⟨14, 16⟩ b) s = .next (s.withAnswer 7 .refused (some .outOfRange) none)) ∧
    ((s.source n).nextOrdinal.isSome = true →
      (s.pointEntry n b.point.toNat = none → ∃ t, exec (.event ⟨14, 16⟩ b) s = .next t ∧
        t.feed = ⟨.ready, some ⟨7, .discarded, some .unmapped, none⟩, none⟩ ∧
        keeps t { (s.source n).counters with unmapped := satSucc 4294967295 (s.source n).counters.unmapped } ∧
        t.attention = (s.report .unmapped (some n)).attention) ∧
      ∀ p, s.pointEntry n b.point.toNat = some p →
        ((s.source n).state = .live → 32768 ≤ d → ∃ t, exec (.event ⟨14, 16⟩ b) s = .next t ∧
          t.feed = ⟨.ready, some ⟨7, .discarded, some .repeated, none⟩, none⟩ ∧
          keeps t { (s.source n).counters with repeated := satSucc 4294967295 (s.source n).counters.repeated } ∧
          t.attention = (s.report .repeated (some n)).attention) ∧
        (((s.source n).state = .opened ∨ d ≤ 32767) →
          ∀ (a : Answer) (l : Option Nat), named l →
            ((free = 0 ∧ a = ⟨7, .deferred, some .full, l⟩) ∨
              (free ≠ 0 ∧ free ≤ 256 ∧ (s.source n).watermark ≠ some s.horizon.lw ∧
                a = ⟨7, .deferred, some .reserve, l⟩) ∨
              (free ≠ 0 ∧ (256 < free ∨ (s.source n).watermark = some s.horizon.lw) ∧
                (∃ e t, s.elementAt p.element = some e ∧ e.ownership = .localTie t) ∧ 64 ≤ s.outgoing.length ∧
                a = ⟨7, .deferred, some .outgoingFull, none⟩)) →
            ∃ t, exec (.event ⟨14, 16⟩ b) s = .next t ∧ t.feed = ⟨.ready, some a, none⟩ ∧
              keeps t { (s.source n).counters with
                deferred := satSucc 4294967295 (s.source n).counters.deferred } ∧
              t.attention = s.attention))

/-- PROGRESS and END_SOURCE of an OPEN or LIVE source (R17, R18, R25, R31), with the completion test that END_SOURCE brings
(R124). -/
def Obligations.ProgressAndEndMoveTheWatermark : Prop :=
  ∀ s : State, s.RecordEnds →
  (∀ b : ProgressBody, (s.station.state = .ready ∨ s.station.state = .replaying) → b.source.toNat ≤ 31 →
    (s.source b.source.toNat).isOpen = true → ∀ w g, (s.source b.source.toNat).watermark = some w →
    ((s.source b.source.toNat).promote b.bound.toNat).current = some g →
    (∀ x, (s.source b.source.toNat).next = some x →
      (x.anchor ≤ b.bound.toNat → (s.source b.source.toNat).promote b.bound.toNat =
        { s.source b.source.toNat with current := some x, next := none }) ∧
      (b.bound.toNat < x.anchor → (s.source b.source.toNat).promote b.bound.toNat = s.source b.source.toNat)) ∧
    ((s.source b.source.toNat).next = none →
      (s.source b.source.toNat).promote b.bound.toNat = s.source b.source.toNat) ∧
    ∃ t, exec (.progress ⟨7, 9⟩ b) s = .next t ∧
      t = { s.withAnswer 8 .taken none none with
        sources := t.sources, horizon := t.horizon, clock := t.clock, attention := t.attention, tx := t.tx } ∧
      t.source b.source.toNat = { (s.source b.source.toNat).promote b.bound.toNat with
        watermark := some (max w (corrected g b.bound.toNat)) } ∧
      (∀ n, n ≠ b.source.toNat → t.source n = s.source n) ∧ s.OnlyReformed t) ∧
  ∀ n : Byte, s.inService = true → n.toNat ≤ 31 → (s.source n.toNat).isOpen = true →
    ∃ t, exec (.endSource ⟨1, 3⟩ n) s = .next t ∧
      t = { s.withAnswer 9 .taken none none with
        sources := t.sources, horizon := t.horizon, clock := t.clock, attention := t.attention, tx := t.tx,
        station := t.station, engine := { s.engine with completeOwed := t.engine.completeOwed } } ∧
      t.source n.toNat = { s.source n.toNat with watermark := some endTime, state := .ended, next := none } ∧
      (∀ m, m ≠ n.toNat → t.source m = s.source m) ∧ s.ReformedToEnd t

/-- MERGE_ACT of a record in intake with no match: insertion, one entry more, the others as they were, in key order (R38,
R39, R40). The copy and BOUNDARY go with the tie number noted with the record, which it has exactly where its element is
LOCAL_TIE (`EventIsAdmitted`; log entry 30). With no record in intake MERGE_ACT leaves the state (R55). -/
def Obligations.MergeActInserts : Prop :=
  (∀ s : State, s.feed.intake = none → exec .mergeAct s = .next s) ∧
  ∀ (s : State) (e : Intake), s.feed.intake = some e → s.findMatch e = none → e.key.source < 32 →
    let entry : PendingEntry := {
      key := e.key, element := e.element, position := e.position, cause := e.cause, quality := e.quality,
      raw := e.raw, sequence := e.sequence, gap := e.gap, clamped := e.clamped, reordered := e.reordered,
      replaced := false, boundary := e.tie.isSome, announced := false, confirmations := 0 }
    ∃ t, exec .mergeAct s = .next t ∧
      t = { s.withAnswer 7 .taken none none with
        pendingQueue := t.pendingQueue, outgoing := t.outgoing, sources := t.sources, horizon := t.horizon,
        clock := t.clock, attention := t.attention, tx := t.tx } ∧
      t.pendingQueue = insertByKey PendingEntry.key entry s.pendingQueue ∧
      (∀ x, x ∈ t.pendingQueue ↔ x = entry ∨ x ∈ s.pendingQueue) ∧
      t.pendingQueue.length = s.pendingQueue.length + 1 ∧
      (e.tie = none → t.outgoing = s.outgoing) ∧
      (∀ tie, e.tie = some tie → t.outgoing = insertByKey OutgoingCopy.key
        ⟨e.key, tie, e.position, e.cause, e.quality, false, false⟩ s.outgoing) ∧
      t.source e.key.source = { s.source e.key.source with
        counters := { (s.source e.key.source).counters with
          pending := (s.source e.key.source).counters.pending + 1 } } ∧
      (∀ n, n ≠ e.key.source → t.source n = s.source n) ∧ s.OnlyReformed t

/-- The candidates of an element are its pending entries and at most one released candidate: the own event of the element in
flight, else its last release where that records a source 0 .. 31; a released one is taken with its source's window and
quality class (R45). The match is the nearest of the candidates that match: at the record's position, from another source,
within the wider of the two windows; among equally near ones the released candidate, then the one of least key; and there
is none exactly where no candidate matches (R46, R47). -/
def Obligations.TheNearestCandidateMatches : Prop :=
  ∀ (s : State) (e : Intake),
    let released (time source : Nat) (position : Position) : Candidate :=
      ⟨time, source, position, (s.source source).window.getD 0, (s.source source).quality.getD 0, none⟩
    let flying (x : PendingEntry) : Prop :=
      ∃ r, s.engine.inFlight = some r ∧ r.item = .own x ∧ x.element = e.element
    (∀ y, y ∈ s.candidates e.element ↔
      (∃ p ∈ s.pendingQueue, p.element = e.element ∧
        y = ⟨p.key.time, p.key.source, p.position, (s.source p.key.source).window.getD 0, p.quality, some p⟩) ∨
      (∃ x, flying x ∧ y = released x.key.time x.key.source x.position) ∨
      ((∀ x, ¬ flying x) ∧ ∃ f l, s.elementAt e.element = some f ∧ f.lastRelease = some l ∧ l.source ≤ 31 ∧
        y = released l.time l.source l.position)) ∧
    (∀ n, s.windowOf n = (s.source n).window.getD 0) ∧
    (∀ a b, timeDistance a b = ((a : Int) - b).natAbs) ∧
    let matching (y : Candidate) : Prop :=
      y ∈ s.candidates e.element ∧ y.position = e.position ∧ y.source ≠ e.key.source ∧
      timeDistance e.key.time y.time ≤ max (s.windowOf e.key.source) (s.windowOf y.source)
    (s.findMatch e = none ↔ ∀ y, ¬ matching y) ∧
    ∀ x, s.findMatch e = some x → matching x ∧
      ∀ y, matching y →
        timeDistance e.key.time x.time ≤ timeDistance e.key.time y.time ∧
        (timeDistance e.key.time y.time = timeDistance e.key.time x.time → x ≠ y →
          (y.pending.isSome = true) ∧
          (s.ListsSorted → ∀ p q, x.pending = some p → y.pending = some q → p.key.lt q.key = true))

/-- MERGE_ACT of a record whose match is a pending entry: replaced where the rules allow it, else confirmed with a skew
sample where the match is at least as well kept; and one whose match has been released (R48 to R54). A sample is the
difference of the two times, clamped to 2^31 - 1 in magnitude (R34); it raises the count, moves minimum and maximum, and
is added to the sum, clamped to 2^47 - 1 in magnitude (R35). The replaced entry's copy takes the new report and its new
place (R52). -/
def Obligations.MergeActMerges : Prop :=
  ∀ (s : State) (e : Intake) (x : Candidate), s.feed.intake = some e → s.findMatch e = some x → e.key.source < 32 →
    x.source < 32 →
    ∃ t, exec .mergeAct s = .next t ∧
      t = { s.withAnswer 7 .merged none none with
        pendingQueue := t.pendingQueue, outgoing := t.outgoing, sources := t.sources, horizon := t.horizon,
        clock := t.clock, attention := t.attention, tx := t.tx } ∧
      (∀ n, n ≠ e.key.source → n ≠ x.source → t.source n = s.source n) ∧ s.OnlyReformed t ∧
      let replaces := ∃ p, x.pending = some p ∧ p.announced = false ∧ e.quality < p.quality ∧
        ∀ c ∈ s.outgoing, c.key = p.key → c.held = false ∧ c.carried = false
      let ce := (s.source e.key.source).counters
      let cx := (s.source x.source).counters
      let k := (s.source e.key.source).skew
      let within (limit v : Int) : Int := if limit < v then limit else if v < -limit then -limit else v
      let sample := within 2147483647 ((e.key.time : Int) - x.time)
      (replaces → ∀ p, x.pending = some p →
        ((∀ c ∈ s.outgoing, c.key ≠ p.key) → t.outgoing = s.outgoing) ∧
        (∀ c, s.outgoing.find? (fun y => y.key == p.key) = some c →
          t.outgoing = insertByKey OutgoingCopy.key { c with key := e.key, quality := e.quality, cause := e.cause }
            (s.outgoing.filter fun y => y.key ≠ p.key)) ∧
        t.pendingQueue = insertByKey PendingEntry.key { p with
          key := e.key, cause := e.cause, quality := e.quality, raw := e.raw, sequence := e.sequence, gap := e.gap,
          clamped := e.clamped, reordered := e.reordered, replaced := true
          confirmations := if p.confirmations < 3 then p.confirmations + 1 else p.confirmations }
          (s.pendingQueue.filter fun y => y.key ≠ p.key) ∧
        t.source e.key.source = { s.source e.key.source with counters := { ce with pending := ce.pending + 1 } } ∧
        t.source x.source = { s.source x.source with
          counters := { cx with pending := cx.pending - 1, merged := satSucc 4294967295 cx.merged } }) ∧
      (¬ replaces →
        t.outgoing = s.outgoing ∧ (x.source ≠ e.key.source → t.source x.source = s.source x.source) ∧
        (x.pending = none → t.pendingQueue = s.pendingQueue) ∧
        (∀ p, x.pending = some p → t.pendingQueue = s.pendingQueue.map fun y =>
          if y.key = p.key then { y with
            confirmations := if y.confirmations < 3 then y.confirmations + 1 else y.confirmations } else y) ∧
        t.source e.key.source = { s.source e.key.source with
          counters := { ce with merged := satSucc 4294967295 ce.merged }
          skew := if x.quality ≤ e.quality then {
              count := if k.count < 65535 then k.count + 1 else k.count
              minimum := if k.count = 0 ∨ sample < k.minimum then sample else k.minimum
              maximum := if k.count = 0 ∨ k.maximum < sample then sample else k.maximum
              sum := within 140737488355327 (k.sum + sample) }
            else k })

/-! ## Console commands -/

/-- A command that lacks a free delivery entry, or an EXCLUDE or INCLUDE during a frame processing, stays in flight and
changes nothing else (R92, R135). Decided, every command has a form test and a state test: REFUSED with MALFORMED or
WRONG_STATE, the kind echoed and the flags carried, and nothing else changes (R135, R136). A command that waits is decided
in the act that lets it be decided, the start of a delivery, a frame processing or a COMMIT (log entry 26): that act
followed by the end of the command's write. -/
def Obligations.CommandsWaitAndAreTested : Prop :=
  ∀ (s : State) (c : Command),
    let clear : Prop := s.processing = none ∨ ∀ n p, c ≠ .excludePeer n p ∧ c ≠ .includePeer n p
    let alone : State := { s with console := { s.console with inFlight := none } }
    let writes (t : State) : State := { t with console := { t.console with writing := true, inFlight := none } }
    (s.console.writing = true →
      (64 ≤ s.delivery.queue.length ∨
        (s.processing.isSome = true ∧ ∃ n p, c = .excludePeer n p ∨ c = .includePeer n p)) →
      exec (commandRow c) s = .next { s with console := { s.console with writing := false, inFlight := some c } }) ∧
    (s.DecidesAtOnce → clear → ¬ WellFormedCommand c →
      exec (commandRow c) s = .next (s.written.withReply (commandKind c) (some .malformed) false)) ∧
    (s.DecidesAtOnce → clear → WellFormedCommand c → s.station.state ∉ acceptingStates c →
      exec (commandRow c) s = .next (s.written.withReply (commandKind c) (some .wrongState) false)) ∧
    (s.console.writing = false → s.console.inFlight = some c →
      (∀ r rest, s.delivery = ⟨r :: rest, none, true⟩ →
        exec .deliveryRecordBegin s = exec (commandRow c) (writes { s with delivery := ⟨rest, some r, true⟩ })) ∧
      (∀ n t, (s.processing = none ∧ s.rx.buffers ≠ [] ∧ s.inService = true ∨
          ∃ pr, s.processing = some pr ∧ pr.handOver = none ∧ s.engine.apply = none) →
        exec (.frameProcessing n) alone = .next t →
        exec (.frameProcessing n) s = exec (commandRow c) (writes t)) ∧
      ∀ f t, s.RecordEnds → s.station.state = .loading → exec (.commit f) alone = .next t → t.station.state = .ready →
        exec (.commit f) s = exec (commandRow c) (writes t))

/-- START in READY: REPLAYING, START_PENDING and the restart request cleared, the clock's reading kept; in every other state
it is refused with WRONG_STATE (R99; the restart request: R151). A station whose conditions of R124 hold already is
REPLAYING like any other (log entry 24). The reply is queued in the act, before a HOLD_STATE that it owes (log entry 33). -/
def Obligations.StartBeginsTheReplay : Prop :=
  ∀ s : State, s.DecidesAtOnce →
    (s.station.state ≠ .ready →
      exec (.start 0) s = .next (s.written.withReply 1 (some .wrongState) false)) ∧
    (s.station.state = .ready → ∃ t, exec (.start 0) s = .next t ∧
      t = { s.written with
        station := { s.station with state := .replaying, restartRequest := false }
        delivery := { s.delivery with
          queue := s.delivery.queue ++ [⟨s.station.epoch, .reply ⟨1, none, false, t.attention.flags⟩⟩] }
        clock := t.clock, attention := t.attention, horizon := t.horizon, tx := t.tx } ∧
      ({ s with clock := { s.clock with causes := { s.clock.causes with startPending := false } } }).OnlyReformed t)

/-- HOLD, RESUME and STEP: their effects on the hold cause set and the step, and their refusals (R100, R101), with IDLE turned
WAITING exactly where a frame is then wanted (R60). The reply is queued in the act, before a HOLD_STATE that it owes (log
entry 33). -/
def Obligations.HoldResumeAndStepActOnTheClock : Prop :=
  ∀ s : State, s.DecidesAtOnce →
    (s.station.state ≠ .ready → s.station.state ≠ .replaying →
      exec (.hold 0) s = .next (s.written.withReply 2 (some .wrongState) false) ∧
      exec (.resume 0) s = .next (s.written.withReply 3 (some .wrongState) false)) ∧
    (s.station.state ≠ .replaying →
      exec (.step 0) s = .next (s.written.withReply 4 (some .wrongState) false)) ∧
    ((s.station.state = .ready ∨ s.station.state = .replaying) → ∃ t, exec (.hold 0) s = .next t ∧
      t = { s.written.withReply 2 none false with
        clock := { s.clock with causes := { s.clock.causes with localHold := true }, stepArmed := false }
        tx := t.tx } ∧
      s.TxFollows t) ∧
    ((s.station.state = .ready ∨ s.station.state = .replaying) →
      (s.clock.causes.localHold = true ∨ s.clock.causes.step = true ∨ s.clock.causes.brk = true) →
      ∃ t, exec (.resume 0) s = .next t ∧
        t = { s.written.withReply 3 none false with
          clock := { s.clock with
            causes := { s.clock.causes with localHold := false, step := false, brk := false }
            broadcastBreak := false
            stepArmed := false }
          tx := t.tx } ∧
        s.TxFollows t) ∧
    ((s.station.state = .ready ∨ s.station.state = .replaying) →
      s.clock.causes.localHold = false → s.clock.causes.step = false → s.clock.causes.brk = false →
      exec (.resume 0) s = .next (s.written.withReply 3 (some .notHeld) false)) ∧
    (s.station.state = .replaying → s.clock.stepArmed = true →
      exec (.step 0) s = .next (s.written.withReply 4 (some .busy) false)) ∧
    (s.station.state = .replaying → s.clock.stepArmed = false →
      ((s.clock.causes.localHold = true ∨ s.clock.causes.step = true ∨ s.clock.causes.brk = true) →
        exec (.step 0) s = .next { s.written.withReply 4 none false with
          clock := { s.clock with stepArmed := true } }) ∧
      (s.clock.causes.localHold = false → s.clock.causes.step = false → s.clock.causes.brk = false →
        exec (.step 0) s = .next (s.written.withReply 4 (some .notHeld) false)))

/-- SET_RATE with its clamps, HOLD_AT with its range, SKIP_ON and SKIP_OFF (R96, R103, R144). -/
def Obligations.RateHoldAtAndSkipAreSet : Prop :=
  ∀ s : State, s.DecidesAtOnce → (s.station.state = .ready ∨ s.station.state = .replaying) →
    (∀ r : BitVec 32, exec (.setRate 4 r) s = .next
      { s.written.withReply 5 none (decide (r.toNat = 0 ∨ 16777215 < r.toNat)) with
        clock := { s.clock with rate := max 1 (min r.toNat 16777215) } }) ∧
    (∀ t : BitVec 40,
      (s.clock.integer < t.toNat → t.toNat ≤ 1099511627774 →
        exec (.holdAt 5 t) s = .next { s.written.withReply 6 none false with
          clock := { s.clock with holdAt := some t.toNat } }) ∧
      (t.toNat ≤ s.clock.integer ∨ 1099511627774 < t.toNat →
        exec (.holdAt 5 t) s = .next (s.written.withReply 6 (some .outOfRange) false))) ∧
    exec (.skipOn 0) s = .next { s.written.withReply 7 none false with
      clock := { s.clock with skipEnable := true } } ∧
    exec (.skipOff 0) s = .next { s.written.withReply 8 none false with
      clock := { s.clock with skipEnable := false } }

/-- WATCH_SET and WATCH_CLEAR: the mark of the element, and the refusals WRONG_STATE, OUT_OF_RANGE, FULL and
NOT_APPLICABLE (R142, R143). -/
def Obligations.WatchMarksAreSetAndCleared : Prop :=
  ∀ (s : State) (n k : Byte), s.DecidesAtOnce → (k = 1 ∨ k = 2) →
    (s.station.state ≠ .ready → s.station.state ≠ .replaying →
      exec (.watchSet 2 n k) s = .next (s.written.withReply 9 (some .wrongState) false) ∧
      exec (.watchClear 1 n) s = .next (s.written.withReply 10 (some .wrongState) false)) ∧
    ((s.station.state = .ready ∨ s.station.state = .replaying) →
    (s.elementAt n.toNat = none →
      exec (.watchSet 2 n k) s = .next (s.written.withReply 9 (some .outOfRange) false) ∧
      exec (.watchClear 1 n) s = .next (s.written.withReply 10 (some .outOfRange) false)) ∧
    ∀ e, s.elementAt n.toNat = some e →
      (e.watch = .none → 16 ≤ s.watched.length →
        exec (.watchSet 2 n k) s = .next (s.written.withReply 9 (some .full) false)) ∧
      ((e.watch ≠ .none ∨ s.watched.length < 16) → ∃ t, exec (.watchSet 2 n k) s = .next t ∧
        t = { s.written.withReply 9 none false with elements := t.elements } ∧
        t.elementAt n.toNat = some { e with watch := if k = 1 then .localMark else .broadcast } ∧
        ∀ m, m ≠ n.toNat → t.elementAt m = s.elementAt m) ∧
      (e.watch = .none →
        exec (.watchClear 1 n) s = .next (s.written.withReply 10 (some .notApplicable) false)) ∧
      (e.watch ≠ .none → ∃ t, exec (.watchClear 1 n) s = .next t ∧
        t = { s.written.withReply 10 none false with elements := t.elements } ∧
        t.elementAt n.toNat = some { e with watch := .none } ∧
        ∀ m, m ≠ n.toNat → t.elementAt m = s.elementAt m))

/-- EXCLUDE of a counted peer and INCLUDE of an EXCLUDED one, with the conditions of R93 and the refusals
NOT_APPLICABLE and NOT_NOW (R93; EXCLUDE: R92, with the completion test of R124, taken where its conditions come to hold:
log entry 24). Both wait for a frame processing in flight. The reply is queued in the act, before a HOLD_STATE that it owes
(log entry 33). -/
def Obligations.PeersAreExcludedAndIncluded : Prop :=
  (∀ (s : State) (b : Byte), s.console.writing = true → s.processing.isSome = true →
    exec (.excludePeer 1 b) s = .next { s with
      console := { s.console with writing := false, inFlight := some (.excludePeer 1 b) } } ∧
    exec (.includePeer 1 b) s = .next { s with
      console := { s.console with writing := false, inFlight := some (.includePeer 1 b) } }) ∧
  ∀ (s : State) (b : Byte), s.DecidesAtOnce → s.processing = none →
    (s.station.state = .ready ∨ s.station.state = .replaying) → b.toNat ≤ 15 →
    let p := s.peer b.toNat
    let beyond := ∀ k, s.engine.releasePoint = some k → k.time < p.horizon
    (p.counted = true → ∃ t, exec (.excludePeer 1 b) s = .next t ∧
      t = { s.written with
        peers := t.peers, delivery := t.delivery, horizon := t.horizon, clock := t.clock, attention := t.attention,
        tx := t.tx, station := t.station, engine := { s.engine with completeOwed := t.engine.completeOwed } } ∧
      t.delivery = { s.delivery with
        queue := s.delivery.queue ++ [⟨s.station.epoch, .reply ⟨11, none, false, t.attention.flags⟩⟩] } ∧
      t.peer b.toNat = { p with
        state := .excluded
        silence := none
        discarded := if p.state = .desync then 1 else 0
        expectedSeq := if p.state = .desync ∨ p.state = .foreignEpoch then none else p.expectedSeq } ∧
      (∀ n, n ≠ b.toNat → t.peer n = s.peer n) ∧ s.ReformedToEnd t) ∧
    (p.counted = false →
      exec (.excludePeer 1 b) s = .next (s.written.withReply 11 (some .notApplicable) false)) ∧
    (p.state ≠ .excluded →
      exec (.includePeer 1 b) s = .next (s.written.withReply 12 (some .notApplicable) false)) ∧
    (p.state = .excluded →
      ¬ (p.lastEpoch = s.station.epoch ∧ p.discarded = 0 ∧ beyond) →
      exec (.includePeer 1 b) s = .next (s.written.withReply 12 (some .notNow) false)) ∧
    (p.state = .excluded → p.lastEpoch = s.station.epoch → p.discarded = 0 → beyond →
      ∃ t, exec (.includePeer 1 b) s = .next t ∧
        t = { s.written with
          peers := t.peers, delivery := t.delivery, horizon := t.horizon, clock := t.clock,
          attention := t.attention, tx := t.tx } ∧
        t.delivery = { s.delivery with
          queue := s.delivery.queue ++ [⟨s.station.epoch, .reply ⟨12, none, false, t.attention.flags⟩⟩] } ∧
        (p.horizon ≠ endTime → t.peer b.toNat = { p with state := .active, silence := some 0 }) ∧
        (p.horizon = endTime → t.peer b.toNat = { p with state := .ended, silence := none }) ∧
        (∀ n, n ≠ b.toNat → t.peer n = s.peer n) ∧ s.OnlyReformed t)

/-- SNAPSHOT and SKEW, accepted or BUSY, and STATUS with the values of every block (R122, R140, R141). -/
def Obligations.SnapshotSkewAndStatusReply : Prop :=
  ∀ s : State, s.DecidesAtOnce →
    (s.inService = true →
      (s.engine.snapshot = .none → exec (.snapshot 0) s = .next { s.written.withReply 13 none false with
        engine := { s.engine with snapshot := .waiting } }) ∧
      (s.engine.snapshot ≠ .none → exec (.snapshot 0) s =
        .next (s.written.withReply 13 (some .busy) false)) ∧
      (s.console.skew = none → exec (.skew 0) s = .next { s.written.withReply 15 none false with
        console := ⟨false, none, some 0⟩ }) ∧
      (s.console.skew ≠ none → exec (.skew 0) s = .next (s.written.withReply 15 (some .busy) false))) ∧
    ∃ r : StatusRecord, exec (.status 0) s = .next { s.written with
        delivery := { s.delivery with queue := s.delivery.queue ++ [⟨s.station.epoch, .status r⟩] } } ∧
      r.number = s.station.number ∧ r.state = s.station.state ∧ r.epoch = s.station.epoch ∧
      r.clock = s.clock.integer ∧ r.fraction = s.clock.fraction ∧ r.rate = s.clock.rate ∧
      r.causes = s.clock.causes ∧ r.stepArmed = s.clock.stepArmed ∧ r.holdAt = s.clock.holdAt ∧
      r.skipEnable = s.clock.skipEnable ∧ r.stall = s.clock.stall ∧
      r.safeTime = s.horizon.safeTime ∧ r.limiting = s.horizon.limiting ∧ r.lw = s.horizon.lw ∧
      r.ownAnnounced = s.horizon.ownAnnounced ∧ r.releasePoint = s.engine.releasePoint ∧
      r.pendingOccupancy = s.pendingQueue.length ∧ r.remoteOccupancy = s.remotes.length ∧
      r.timerOccupancy = s.timers.length ∧ r.outgoingOccupancy = s.outgoing.length ∧
      r.deliveryOccupancy = s.delivery.queue.length ∧
      r.releaseInFlight = s.engine.inFlight.isSome ∧ r.applyInFlight = s.engine.apply.isSome ∧
      r.relabelInFlight = s.islands.relabel.isSome ∧ r.snapshot = s.engine.snapshot ∧
      r.transmitter = s.tx.state ∧ r.failures = s.tx.failures ∧ r.good = s.rx.good ∧ r.sync = s.rx.sync ∧
      r.crc = s.rx.crc ∧ r.overrun = s.rx.overrun ∧ r.peers.length = 16 ∧
      (∀ n < 16, r.peers[n]? = some ⟨(s.peer n).state, (s.peer n).horizon, (s.peer n).hold, (s.peer n).senderState,
        (s.peer n).lastEpoch, (s.peer n).frames, (s.peer n).changes, (s.peer n).errors⟩) ∧
      r.flags = s.attention.flags ∧ r.mask = s.attention.mask ∧ r.capture = s.attention.capture ∧
      r.highest = (if s.attention.flags.error then 1 else if s.attention.flags.stall then 2
        else if s.attention.flags.link then 3 else if s.attention.flags.lag then 4
        else if s.attention.flags.brk then 5 else if s.attention.flags.complete then 6 else 0)

/-- CLEAR_FLAGS clears each flag named but STALL and LINK while their conditions hold, and ERROR with the capture; MASK
replaces the mask (R138, R139). -/
def Obligations.FlagsAreClearedAndMasked : Prop :=
  ∀ (s : State) (b : Byte), s.DecidesAtOnce →
    (∃ t, exec (.clearFlags 1 b) s = .next t ∧
      t = { s.written with
        attention := t.attention
        delivery := { s.delivery with
          queue := s.delivery.queue ++ [⟨s.station.epoch, .reply ⟨17, none, false, t.attention.flags⟩⟩] } } ∧
      t.attention.mask = s.attention.mask ∧
      t.attention.flags = {
        brk := s.attention.flags.brk && !b.getLsbD 0
        complete := s.attention.flags.complete && !b.getLsbD 1
        stall := s.attention.flags.stall && (!b.getLsbD 2 || s.clock.stall)
        error := s.attention.flags.error && !b.getLsbD 3
        lag := s.attention.flags.lag && !b.getLsbD 4
        link := s.attention.flags.link && (!b.getLsbD 5 || s.linkHolds) } ∧
      t.attention.capture = (if b.getLsbD 3 then ⟨none, 0, none⟩ else s.attention.capture)) ∧
    exec (.mask 1 b) s = .next { s.written.withReply 18 none false with
      attention := { s.attention with mask := ⟨b.getLsbD 0, b.getLsbD 1, b.getLsbD 2, b.getLsbD 3, b.getLsbD 4,
        b.getLsbD 5⟩ } }

/-- RESTART by command in READY, REPLAYING or COMPLETE: the new epoch, every block at its starting values, RESTARTED first
in the emptied queue and the reply second (R69, R136, R151, R153, R154). Which peers are AWAITED takes bit n of the
expected peer mask as station n (log entry 9). -/
def Obligations.RestartReachesEveryBlock : Prop :=
  ∀ (s : State) (option : Byte), s.writtenInService → (option = 0 ∨ option = 1) →
    ∃ t, exec (.restart 1 option) s = .next t ∧
      s.Restarted t ((s.station.epoch + 1) % 256) (option == 1) ∧
      t.console = ⟨false, none, none⟩ ∧
      t.delivery = { s.delivery with queue := [
        ⟨(s.station.epoch + 1) % 256, .restarted (.command (option == 1)) s.station.epoch
          ((s.station.epoch + 1) % 256) s.settings.startTime⟩,
        ⟨(s.station.epoch + 1) % 256, .reply ⟨16, none, false, t.attention.flags⟩⟩] }

/-! ## Delivery -/

/-- The ready signal and the sender (R133), and the records owed by the clock, the release engine and the command unit:
each is queued in order where more than 4 entries are free, and otherwise waits (R98, R124, R134, R141); where none is
owed or left its row changes nothing. The begin of a delivery frees an entry and decides a command that waited for one in
the same act (R135; log entry 26). -/
def Obligations.RecordsAreQueuedAndSent : Prop :=
  ∀ s : State,
    exec .consoleReadyAssert s = .next { s with delivery := { s.delivery with ready := true } } ∧
    exec .consoleReadyWithdraw s = .next { s with delivery := { s.delivery with ready := false } } ∧
    exec .deliveryRecordEnd s = .next { s with delivery := { s.delivery with sending := none } } ∧
    (∀ r rest, s.delivery = ⟨r :: rest, none, true⟩ → s.console.inFlight = none →
      exec .deliveryRecordBegin s = .next { s with delivery := ⟨rest, some r, true⟩ }) ∧
    (∀ r rest c, s.delivery = ⟨r :: rest, none, true⟩ → rest.length < 64 → s.processing = none →
      s.console.inFlight = some c → ∃ t, exec .deliveryRecordBegin s = .next t ∧ t.console.inFlight = none ∧
        t.delivery.sending = some r) ∧
    (s.delivery.queue = [] ∨ s.delivery.ready = false ∨ s.delivery.sending.isSome = true →
      exec .deliveryRecordBegin s = .next s) ∧
    let owed := s.clock.causes.isEmpty ≠ (s.clock.reported == .running)
    (s.delivery.queue.length < 60 →
      (owed → exec .holdState s = .next { s with
        delivery := { s.delivery with
          queue := s.delivery.queue ++ [⟨s.station.epoch, .holdState s.clock.causes s.clock.integer⟩] }
        clock := { s.clock with reported := if s.clock.causes.isEmpty then .running else .held } }) ∧
      (s.engine.completeOwed = true → exec .completeRecord s = .next { s with
        delivery := { s.delivery with
          queue := s.delivery.queue ++
            [⟨s.station.epoch, .complete s.station.epoch s.engine.releasePoint s.clock.integer⟩] }
        engine := { s.engine with completeOwed := false } }) ∧
      (∀ k n rest, s.console.skew = some k → s.declaredFrom k = n :: rest → exec .skewRecord s = .next { s with
        delivery := { s.delivery with
          queue := s.delivery.queue ++ [⟨s.station.epoch, .skew ⟨n, (s.source n).state, (s.source n).quality,
            (s.source n).watermark, (s.source n).counters, (s.source n).skew⟩⟩] }
        console := { s.console with skew := rest.head? } })) ∧
    (60 ≤ s.delivery.queue.length →
      exec .holdState s = .next s ∧ exec .completeRecord s = .next s ∧ exec .skewRecord s = .next s) ∧
    (¬ owed → exec .holdState s = .next s) ∧
    (s.engine.completeOwed = false → exec .completeRecord s = .next s) ∧
    ((∀ k, s.console.skew = some k → s.declaredFrom k = []) → exec .skewRecord s = .next s)

/-! ## Release -/

/-- The release of an own event, whatever travel and chatter handling its element has: removal, release point, position, last
release and counters in one act; its EVENT record owed with its content, or none where the element is CHATTERING; the
relabel of a changed position started in the act (log entry 17); the timers and the end of the release (R110, R112, R115,
R118, R121). A no change touches neither travel nor chatter. -/
def Obligations.OwnEventIsReleased : Prop :=
  ∀ (s : State) (x : PendingEntry) (e : Element), s.leastHead = some (.own x) → s.CanRelease x.key →
    s.elementAt x.element = some e →
    ∃ t f record ts, exec .release s = .next t ∧ s.OwnReleased x e f record ts t ∧
      (e.chatter = .chattering → record = none) ∧
      (e.chatter = .normal → ∃ v, record = some v ∧ v = {
        key := x.key, element := x.element, position := x.position, previous := e.current, cause := x.cause
        quality := x.quality, raw := x.raw, sequence := x.sequence, confirmations := x.confirmations, gap := x.gap
        clamped := x.clamped, reordered := x.reordered, replaced := x.replaced, boundary := x.boundary
        noChange := decide (x.position = e.current), chatterStart := v.chatterStart, lateTravel := v.lateTravel
        travelTime := v.travelTime }) ∧
      (x.position = e.current →
        f = { e with lastRelease := some ⟨x.key.time, x.key.source, x.position⟩ } ∧ t.timers = s.timers ∧
        ∀ v, record = some v → v.chatterStart = false ∧ v.lateTravel = false ∧ v.travelTime = none)

/-- The TRAVEL TABLE (R115), with or without chatter handling on the element: travel start, stuck flag, the travel time and
LATE_TRAVEL of the EVENT record, and the travel timer (the last in `State.TravelTimers`). An element without travel timing
is untouched by it. -/
def Obligations.TravelIsTimed : Prop :=
  ∀ (s : State) (x : PendingEntry) (e : Element), s.leastHead = some (.own x) → s.CanRelease x.key →
    s.elementAt x.element = some e →
    ∃ t f record ts, exec .release s = .next t ∧ s.OwnReleased x e f record ts t ∧
      let untouched := f.travelStart = e.travelStart ∧ f.stuck = e.stuck ∧
        ∀ v, record = some v → v.travelTime = none ∧ v.lateTravel = false
      (¬ e.Timed ∨ x.position = e.current → untouched) ∧
      (e.Timed → x.position ≠ e.current →
        (x.position = .intermediate → e.current = .opened ∨ e.current = .closed →
          f.travelStart = some x.key.time ∧ f.stuck = e.stuck ∧
          ∀ v, record = some v → v.travelTime = none ∧ v.lateTravel = false) ∧
        (x.position = .intermediate → e.current ≠ .opened → e.current ≠ .closed → untouched) ∧
        (x.position = .opened ∨ x.position = .closed → ∀ start, e.travelStart = some start →
          f.travelStart = none ∧ f.stuck = false ∧
          ∀ v, record = some v → v.travelTime = some (x.key.time - start) ∧ v.lateTravel = e.stuck) ∧
        (x.position = .opened ∨ x.position = .closed → e.travelStart = none →
          f.travelStart = none ∧ f.stuck = false ∧
          ∀ v, record = some v → v.travelTime = none ∧ v.lateTravel = false) ∧
        (x.position = .bad → f.travelStart = none ∧ f.stuck = e.stuck ∧
          ∀ v, record = some v → v.travelTime = none ∧ v.lateTravel = false))

/-- Chatter (R117, R118), with or without travel timing on the element: the window and its count, the start of CHATTERING
with CHATTER_START, the suppressed count of a CHATTERING element, and the quiet timer (the last in `State.OwnReleased`).
A no change is not counted, and on a CHATTERING element it is suppressed without count or timer. -/
def Obligations.ChatterIsCounted : Prop :=
  ∀ (s : State) (x : PendingEntry) (e : Element), s.leastHead = some (.own x) → s.CanRelease x.key →
    s.elementAt x.element = some e →
    ∃ t f record ts, exec .release s = .next t ∧ s.OwnReleased x e f record ts t ∧
      let uncounted := f.chatter = e.chatter ∧ f.windowStart = e.windowStart ∧ f.windowCount = e.windowCount
      let fresh := ∀ w, e.windowStart = some w → s.settings.chatterW * 1000 ≤ x.key.time - w
      (x.position = e.current → uncounted ∧ f.suppressed = e.suppressed ∧ (record = none ↔ e.chatter = .chattering)) ∧
      (x.position ≠ e.current → e.chatter = .normal → e.chatterEnable = false →
        uncounted ∧ f.suppressed = e.suppressed ∧ ∃ v, record = some v ∧ v.chatterStart = false) ∧
      (x.position ≠ e.current → e.chatter = .normal → e.chatterEnable = true →
        (fresh → f.windowStart = some x.key.time ∧ f.windowCount = 1) ∧
        (¬ fresh → f.windowStart = e.windowStart ∧ f.windowCount = e.windowCount + 1) ∧
        f.suppressed = e.suppressed ∧
        (∃ v, record = some v ∧ (v.chatterStart = true ↔ f.windowCount = s.settings.chatterN)) ∧
        (f.windowCount = s.settings.chatterN → f.chatter = .chattering ∧
          t.timers = s.timerMoved 33 x.element (x.key.time + s.settings.chatterQ * 1000) ts) ∧
        (f.windowCount ≠ s.settings.chatterN → f.chatter = .normal ∧ t.timers = ts)) ∧
      (x.position ≠ e.current → e.chatter = .chattering →
        uncounted ∧ f.suppressed = satSucc 65535 e.suppressed ∧ record = none ∧
        t.timers = s.timerMoved 33 x.element (x.key.time + s.settings.chatterQ * 1000) ts)

/-- The release of a remote change, of a travel timer and of a quiet timer, stepped or not (R113, R116, R118; the step:
R102, R103). The relabel of a changed position starts in the act (log entry 17). -/
def Obligations.RemoteChangesAndTimersAreReleased : Prop :=
  ∀ (s : State) (i : Item) (e : Element), s.leastHead = some i → s.CanRelease i.key →
    s.elementAt i.element = some e →
    (∀ r, i = .remote r → ∃ t, exec .release s = .next t ∧
      t = { s with
        remotes := s.remotes.tail, elements := t.elements, engine := t.engine, islands := t.islands, clock := t.clock,
        attention := t.attention, horizon := t.horizon, tx := t.tx } ∧
      (e.nodes.isSome = true → r.position ≠ e.current →
        t.islands = { s.islands with relabel := some ⟨.item r.key, .computing⟩ }) ∧
      (e.nodes = none ∨ r.position = e.current → t.islands = s.islands) ∧
      t.elementAt r.element = some { e with
        current := r.position, lastRelease := some ⟨r.key.time, r.key.source, r.position⟩ } ∧
      (∀ n, n ≠ r.element → t.elementAt n = s.elementAt n) ∧ s.ReformedWith (s.steppedTo r.key.time) t ∧
      t.engine = { s.engine with
        releasePoint := some r.key
        inFlight := some ⟨i, some (.remote ⟨r.key, r.element, r.tie, r.position, e.current, r.cause, r.quality,
          decide (r.position = e.current), false⟩), none⟩ }) ∧
    (∀ k, i = .timer k → ∃ t, exec .release s = .next t ∧
      t = { s with
        timers := s.timers.tail, elements := t.elements, engine := t.engine, clock := t.clock,
        attention := t.attention, horizon := t.horizon, tx := t.tx } ∧
      (∀ n, n ≠ k.ordinal → t.elementAt n = s.elementAt n) ∧ s.ReformedWith (s.steppedTo k.time) t ∧
      (k.source = 32 →
        t.elementAt k.ordinal = some { e with stuck := true, lastRelease := some ⟨k.time, 32, .intermediate⟩ } ∧
        t.engine = { s.engine with
          releasePoint := some k, inFlight := some ⟨i, some (.stuck k.ordinal k.time e.travelStart), none⟩ }) ∧
      (k.source = 33 →
        t.elementAt k.ordinal = some { e with
          chatter := .normal, suppressed := 0, windowStart := none, windowCount := 0
          lastRelease := some ⟨k.time, 33, e.current⟩ } ∧
        t.engine = { s.engine with
          releasePoint := some k
          inFlight := some ⟨i, some (.chatterEnd k.ordinal k.time e.suppressed e.current), none⟩ }))

/-- RELEASE acts on the least head alone, the least by key of the heads of the three lists, and only where it is releasable;
it then makes its key the release point, below the safe time and at or below the clock as the act leaves it (R109, R110).
With a step armed the act raises the clock to the item and disarms the step, and a hold-at time reached sets BREAK; the
other hold causes and clock fields stay, but for what is re-formed (R102, R103). The same of an item of an absent element,
which no list holds (R111), is the model's choice (log entry 29). -/
def Obligations.ReleasesLieBelowTheSafeTime : Prop :=
  ∀ s : State,
    let isHead (i : Item) := s.pendingQueue.head?.map Item.own = some i ∨ s.remotes.head?.map Item.remote = some i ∨
      s.timers.head?.map Item.timer = some i
    (s.leastHead = none ↔ ∀ i, ¬ isHead i) ∧
    ((∀ i, s.leastHead = some i → ¬ s.CanRelease i.key) → exec .release s = .next s) ∧
    ∀ i, s.leastHead = some i → isHead i ∧ (∀ j, isHead j → j.key.lt i.key = false) ∧
      (s.CanRelease i.key → ∃ t, exec .release s = .next t ∧
        t.engine.releasePoint = some i.key ∧ i.key.time < s.horizon.safeTime ∧ i.key.time ≤ t.clock.integer ∧
        s.station.state = .replaying ∧ s.Reformed (s.steppedTo i.key.time) t ∧
        (s.clock.stepArmed = true →
          let now := max s.clock.integer i.key.time
          let reached := ∃ h, s.clock.holdAt = some h ∧ h ≤ now
          (reached → t.clock.holdAt = none ∧ t.clock.causes.brk = true ∧ t.attention.flags.brk = true) ∧
          (¬ reached → t.clock.holdAt = s.clock.holdAt ∧ t.clock.causes.brk = s.clock.causes.brk ∧
            t.attention.flags.brk = s.attention.flags.brk) ∧
          t.clock = { s.clock with
            integer := now, fraction := 0, stepArmed := false, holdAt := t.clock.holdAt
            causes := { s.clock.causes with
              step := true, brk := t.clock.causes.brk, peer := t.clock.causes.peer, lag := t.clock.causes.lag }
            stall := t.clock.stall, stallTimer := t.clock.stallTimer }))

/-- The records of a release: its own record, then MARK with BREAK where the element is watched; each waits for more than 4
free entries. With its records queued the release ends, or waits for the relabel it started (R110, R112, R120, R121,
R127; that the relabel has started at the removal is log entry 17). -/
def Obligations.ReleaseRecordsFollowInOrder : Prop :=
  (∀ s : State, s.engine.inFlight = none → exec .releaseRecordQueue s = .next s) ∧
  ∀ (s : State) (r : ReleaseInFlight), s.engine.inFlight = some r →
    let done := if s.islands.relabel.isSome then some { r with record := none, mark := none } else none
    (60 ≤ s.delivery.queue.length ∨ (r.record = none ∧ r.mark = none) → exec .releaseRecordQueue s = .next s) ∧
    (s.delivery.queue.length < 60 →
      (∀ b, r.record = some b → ∃ t, exec .releaseRecordQueue s = .next t ∧
        t = { s with
          delivery := { s.delivery with queue := s.delivery.queue ++ [⟨s.station.epoch, b⟩] }
          engine := { s.engine with inFlight := t.engine.inFlight, completeOwed := t.engine.completeOwed }
          station := t.station, horizon := t.horizon, clock := t.clock, attention := t.attention, tx := t.tx } ∧
        (s.watchCheck r.item ≠ .none →
          t.engine.inFlight = some { r with record := none, mark := some (s.watchCheck r.item) }) ∧
        (s.watchCheck r.item = .none → t.engine.inFlight = done) ∧ s.ReformedToEnd t) ∧
      (∀ m, r.record = none → r.mark = some m → ∃ t, exec .releaseRecordQueue s = .next t ∧
        t = { s with
          delivery := { s.delivery with
            queue := s.delivery.queue ++ [⟨s.station.epoch, .mark r.item.element r.item.key m⟩] }
          engine := { s.engine with inFlight := t.engine.inFlight, completeOwed := t.engine.completeOwed }
          station := t.station, horizon := t.horizon, clock := t.clock, attention := t.attention, tx := t.tx } ∧
        t.engine.inFlight = done ∧
        ({ s with
          clock := { s.clock with
            causes := { s.clock.causes with brk := true }
            broadcastBreak := s.clock.broadcastBreak || decide (m = WatchMark.broadcast) }
          attention := { s.attention with flags := { s.attention.flags with brk := true } } }).ReformedToEnd t))

/-- The apply step takes a LATE change: position and last release written, a REMOTE record flagged LATE queued, the
release point left, and a relabel where the position of an element with nodes changed (R114). It waits, leaving the state,
while a release, apply or relabel is in flight, a snapshot is WAITING or EMITTING (R122), or 4 or fewer delivery entries are
free, and where no change is handed over. A change for an absent element, which no run meets, is dropped (log entry 29). -/
def Obligations.LateChangesAreApplied : Prop :=
  (∀ s : State, ((∀ pr, s.processing = some pr → pr.handOver = none) ∨ s.engine.inFlight.isSome = true ∨
      s.engine.apply.isSome = true ∨ s.islands.relabel.isSome = true ∨ s.engine.snapshot ≠ .none ∨
      60 ≤ s.delivery.queue.length) →
    exec .lateApply s = .next s) ∧
  (∀ (s : State) (pr : Processing) (r : RemoteEntry),
    s.processing = some pr → pr.handOver = some r → s.elementAt r.element = none → s.EngineFree →
    exec .lateApply s = .next { s with processing := some { pr with handOver := none } }) ∧
  ∀ (s : State) (pr : Processing) (r : RemoteEntry) (e : Element),
    s.processing = some pr → pr.handOver = some r → s.elementAt r.element = some e → s.EngineFree →
    ∃ t, exec .lateApply s = .next t ∧
      t = { s with
        processing := some { pr with handOver := none }, elements := t.elements
        delivery := { s.delivery with queue := s.delivery.queue ++ [⟨s.station.epoch, .remote ⟨r.key, r.element, r.tie,
          r.position, e.current, r.cause, r.quality, decide (r.position = e.current), true⟩⟩] }
        engine := { s.engine with apply := t.engine.apply, completeOwed := t.engine.completeOwed }
        islands := t.islands, station := t.station, horizon := t.horizon, clock := t.clock
        attention := t.attention, tx := t.tx } ∧
      t.elementAt r.element = some { e with
        current := r.position, lastRelease := some ⟨r.key.time, r.key.source, r.position⟩ } ∧
      (∀ n, n ≠ r.element → t.elementAt n = s.elementAt n) ∧ s.ReformedToEnd t ∧
      (e.nodes.isSome = true → r.position ≠ e.current → t.engine.apply = some r ∧
        t.islands = { s.islands with relabel := some ⟨.late r.key, .computing⟩ }) ∧
      (e.nodes = none ∨ r.position = e.current → t.engine.apply = none ∧ t.islands = s.islands)

/-- The end of COMPUTING and the ISLANDS record (R125, R126, R128, R129). The record follows the records of the release
that started the relabel (R121). A relabel that ends ends the apply that started it, and the release where its own
records are queued (R110, R114; log entry 17). Each row leaves the state where no relabel is in its stage. -/
def Obligations.RelabelsComputeAndEmit : Prop :=
  ∀ (s : State) (cause : RelabelCause),
    let queued := ∀ r, s.engine.inFlight = some r → r.record = none ∧ r.mark = none
    let ends (t : State) : Prop :=
      t.engine = { s.engine with
        inFlight := t.engine.inFlight, apply := t.engine.apply, completeOwed := t.engine.completeOwed } ∧
      (∀ k, cause = .item k → (queued → t.engine.inFlight = none) ∧
        (¬ queued → t.engine.inFlight = s.engine.inFlight) ∧ t.engine.apply = s.engine.apply) ∧
      (∀ k, cause = .late k → t.engine.inFlight = s.engine.inFlight ∧ t.engine.apply = none) ∧
      (cause = .commit ∨ cause = .restart →
        t.engine.inFlight = s.engine.inFlight ∧ t.engine.apply = s.engine.apply) ∧ s.ReformedToEnd t
    ((∀ r, s.islands.relabel = some r → r.stage ≠ .computing) → exec .relabelComputed s = .next s) ∧
    ((∀ r, s.islands.relabel = some r → r.stage = .computing) → exec .islandsEmit s = .next s) ∧
    (s.islands.relabel = some ⟨cause, .computing⟩ → ∃ t changes, exec .relabelComputed s = .next t ∧
      t = { s with
        islands := t.islands, engine := t.engine, station := t.station, horizon := t.horizon, clock := t.clock,
        attention := t.attention, tx := t.tx } ∧
      t.islands.labels = labelsOf s.joins ∧
      t.islands.islandCount = countIslands (labelsOf s.joins) s.nodesInUse ∧
      t.islands.uncertainCount = countUncertain (labelsOf s.joins) s.uncertainNodes ∧
      (∀ n old new, (n, old, new) ∈ changes ↔
        n < 128 ∧ old = labelAt s.islands.labels n ∧ new = labelAt (labelsOf s.joins) n ∧ old ≠ new) ∧
      changes.Pairwise (fun a b => a.1 < b.1) ∧
      (changes = [] → t.islands.uncertainCount = s.islands.uncertainCount → t.islands.relabel = none ∧ ends t) ∧
      (changes ≠ [] ∨ t.islands.uncertainCount ≠ s.islands.uncertainCount →
        t.islands.relabel = some ⟨cause, .emitting changes t.islands.islandCount t.islands.uncertainCount⟩ ∧
        t = { s with islands := t.islands })) ∧
    ∀ changes islands uncertain, s.islands.relabel = some ⟨cause, .emitting changes islands uncertain⟩ →
      (60 ≤ s.delivery.queue.length ∨ ¬ queued → exec .islandsEmit s = .next s) ∧
      (s.delivery.queue.length < 60 → queued → ∃ t, exec .islandsEmit s = .next t ∧
        t = { s with
          delivery := { s.delivery with queue := s.delivery.queue ++
            [⟨s.station.epoch, .islands ⟨cause, s.clock.integer, islands, uncertain, changes⟩⟩] }
          islands := { s.islands with relabel := none }
          engine := t.engine, station := t.station, horizon := t.horizon, clock := t.clock,
          attention := t.attention, tx := t.tx } ∧ ends t)

/-- A snapshot passes from WAITING to EMITTING, queues the present elements in increasing number and ends with
NODE_LABELS (R122, R123). It stays WAITING while a release, apply or relabel is in flight, and the emission waits while 4 or
fewer delivery entries are free (R134). -/
def Obligations.SnapshotsAreEmitted : Prop :=
  ∀ s : State,
    (s.engine.snapshot ≠ .waiting ∨ s.engine.inFlight.isSome = true ∨ s.engine.apply.isSome = true ∨
        s.islands.relabel.isSome = true →
      exec .snapshotEmitting s = .next s) ∧
    ((∀ k, s.engine.snapshot ≠ .emitting k) ∨ 60 ≤ s.delivery.queue.length →
      exec .elementState s = .next s ∧ exec .nodeLabels s = .next s) ∧
    (s.engine.snapshot = .waiting → s.engine.inFlight = none → s.engine.apply = none → s.islands.relabel = none →
      exec .snapshotEmitting s = .next { s with engine := { s.engine with snapshot := .emitting 0 } }) ∧
    ∀ k, s.engine.snapshot = .emitting k → s.delivery.queue.length < 60 →
      (∀ n e, k ≤ n → s.elementAt n = some e → (∀ m, k ≤ m → m < n → s.elementAt m = none) →
        exec .elementState s = .next { s with
          delivery := { s.delivery with
            queue := s.delivery.queue ++ [⟨s.station.epoch, .elementState n e⟩] }
          engine := { s.engine with snapshot := .emitting (n + 1) } } ∧
        exec .nodeLabels s = .next s) ∧
      ((∀ m, k ≤ m → s.elementAt m = none) →
        exec .elementState s = .next s ∧
        exec .nodeLabels s = .next { s with
          delivery := { s.delivery with queue := s.delivery.queue ++ [⟨s.station.epoch,
            .nodeLabels s.islands.labels s.islands.islandCount s.islands.uncertainCount⟩] }
          engine := { s.engine with snapshot := .none } })

/-! ## The clock -/

/-- The tick: station time and the timers that count it, the advance with its saturation and hold-at, the skip jump, the
lag test and the stall timer (R67, R89, R95, R103, R105 to R107, R139). One tick as one command is log entry 11; that a
tick at 2^40 - 2 leaves the fraction as it stands is log entry 23 (DEDUCED), that a hold-at time of 2^40 - 2 on which a
jump lands exactly is not reached is log entry 34 (DEDUCED), that the silence and stall timers stop at their limits until
their own rows is log entry 12, and that the stall timer stays absent while STALL is present, also where the stall condition
begins anew in the tick, is log entry 36 (DEDUCED). -/
def Obligations.TheTickAdvancesTheClock : Prop :=
  ∀ s : State, ∃ t, exec .clockAdvance s = .next t ∧
    t = { s with
      station := { s.station with time := (s.station.time + 1) % 2 ^ 48 }
      peers := t.peers, tx := t.tx, clock := t.clock, attention := t.attention } ∧
    (∀ n, t.peer n = { s.peer n with silence := (t.peer n).silence }) ∧
    (∀ n k, n < 16 → (s.peer n).state = .active → (s.peer n).silence = some k →
      (t.peer n).silence = some (min (k + 1) 40000)) ∧
    (∀ n, (s.peer n).state ≠ .active ∨ (s.peer n).silence = none → (t.peer n).silence = (s.peer n).silence) ∧
    (∀ k, s.tx.state = .muted (some k) → t.tx = { s.tx with state := .muted (some (k - 1)) }) ∧
    ((∀ k, s.tx.state ≠ .muted (some k)) → t.tx = s.tx) ∧
    let c := s.clock
    let last := 1099511627774
    let sum := c.fraction + c.rate
    let next := c.integer + sum / 65536
    let runs := s.station.state = .replaying ∧ c.causes = HoldCauses.empty
    let reached := c.integer < last ∧ ∃ h, c.holdAt = some h ∧ (h < next ∨ h = next ∧ h = last)
    let now := if last ≤ c.integer then c.integer else min next last
    let skips (i : Item) := s.leastHead = some i ∧ c.skipEnable = true ∧ ¬ reached ∧
      i.key.time < s.horizon.safeTime ∧ s.settings.skipThreshold * 1000 < i.key.time - now ∧
      now + s.settings.skipLead * 1000 < i.key.time
    let breaksAt (h : Nat) := t.clock.integer = h ∧ t.clock.fraction = 0 ∧ t.clock.holdAt = none ∧
      t.clock.causes.brk = true ∧ t.attention.flags.brk = true
    let passes := t.clock.holdAt = c.holdAt ∧ t.clock.causes.brk = c.causes.brk ∧
      t.attention.flags.brk = s.attention.flags.brk
    t.clock = { c with
      integer := t.clock.integer, fraction := t.clock.fraction, holdAt := t.clock.holdAt
      causes := { c.causes with brk := t.clock.causes.brk, lag := t.clock.causes.lag }
      stallTimer := t.clock.stallTimer } ∧
    t.attention = { s.attention with
      flags := { s.attention.flags with brk := t.attention.flags.brk, lag := t.attention.flags.lag } } ∧
    (¬ runs → t.clock = { c with stallTimer := t.clock.stallTimer } ∧ t.attention = s.attention) ∧
    (runs → reached → ∀ h, c.holdAt = some h → breaksAt h) ∧
    (runs → ¬ reached → (∀ i, ¬ skips i) → passes ∧ t.clock.integer = now ∧
      t.clock.fraction = if last ≤ c.integer then c.fraction else if last < next then 0 else sum % 65536) ∧
    (runs → ∀ i, skips i →
      let target := i.key.time - s.settings.skipLead * 1000
      ((∀ h, c.holdAt = some h → target ≤ h) → passes ∧ t.clock.integer = target ∧ t.clock.fraction = 0) ∧
      ∀ h, c.holdAt = some h → h < target → breaksAt h) ∧
    s.LagFollows t ∧
    t.attention.flags.lag = (s.attention.flags.lag || (t.clock.causes.lag && !c.causes.lag)) ∧
    (c.stall = true ∨ ¬ t.Stalls → t.clock.stallTimer = none) ∧
    (c.stall = false → t.Stalls → t.clock.stallTimer = match c.stallTimer with
      | some k => some (min (k + 1) 100000)
      | none => some 0)

/-! ## The link -/

/-- The heartbeat, the build of a frame with its content, and a frame sent whole (R60 to R62, R66, R77, R78). -/
def Obligations.FramesAreBuiltAndSent : Prop :=
  ∀ s : State,
    (s.tx.state = .idle → s.inService = true → (∃ e, s.tx.lastEnd = some e ∧ 10000 ≤ s.elapsed e) →
      exec .heartbeat s = .next { s with tx := { s.tx with state := .waiting } }) ∧
    ((s.tx.state ≠ .idle ∨ s.inService = false ∨ (∀ e, s.tx.lastEnd = some e → s.elapsed e < 10000)) →
      exec .heartbeat s = .next s) ∧
    (∀ quiet, s.tx.state = .waiting → 12 ≤ quiet → (∀ e, s.tx.lastEnd = some e → 50 ≤ s.elapsed e) →
      s.inService = true → exec (.frameBuild quiet) s = .next { s with
        outgoing := ((s.outgoing.take 8).map fun c => { c with held := true }) ++ s.outgoing.drop 8
        tx := { s.tx with state := .sending {
          sender := s.station.number
          epoch := s.station.epoch
          sequence := s.tx.sequence
          senderState := s.contentNow.senderState
          horizon := s.contentNow.horizon
          hold := s.contentNow.hold
          restart := s.contentNow.restart
          changes := (s.outgoing.take 8).map fun c => ChangeEntry.mk c.key.time c.key.source c.key.ordinal c.tie
            c.position c.cause c.quality c.carried } } }) ∧
    (∀ quiet, (s.tx.state ≠ .waiting ∨ quiet < 12 ∨ (∃ e, s.tx.lastEnd = some e ∧ s.elapsed e < 50) ∨
        s.inService = false) →
      exec (.frameBuild quiet) s = .next s) ∧
    (∀ f, s.tx.state = .sending f → ∃ t, exec .frameSentWhole s = .next t ∧
      t = { s with
        pendingQueue := s.pendingQueue.map fun x =>
          { x with announced := x.announced || s.outgoing.any fun c => c.held && c.key == x.key }
        outgoing := s.outgoing.filter fun c => !c.held
        horizon := t.horizon, tx := t.tx, station := t.station
        engine := { s.engine with completeOwed := t.engine.completeOwed }, clock := t.clock
        attention := t.attention } ∧
      ({ s with
        horizon := { s.horizon with ownAnnounced := some f.horizon }
        tx := {
          state := .idle, sequence := (s.tx.sequence + 1) % 256, failures := 0
          lastSent := some ⟨f.horizon, f.hold, f.restart, f.senderState⟩
          lastEnd := some s.station.time } }).ReformedToEnd t) ∧
    ((∀ f, s.tx.state ≠ .sending f) → exec .frameSentWhole s = .next s)

/-- Collisions and transmit errors with the mute of the sixteenth failure, the backoff count, and the expiries of a mute,
of a peer's silence and of the stall timer (R41, R63 to R65, R67, R89, R107). An expiry takes effect at its own row, which
does nothing before its time (log entry 12); the bit time of a mismatch and the quiet bits are operands (log entry 14);
a timer whose silence falls in a processing waits for it (log entry 22). A command that does not meet its transmitter
state, or whose bit time lies outside the frame, does nothing. -/
def Obligations.FailuresAndExpiriesTakeEffect : Prop :=
  ∀ s : State,
    (let abandoned := s.outgoing.map fun c => if c.held then { c with held := false, carried := true } else c
     ∀ f bit, s.tx.state = .sending f →
      (1 ≤ bit → bit ≤ 64 → s.tx.failures < 15 → exec (.collision bit) s = .next { s with
        outgoing := abandoned
        tx := { s.tx with failures := s.tx.failures + 1, state := .backoff ((s.station.number + 1) * 64) } }) ∧
      (64 < bit → bit ≤ 128 + 104 * f.changes.length → s.tx.failures < 15 →
        exec (.transmitError bit) s = .next { s with
          outgoing := abandoned
          tx := { s.tx with failures := s.tx.failures + 1, state := .waiting } }) ∧
      ∀ c, (c = .collision bit ∧ 1 ≤ bit ∧ bit ≤ 64 ∨
          c = .transmitError bit ∧ 64 < bit ∧ bit ≤ 128 + 104 * f.changes.length) → s.tx.failures = 15 →
        ∃ t, exec c s = .next t ∧
          t = { s with
            outgoing := abandoned
            tx := { s.tx with failures := 16, state := .muted (some 200000) }
            attention := t.attention } ∧
          (s.report .muted none).LinkFollows t) ∧
    (∀ bit, ((∀ f, s.tx.state ≠ .sending f) ∨ bit = 0 ∨ 64 < bit → exec (.collision bit) s = .next s) ∧
      ((∀ f, s.tx.state = .sending f → bit ≤ 64 ∨ 128 + 104 * f.changes.length < bit) →
        exec (.transmitError bit) s = .next s)) ∧
    (∀ quiet, (∀ n, s.tx.state ≠ .backoff n) → exec (.backoffDone quiet) s = .next s) ∧
    (∀ n quiet, s.tx.state = .backoff n → exec (.backoffDone quiet) s = .next { s with
      tx := { s.tx with state := if n ≤ quiet then .waiting else .backoff (n - quiet) } }) ∧
    (s.tx.state = .muted (some 0) → ∃ t, exec .muteExpiry s = .next t ∧
      t = { s with tx := { s.tx with state := .waiting, failures := 0 }, attention := t.attention } ∧
      s.LinkFollows t) ∧
    ((∀ n, s.tx.state = .muted n → n ≠ some 0) → exec .muteExpiry s = .next s) ∧
    (∀ (p : BitVec 4) (k : Nat), (s.peer p.toNat).state = .active → (s.peer p.toNat).silence = some k →
      (40000 ≤ k → (∀ pr, s.processing = some pr → pr.frame.sender = p.toNat → pr.tracked = true) →
        ∃ t, exec (.peerSilenceTimeout p) s = .next t ∧
          t = { s with peers := t.peers, attention := t.attention } ∧
          t.peer p.toNat = { s.peer p.toNat with state := .silent, silence := none } ∧
          (∀ n, n ≠ p.toNat → t.peer n = s.peer n) ∧ s.LinkFollows t) ∧
      (k < 40000 → exec (.peerSilenceTimeout p) s = .next s)) ∧
    (∀ p : BitVec 4, ((s.peer p.toNat).state ≠ .active ∨ (s.peer p.toNat).silence = none ∨
        ∃ pr, s.processing = some pr ∧ pr.frame.sender = p.toNat ∧ pr.tracked = false) →
      exec (.peerSilenceTimeout p) s = .next s) ∧
    (∀ k, s.clock.stallTimer = some k → 100000 ≤ k → exec .stallTimeout s = .next { s with
      clock := { s.clock with stall := true, stallTimer := none }
      attention := { s.attention with flags := { s.attention.flags with stall := true } } }) ∧
    ((∀ k, s.clock.stallTimer = some k → k < 100000) → exec .stallTimeout s = .next s)

/-- The fields of a frame are read most significant bit first (file 11), and the CRC is the complement of the check register
of R58. The receiver: after a quiet line a preamble out of rate or without its delimiter is a SYNC error, one in rate with it
opens a frame, and without a quiet line before it no preamble is taken (R56, R70); a frame cut short, one whose CRC does
not agree and one with a value that R156 names are CRC errors, as is one whose change count is above 8, after which the
receiver waits for a quiet line (R71); any other is the frame with each field of header and entries at its bits (FRAME
HEADER TABLE, CHANGE ENTRY TABLE); a good one is the station's own, a duplicate station's, dropped before commit,
placed in a buffer, or lost (R72 to R74). The line facts are operands (log entry 14). -/
def Obligations.TheReceiverChecksFrames : Prop :=
  (∃ register : Bits → BitVec 32, register [] = BitVec.allOnes 32 ∧
    (∀ bits b, register (bits ++ [b]) =
      if (register bits).msb = b then register bits <<< 1 else (register bits <<< 1) ^^^ 0x04C11DB7#32) ∧
    ∀ bits, crcOf bits = ~~~ register bits) ∧
  (∀ (bits : Bits) (start len : Nat), fieldAt bits start 0 = 0 ∧
    ∀ b, bits[start + len]? = some b → fieldAt bits start (len + 1) = 2 * fieldAt bits start len + b.toNat) ∧
  (∀ bits : Bits,
    let n := fieldAt bits 64 4
    let crcHolds := (crcOf (bits.take (72 + 104 * n))).toNat = fieldAt bits (72 + 104 * n) 32
    let valueBad := fieldAt bits 20 2 = 3 ∨
      ∃ i < n, 31 < fieldAt bits (72 + 104 * i + 40) 6 ∨ fieldAt bits (72 + 104 * i) 40 = 1099511627775
    (bits.length < 72 → receive bits = .bad) ∧
    (72 ≤ bits.length → 8 < n → receive bits = .badCount) ∧
    (72 ≤ bits.length → n ≤ 8 →
      (bits.length < 104 + 104 * n ∨ ¬ crcHolds ∨ valueBad → receive bits = .bad) ∧
      (104 + 104 * n ≤ bits.length → crcHolds → ¬ valueBad →
        ∃ f, receive bits = .good f ∧ f.sender = fieldAt bits 0 4 ∧ f.epoch = fieldAt bits 4 8 ∧
          f.sequence = fieldAt bits 12 8 ∧
          (f.senderState = .ready ↔ fieldAt bits 20 2 = 0) ∧ (f.senderState = .replaying ↔ fieldAt bits 20 2 = 1) ∧
          (f.senderState = .complete ↔ fieldAt bits 20 2 = 2) ∧ f.horizon = fieldAt bits 22 40 ∧
          (f.hold = true ↔ bits[62]? = some true) ∧ (f.restart = true ↔ bits[63]? = some true) ∧
          f.changes.length = n ∧
          ∀ i c, f.changes[i]? = some c →
            let start := 72 + 104 * i
            c.time = fieldAt bits start 40 ∧ c.source = fieldAt bits (start + 40) 6 ∧
            c.ordinal = fieldAt bits (start + 46) 32 ∧ c.tie = fieldAt bits (start + 78) 10 ∧
            (c.position = .opened ↔ fieldAt bits (start + 88) 2 = 0) ∧
            (c.position = .closed ↔ fieldAt bits (start + 88) 2 = 1) ∧
            (c.position = .intermediate ↔ fieldAt bits (start + 88) 2 = 2) ∧
            (c.position = .bad ↔ fieldAt bits (start + 88) 2 = 3) ∧
            c.cause = fieldAt bits (start + 90) 8 ∧ c.quality = fieldAt bits (start + 98) 2 ∧
            (c.carried = true ↔ bits[start + 100]? = some true)))) ∧
  ∀ s : State,
    (∀ (quiet preamble : Nat) (delimiter : Byte),
      let inRate := 1520000 ≤ preamble ∧ preamble ≤ 1680000 ∧ delimiter = Config.startDelimiter
      let searches := (s.rx.phase = .searching ∨ s.rx.phase = .awaitQuiet) ∧ 12 ≤ quiet
      (searches → ¬ inRate → ∃ t, exec (.syncReject ⟨quiet, preamble⟩ delimiter) s = .next t ∧
        ({ s with rx := { s.rx with phase := .awaitQuiet, sync := satSucc 65535 s.rx.sync } }).Reported t .sync none) ∧
      (searches → inRate → exec (.frameOpened ⟨quiet, preamble⟩ delimiter) s = .next { s with
        rx := { s.rx with phase := .sampling preamble } }) ∧
      (¬ searches ∨ inRate → exec (.syncReject ⟨quiet, preamble⟩ delimiter) s = .next s) ∧
      (¬ searches ∨ ¬ inRate → exec (.frameOpened ⟨quiet, preamble⟩ delimiter) s = .next s)) ∧
    (∀ (bits : Bits) (own : Bool), (∀ period, s.rx.phase ≠ .sampling period) →
      exec (.frameReceive bits own) s = .next s) ∧
    ∀ (period : Nat) (bits : Bits) (own : Bool), s.rx.phase = .sampling period →
      (receive bits = .bad → ∃ t, exec (.frameReceive bits own) s = .next t ∧
        ({ s with rx := { s.rx with phase := .searching, crc := satSucc 65535 s.rx.crc } }).Reported t .crc none) ∧
      (receive bits = .badCount → ∃ t, exec (.frameReceive bits own) s = .next t ∧
        ({ s with rx := { s.rx with phase := .awaitQuiet, crc := satSucc 65535 s.rx.crc } }).Reported t .crc none) ∧
      ∀ f, receive bits = .good f →
        (own = true → exec (.frameReceive bits own) s = .next { s with rx := { s.rx with phase := .searching } }) ∧
        (own = false → f.sender = s.station.number → ∃ t, exec (.frameReceive bits own) s = .next t ∧
          t = { s with
            rx := { s.rx with phase := .searching }
            outgoing := s.outgoing.map fun c => if c.held then { c with held := false, carried := true } else c
            tx := { s.tx with state := .muted none }
            attention := t.attention } ∧
          (s.report .dupStation none).LinkFollows t) ∧
        (own = false → f.sender ≠ s.station.number →
          (s.inService = false → exec (.frameReceive bits own) s = .next { s with
            rx := { s.rx with phase := .searching, good := satSucc 65535 s.rx.good } }) ∧
          (s.inService = true → s.rx.buffers.length < 2 → exec (.frameReceive bits own) s = .next { s with
            rx := { s.rx with phase := .searching, good := satSucc 65535 s.rx.good, buffers := s.rx.buffers ++ [f] } }) ∧
          (s.inService = true → 2 ≤ s.rx.buffers.length → ∃ t, exec (.frameReceive bits own) s = .next t ∧
            ({ s with rx := { s.rx with phase := .searching, overrun := satSucc 65535 s.rx.overrun } }).Reported t
              .rxOverrun none))

/-! ## The peer table -/

/-- A frame of the own epoch, in order or a repeat, from a peer AWAITED, ACTIVE, SILENT or FOREIGN_EPOCH is accepted: the
peer is ACTIVE with the next sequence expected; once no change entry is left its horizon, END, requests and silence
timer are taken and its buffer is freed (R79, R81, R83, R88), with the completion test of R124. The operand is the number
of change entries that the row takes (log entry 19): a row that begins the frame and takes `n` entries does in one act what
the row that only begins it and a row of `n` entries do. A row does nothing while a LATE change handed over is still to be
applied (R85, log entry 18), and none begins without a buffered frame or before commit. No command waits here (one that
waits: `CommandsWaitAndAreTested`). -/
def Obligations.AcceptedFramesAreTaken : Prop :=
  ∀ (s : State) (f : Frame), s.console.inFlight = none → f.sender < 16 →
    let p := s.peer f.sender
    let again := p.expectedSeq = some ((f.sequence + 1) % 256)
    let accepted : Peer := { p with
      state := .active
      lastEpoch := f.epoch
      frames := satSucc 65535 p.frames
      expectedSeq := if again then p.expectedSeq else some ((f.sequence + 1) % 256) }
    (∀ rest, s.rx.buffers = f :: rest → s.inService = true → s.processing = none → f.epoch = s.station.epoch →
      f.sequence < 256 → (p.state = .awaited ∨ p.state = .active ∨ p.state = .silent ∨ p.state = .foreignEpoch) →
      (p.expectedSeq = none ∨ p.expectedSeq = some f.sequence ∨ again) →
      (f.changes ≠ [] → ∃ t, exec (.frameProcessing 0) s = .next t ∧
        s.FrameStands s f accepted ⟨f, f.changes, false, none⟩ t ∧ t.remotes = s.remotes ∧
        (s.engine.apply = none → ∀ n u, exec (.frameProcessing n) t = .next u →
          ∃ v, exec (.frameProcessing n) s = .next v ∧ s.SameInOneRow u v)) ∧
      (f.changes = [] → ∀ n, ∃ t, exec (.frameProcessing n) s = .next t ∧
        s.FrameEnds (s.backstepReported f p.horizon) f (accepted.afterFrame f) t ∧ t.remotes = s.remotes)) ∧
    (s.processing = some ⟨f, [], false, none⟩ → s.engine.apply = none →
      ∀ n, ∃ t, exec (.frameProcessing n) s = .next t ∧
        s.FrameEnds (s.backstepReported f p.horizon) f (p.afterFrame f) t ∧ t.remotes = s.remotes) ∧
    (∀ pr, s.processing = some pr → (pr.handOver.isSome = true ∨ s.engine.apply.isSome = true) →
      ∀ n, exec (.frameProcessing n) s = .next s) ∧
    (s.processing = none → (s.rx.buffers = [] ∨ s.inService = false) → ∀ n, exec (.frameProcessing n) s = .next s)

/-- One change entry, the last one of its frame or not, of a frame accepted (`tracked` false) or taken while EXCLUDED
(`tracked` true): ignored, a TIE_CONFLICT, ignored as CARRIED and passed; else, where EXCLUDED, discarded and counted;
else LATE, ignored as listed, overflowing, or inserted (R84 to R88, R92). The order of the last two tests before the room
test is log entry 20; that an overflow stores the frame's hold request and sender state, and reports no HORIZON_BACKSTEP,
is log entry 21. A row of `n + 1` entries does in one act what the row of one entry and then, where the processing still
stands with nothing handed over, a row of `n` do; elsewhere it is the row of one entry (log entry 19). -/
def Obligations.ChangeEntriesAreRouted : Prop :=
  ∀ (s : State) (f : Frame) (c : ChangeEntry) (cs : List ChangeEntry) (tracked : Bool),
    s.processing = some ⟨f, c :: cs, tracked, none⟩ → s.engine.apply = none → s.console.inFlight = none →
    f.sender < 16 →
    let p := s.peer f.sender
    let k : Key := ⟨c.time, f.sender, c.source, c.ordinal⟩
    let passed := ∃ rp, s.engine.releasePoint = some rp ∧ k.lt rp = true
    let taken := c.carried = true ∧ ∃ rp, s.engine.releasePoint = some rp ∧ (k.lt rp = true ∨ k = rp)
    let listed := ∃ r ∈ s.remotes, r.key = k
    ∃ t, exec (.frameProcessing 1) s = .next t ∧
      (∀ pr, t.processing = some pr → pr.handOver = none → ∀ n u, exec (.frameProcessing n) t = .next u →
        ∃ v, exec (.frameProcessing (n + 1)) s = .next v ∧ s.SameInOneRow u v) ∧
      ((∀ pr, t.processing = some pr → pr.handOver.isSome = true) → ∀ n, exec (.frameProcessing (n + 1)) s = .next t) ∧
      let ignored := s.EntryPassed s f tracked cs p t ∧ t.remotes = s.remotes
      let conflict (n : Nat) := t.remotes = s.remotes ∧
        s.EntryPassed (s.report .tieConflict (some n)) f tracked cs { p with errors := satSucc 65535 p.errors } t
      (s.tieElement c.tie = none → ignored) ∧
      ∀ n e, s.tieElement c.tie = some (n, e) →
        (e.ownership = .localOnly → ignored) ∧
        ((∃ tie o, e.ownership = .mirror tie o ∧ o ≠ f.sender) → conflict n) ∧
        ((∃ tie, e.ownership = .localTie tie) → conflict n) ∧
        ((∃ tie, e.ownership = .mirror tie f.sender) →
          (taken → ignored) ∧
          (tracked = true → ¬ taken → t.remotes = s.remotes ∧
            s.EntryPassed s f tracked cs { p with discarded := satSucc 65535 p.discarded } t) ∧
          (tracked = false → ¬ taken → passed → t.remotes = s.remotes ∧
            s.FrameStands (s.report .lateRemote (some f.sender)) f { p with
              changes := satSucc 65535 p.changes, errors := satSucc 65535 p.errors }
              ⟨f, cs, false, some ⟨k, n, c.tie, c.position, c.cause, c.quality⟩⟩ t) ∧
          (tracked = false → ¬ taken → ¬ passed → listed → ignored) ∧
          (tracked = false → ¬ taken → ¬ passed → ¬ listed → 512 ≤ s.remotes.length → t.remotes = s.remotes ∧
            s.FrameEnds (s.report .remoteOverflow (some f.sender)) f { p with
              state := .desync
              silence := none
              horizon := min p.horizon c.time
              hold := f.hold
              senderState := some f.senderState
              errors := satSucc 65535 p.errors } t) ∧
          (tracked = false → ¬ taken → ¬ passed → ¬ listed → s.remotes.length < 512 →
            t.remotes = insertByKey RemoteEntry.key ⟨k, n, c.tie, c.position, c.cause, c.quality⟩ s.remotes ∧
            s.EntryPassed s f tracked cs { p with changes := satSucc 65535 p.changes } t))

/-- A frame of another epoch, one whose restart is followed, one after a gap, and the frames of a NOT_EXPECTED, DESYNC,
EXCLUDED or ENDED peer (R82, R83, R88, R92, R152). What of an ENDED peer's frame is stored, and that a NOT_EXPECTED peer's
frame stores its epoch alone, is log entry 21; a row that begins an EXCLUDED peer's frame and takes `n` entries does in
one act what the row that only begins it and a row of `n` entries do (log entry 19); which peers a followed restart makes
AWAITED takes bit n of the expected peer mask as station n (log entry 9). -/
def Obligations.OtherFramesAreTaken : Prop :=
  ∀ (s : State) (f : Frame) (rest : List Frame), s.processing = none → s.rx.buffers = f :: rest →
    s.inService = true → s.console.inFlight = none → f.sender < 16 → f.sequence < 256 → s.station.epoch < 256 →
    let p := s.peer f.sender
    let ahead := (f.epoch + 256 - s.station.epoch) % 256
    let follows := f.restart = true ∧ s.settings.follow = true ∧ 1 ≤ ahead ∧ ahead ≤ 127
    let counted : Peer := { p with frames := satSucc 65535 p.frames, lastEpoch := f.epoch }
    let next := some ((f.sequence + 1) % 256)
    let inOrder := p.expectedSeq = none ∨ p.expectedSeq = some f.sequence
    let again := p.expectedSeq = some ((f.sequence + 1) % 256)
    let gap := ∃ e, p.expectedSeq = some e ∧ e < 256 ∧ e ≠ f.sequence ∧ e ≠ (f.sequence + 1) % 256
    let leaves (n : Nat) (w : State) (q : Peer) : Prop :=
      ∃ t, exec (.frameProcessing n) s = .next t ∧ s.FrameEnds w f q t ∧ t.remotes = s.remotes
    let lateReports : State := (fun u => u.report .lateRemote (some f.sender))^[f.changes.length] s
    (∀ n, f.epoch ≠ s.station.epoch → ¬ follows → leaves n s (if p.counted = true ∧ p.state ≠ .desync then
      { counted with state := .foreignEpoch, hold := false, silence := none } else counted)) ∧
    (∀ n, f.epoch ≠ s.station.epoch → follows → ∃ t, exec (.frameProcessing n) s = .next t ∧
      (s.setPeer f.sender { p with frames := satSucc 65535 p.frames }).Restarted t f.epoch false ∧
      t.console = { s.console with skew := none } ∧
      t.delivery = { s.delivery with
        queue := [⟨f.epoch, .restarted (.peer f.sender) s.station.epoch f.epoch s.settings.startTime⟩] }) ∧
    (f.epoch = s.station.epoch →
      (∀ n, p.state = .awaited ∨ p.state = .active ∨ p.state = .silent ∨ p.state = .foreignEpoch → gap →
        leaves n (s.report .frameGap (some f.sender)) { counted with
          state := .desync, silence := none, senderState := some f.senderState, errors := satSucc 65535 p.errors }) ∧
      (∀ n, p.state = .notExpected → leaves n s counted) ∧
      (∀ n, p.state = .desync → leaves n s { counted with hold := f.hold, senderState := some f.senderState }) ∧
      (p.state = .excluded →
        let q : Peer := { counted with
          expectedSeq := if again then p.expectedSeq else next
          discarded := if inOrder ∨ again then p.discarded else satSucc 65535 p.discarded }
        (inOrder ∨ again ∨ gap) →
        (f.changes = [] → ∀ n, leaves n (s.backstepReported f p.horizon) (q.afterTracked f)) ∧
        (f.changes ≠ [] → ∃ t, exec (.frameProcessing 0) s = .next t ∧
          s.FrameStands s f q ⟨f, f.changes, true, none⟩ t ∧ t.remotes = s.remotes ∧
          (s.engine.apply = none → ∀ n u, exec (.frameProcessing n) t = .next u →
            ∃ v, exec (.frameProcessing n) s = .next v ∧ s.SameInOneRow u v))) ∧
      (∀ n, p.state = .ended →
        (inOrder → leaves n lateReports { counted with
          expectedSeq := next, senderState := some f.senderState
          errors := (satSucc 65535)^[f.changes.length] p.errors }) ∧
        (again → leaves n s { counted with senderState := some f.senderState }) ∧
        (gap → leaves n s { counted with expectedSeq := next, senderState := some f.senderState })))
end

