-- ==== Sys2Proof/Laws/State.lean ====
section
/-! SUPPORT. The updates that the blocks share, field by field: what each leaves as it was, and what it writes. -/

namespace Sys2Proof.Machine

/-! ## Tables -/

@[simp] theorem State.setSource_station (s : State) (n : Nat) (r : Source) : (s.setSource n r).station = s.station := rfl
@[simp] theorem State.setSource_settings (s : State) (n : Nat) (r : Source) : (s.setSource n r).settings = s.settings := rfl
@[simp] theorem State.setSource_feed (s : State) (n : Nat) (r : Source) : (s.setSource n r).feed = s.feed := rfl
@[simp] theorem State.setSource_points (s : State) (n : Nat) (r : Source) : (s.setSource n r).points = s.points := rfl
@[simp] theorem State.setSource_elements (s : State) (n : Nat) (r : Source) : (s.setSource n r).elements = s.elements := rfl
@[simp] theorem State.setSource_pendingQueue (s : State) (n : Nat) (r : Source) : (s.setSource n r).pendingQueue = s.pendingQueue := rfl
@[simp] theorem State.setSource_outgoing (s : State) (n : Nat) (r : Source) : (s.setSource n r).outgoing = s.outgoing := rfl
@[simp] theorem State.setSource_remotes (s : State) (n : Nat) (r : Source) : (s.setSource n r).remotes = s.remotes := rfl
@[simp] theorem State.setSource_timers (s : State) (n : Nat) (r : Source) : (s.setSource n r).timers = s.timers := rfl
@[simp] theorem State.setSource_engine (s : State) (n : Nat) (r : Source) : (s.setSource n r).engine = s.engine := rfl
@[simp] theorem State.setSource_islands (s : State) (n : Nat) (r : Source) : (s.setSource n r).islands = s.islands := rfl
@[simp] theorem State.setSource_peers (s : State) (n : Nat) (r : Source) : (s.setSource n r).peers = s.peers := rfl
@[simp] theorem State.setSource_processing (s : State) (n : Nat) (r : Source) : (s.setSource n r).processing = s.processing := rfl
@[simp] theorem State.setSource_horizon (s : State) (n : Nat) (r : Source) : (s.setSource n r).horizon = s.horizon := rfl
@[simp] theorem State.setSource_clock (s : State) (n : Nat) (r : Source) : (s.setSource n r).clock = s.clock := rfl
@[simp] theorem State.setSource_tx (s : State) (n : Nat) (r : Source) : (s.setSource n r).tx = s.tx := rfl
@[simp] theorem State.setSource_rx (s : State) (n : Nat) (r : Source) : (s.setSource n r).rx = s.rx := rfl
@[simp] theorem State.setSource_delivery (s : State) (n : Nat) (r : Source) : (s.setSource n r).delivery = s.delivery := rfl
@[simp] theorem State.setSource_console (s : State) (n : Nat) (r : Source) : (s.setSource n r).console = s.console := rfl
@[simp] theorem State.setSource_attention (s : State) (n : Nat) (r : Source) : (s.setSource n r).attention = s.attention := rfl
@[simp] theorem State.setSource_freeCount (s : State) (n : Nat) (r : Source) : (s.setSource n r).freeCount = s.freeCount := rfl
@[simp] theorem State.setSource_pending (s : State) (n : Nat) (r : Source) : (s.setSource n r).pending = s.pending := rfl

@[simp] theorem State.setPeer_station (s : State) (n : Nat) (p : Peer) : (s.setPeer n p).station = s.station := rfl
@[simp] theorem State.setPeer_settings (s : State) (n : Nat) (p : Peer) : (s.setPeer n p).settings = s.settings := rfl
@[simp] theorem State.setPeer_feed (s : State) (n : Nat) (p : Peer) : (s.setPeer n p).feed = s.feed := rfl
@[simp] theorem State.setPeer_sources (s : State) (n : Nat) (p : Peer) : (s.setPeer n p).sources = s.sources := rfl
@[simp] theorem State.setPeer_points (s : State) (n : Nat) (p : Peer) : (s.setPeer n p).points = s.points := rfl
@[simp] theorem State.setPeer_elements (s : State) (n : Nat) (p : Peer) : (s.setPeer n p).elements = s.elements := rfl
@[simp] theorem State.setPeer_pendingQueue (s : State) (n : Nat) (p : Peer) : (s.setPeer n p).pendingQueue = s.pendingQueue := rfl
@[simp] theorem State.setPeer_outgoing (s : State) (n : Nat) (p : Peer) : (s.setPeer n p).outgoing = s.outgoing := rfl
@[simp] theorem State.setPeer_remotes (s : State) (n : Nat) (p : Peer) : (s.setPeer n p).remotes = s.remotes := rfl
@[simp] theorem State.setPeer_timers (s : State) (n : Nat) (p : Peer) : (s.setPeer n p).timers = s.timers := rfl
@[simp] theorem State.setPeer_engine (s : State) (n : Nat) (p : Peer) : (s.setPeer n p).engine = s.engine := rfl
@[simp] theorem State.setPeer_islands (s : State) (n : Nat) (p : Peer) : (s.setPeer n p).islands = s.islands := rfl
@[simp] theorem State.setPeer_processing (s : State) (n : Nat) (p : Peer) : (s.setPeer n p).processing = s.processing := rfl
@[simp] theorem State.setPeer_horizon (s : State) (n : Nat) (p : Peer) : (s.setPeer n p).horizon = s.horizon := rfl
@[simp] theorem State.setPeer_clock (s : State) (n : Nat) (p : Peer) : (s.setPeer n p).clock = s.clock := rfl
@[simp] theorem State.setPeer_tx (s : State) (n : Nat) (p : Peer) : (s.setPeer n p).tx = s.tx := rfl
@[simp] theorem State.setPeer_rx (s : State) (n : Nat) (p : Peer) : (s.setPeer n p).rx = s.rx := rfl
@[simp] theorem State.setPeer_delivery (s : State) (n : Nat) (p : Peer) : (s.setPeer n p).delivery = s.delivery := rfl
@[simp] theorem State.setPeer_console (s : State) (n : Nat) (p : Peer) : (s.setPeer n p).console = s.console := rfl
@[simp] theorem State.setPeer_attention (s : State) (n : Nat) (p : Peer) : (s.setPeer n p).attention = s.attention := rfl
@[simp] theorem State.setPeer_freeCount (s : State) (n : Nat) (p : Peer) : (s.setPeer n p).freeCount = s.freeCount := rfl
@[simp] theorem State.setPeer_pending (s : State) (n : Nat) (p : Peer) : (s.setPeer n p).pending = s.pending := rfl

@[simp] theorem State.setElement_station (s : State) (n : Nat) (e : Element) : (s.setElement n e).station = s.station := rfl
@[simp] theorem State.setElement_settings (s : State) (n : Nat) (e : Element) : (s.setElement n e).settings = s.settings := rfl
@[simp] theorem State.setElement_feed (s : State) (n : Nat) (e : Element) : (s.setElement n e).feed = s.feed := rfl
@[simp] theorem State.setElement_sources (s : State) (n : Nat) (e : Element) : (s.setElement n e).sources = s.sources := rfl
@[simp] theorem State.setElement_points (s : State) (n : Nat) (e : Element) : (s.setElement n e).points = s.points := rfl
@[simp] theorem State.setElement_pendingQueue (s : State) (n : Nat) (e : Element) : (s.setElement n e).pendingQueue = s.pendingQueue := rfl
@[simp] theorem State.setElement_outgoing (s : State) (n : Nat) (e : Element) : (s.setElement n e).outgoing = s.outgoing := rfl
@[simp] theorem State.setElement_remotes (s : State) (n : Nat) (e : Element) : (s.setElement n e).remotes = s.remotes := rfl
@[simp] theorem State.setElement_timers (s : State) (n : Nat) (e : Element) : (s.setElement n e).timers = s.timers := rfl
@[simp] theorem State.setElement_engine (s : State) (n : Nat) (e : Element) : (s.setElement n e).engine = s.engine := rfl
@[simp] theorem State.setElement_islands (s : State) (n : Nat) (e : Element) : (s.setElement n e).islands = s.islands := rfl
@[simp] theorem State.setElement_peers (s : State) (n : Nat) (e : Element) : (s.setElement n e).peers = s.peers := rfl
@[simp] theorem State.setElement_processing (s : State) (n : Nat) (e : Element) : (s.setElement n e).processing = s.processing := rfl
@[simp] theorem State.setElement_horizon (s : State) (n : Nat) (e : Element) : (s.setElement n e).horizon = s.horizon := rfl
@[simp] theorem State.setElement_clock (s : State) (n : Nat) (e : Element) : (s.setElement n e).clock = s.clock := rfl
@[simp] theorem State.setElement_tx (s : State) (n : Nat) (e : Element) : (s.setElement n e).tx = s.tx := rfl
@[simp] theorem State.setElement_rx (s : State) (n : Nat) (e : Element) : (s.setElement n e).rx = s.rx := rfl
@[simp] theorem State.setElement_delivery (s : State) (n : Nat) (e : Element) : (s.setElement n e).delivery = s.delivery := rfl
@[simp] theorem State.setElement_console (s : State) (n : Nat) (e : Element) : (s.setElement n e).console = s.console := rfl
@[simp] theorem State.setElement_attention (s : State) (n : Nat) (e : Element) : (s.setElement n e).attention = s.attention := rfl
@[simp] theorem State.setElement_freeCount (s : State) (n : Nat) (e : Element) : (s.setElement n e).freeCount = s.freeCount := rfl
@[simp] theorem State.setElement_pending (s : State) (n : Nat) (e : Element) : (s.setElement n e).pending = s.pending := rfl

/-! ## Delivery queue, feed port, station, relabel, timers -/

@[simp] theorem State.enqueue_station (s : State) (b : RecordBody) : (s.enqueue b).station = s.station := rfl
@[simp] theorem State.enqueue_settings (s : State) (b : RecordBody) : (s.enqueue b).settings = s.settings := rfl
@[simp] theorem State.enqueue_feed (s : State) (b : RecordBody) : (s.enqueue b).feed = s.feed := rfl
@[simp] theorem State.enqueue_sources (s : State) (b : RecordBody) : (s.enqueue b).sources = s.sources := rfl
@[simp] theorem State.enqueue_points (s : State) (b : RecordBody) : (s.enqueue b).points = s.points := rfl
@[simp] theorem State.enqueue_elements (s : State) (b : RecordBody) : (s.enqueue b).elements = s.elements := rfl
@[simp] theorem State.enqueue_pendingQueue (s : State) (b : RecordBody) : (s.enqueue b).pendingQueue = s.pendingQueue := rfl
@[simp] theorem State.enqueue_outgoing (s : State) (b : RecordBody) : (s.enqueue b).outgoing = s.outgoing := rfl
@[simp] theorem State.enqueue_remotes (s : State) (b : RecordBody) : (s.enqueue b).remotes = s.remotes := rfl
@[simp] theorem State.enqueue_timers (s : State) (b : RecordBody) : (s.enqueue b).timers = s.timers := rfl
@[simp] theorem State.enqueue_engine (s : State) (b : RecordBody) : (s.enqueue b).engine = s.engine := rfl
@[simp] theorem State.enqueue_islands (s : State) (b : RecordBody) : (s.enqueue b).islands = s.islands := rfl
@[simp] theorem State.enqueue_peers (s : State) (b : RecordBody) : (s.enqueue b).peers = s.peers := rfl
@[simp] theorem State.enqueue_processing (s : State) (b : RecordBody) : (s.enqueue b).processing = s.processing := rfl
@[simp] theorem State.enqueue_horizon (s : State) (b : RecordBody) : (s.enqueue b).horizon = s.horizon := rfl
@[simp] theorem State.enqueue_clock (s : State) (b : RecordBody) : (s.enqueue b).clock = s.clock := rfl
@[simp] theorem State.enqueue_tx (s : State) (b : RecordBody) : (s.enqueue b).tx = s.tx := rfl
@[simp] theorem State.enqueue_rx (s : State) (b : RecordBody) : (s.enqueue b).rx = s.rx := rfl
@[simp] theorem State.enqueue_console (s : State) (b : RecordBody) : (s.enqueue b).console = s.console := rfl
@[simp] theorem State.enqueue_attention (s : State) (b : RecordBody) : (s.enqueue b).attention = s.attention := rfl
@[simp] theorem State.enqueue_freeCount (s : State) (b : RecordBody) : (s.enqueue b).freeCount = s.freeCount := rfl
@[simp] theorem State.enqueue_pending (s : State) (b : RecordBody) : (s.enqueue b).pending = s.pending := rfl

@[simp] theorem State.enqueue_queue (s : State) (b : RecordBody) :
    (s.enqueue b).delivery.queue = s.delivery.queue ++ [⟨s.station.epoch, b⟩] := rfl
@[simp] theorem State.enqueue_sending (s : State) (b : RecordBody) :
    (s.enqueue b).delivery.sending = s.delivery.sending := rfl
@[simp] theorem State.enqueue_ready (s : State) (b : RecordBody) :
    (s.enqueue b).delivery.ready = s.delivery.ready := rfl

@[simp] theorem State.placeAnswer_station (s : State) (a : Answer) : (s.placeAnswer a).station = s.station := rfl
@[simp] theorem State.placeAnswer_settings (s : State) (a : Answer) : (s.placeAnswer a).settings = s.settings := rfl
@[simp] theorem State.placeAnswer_sources (s : State) (a : Answer) : (s.placeAnswer a).sources = s.sources := rfl
@[simp] theorem State.placeAnswer_points (s : State) (a : Answer) : (s.placeAnswer a).points = s.points := rfl
@[simp] theorem State.placeAnswer_elements (s : State) (a : Answer) : (s.placeAnswer a).elements = s.elements := rfl
@[simp] theorem State.placeAnswer_pendingQueue (s : State) (a : Answer) : (s.placeAnswer a).pendingQueue = s.pendingQueue := rfl
@[simp] theorem State.placeAnswer_outgoing (s : State) (a : Answer) : (s.placeAnswer a).outgoing = s.outgoing := rfl
@[simp] theorem State.placeAnswer_remotes (s : State) (a : Answer) : (s.placeAnswer a).remotes = s.remotes := rfl
@[simp] theorem State.placeAnswer_timers (s : State) (a : Answer) : (s.placeAnswer a).timers = s.timers := rfl
@[simp] theorem State.placeAnswer_engine (s : State) (a : Answer) : (s.placeAnswer a).engine = s.engine := rfl
@[simp] theorem State.placeAnswer_islands (s : State) (a : Answer) : (s.placeAnswer a).islands = s.islands := rfl
@[simp] theorem State.placeAnswer_peers (s : State) (a : Answer) : (s.placeAnswer a).peers = s.peers := rfl
@[simp] theorem State.placeAnswer_processing (s : State) (a : Answer) : (s.placeAnswer a).processing = s.processing := rfl
@[simp] theorem State.placeAnswer_horizon (s : State) (a : Answer) : (s.placeAnswer a).horizon = s.horizon := rfl
@[simp] theorem State.placeAnswer_clock (s : State) (a : Answer) : (s.placeAnswer a).clock = s.clock := rfl
@[simp] theorem State.placeAnswer_tx (s : State) (a : Answer) : (s.placeAnswer a).tx = s.tx := rfl
@[simp] theorem State.placeAnswer_rx (s : State) (a : Answer) : (s.placeAnswer a).rx = s.rx := rfl
@[simp] theorem State.placeAnswer_delivery (s : State) (a : Answer) : (s.placeAnswer a).delivery = s.delivery := rfl
@[simp] theorem State.placeAnswer_console (s : State) (a : Answer) : (s.placeAnswer a).console = s.console := rfl
@[simp] theorem State.placeAnswer_attention (s : State) (a : Answer) : (s.placeAnswer a).attention = s.attention := rfl
@[simp] theorem State.placeAnswer_freeCount (s : State) (a : Answer) : (s.placeAnswer a).freeCount = s.freeCount := rfl
@[simp] theorem State.placeAnswer_pending (s : State) (a : Answer) : (s.placeAnswer a).pending = s.pending := rfl

@[simp] theorem State.placeAnswer_feed (s : State) (a : Answer) : (s.placeAnswer a).feed = ⟨.ready, some a, none⟩ := rfl

@[simp] theorem State.toLoading_settings (s : State) : (s.toLoading).settings = s.settings := rfl
@[simp] theorem State.toLoading_feed (s : State) : (s.toLoading).feed = s.feed := rfl
@[simp] theorem State.toLoading_sources (s : State) : (s.toLoading).sources = s.sources := rfl
@[simp] theorem State.toLoading_points (s : State) : (s.toLoading).points = s.points := rfl
@[simp] theorem State.toLoading_elements (s : State) : (s.toLoading).elements = s.elements := rfl
@[simp] theorem State.toLoading_pendingQueue (s : State) : (s.toLoading).pendingQueue = s.pendingQueue := rfl
@[simp] theorem State.toLoading_outgoing (s : State) : (s.toLoading).outgoing = s.outgoing := rfl
@[simp] theorem State.toLoading_remotes (s : State) : (s.toLoading).remotes = s.remotes := rfl
@[simp] theorem State.toLoading_timers (s : State) : (s.toLoading).timers = s.timers := rfl
@[simp] theorem State.toLoading_engine (s : State) : (s.toLoading).engine = s.engine := rfl
@[simp] theorem State.toLoading_islands (s : State) : (s.toLoading).islands = s.islands := rfl
@[simp] theorem State.toLoading_peers (s : State) : (s.toLoading).peers = s.peers := rfl
@[simp] theorem State.toLoading_processing (s : State) : (s.toLoading).processing = s.processing := rfl
@[simp] theorem State.toLoading_horizon (s : State) : (s.toLoading).horizon = s.horizon := rfl
@[simp] theorem State.toLoading_clock (s : State) : (s.toLoading).clock = s.clock := rfl
@[simp] theorem State.toLoading_tx (s : State) : (s.toLoading).tx = s.tx := rfl
@[simp] theorem State.toLoading_rx (s : State) : (s.toLoading).rx = s.rx := rfl
@[simp] theorem State.toLoading_delivery (s : State) : (s.toLoading).delivery = s.delivery := rfl
@[simp] theorem State.toLoading_console (s : State) : (s.toLoading).console = s.console := rfl
@[simp] theorem State.toLoading_attention (s : State) : (s.toLoading).attention = s.attention := rfl
@[simp] theorem State.toLoading_freeCount (s : State) : (s.toLoading).freeCount = s.freeCount := rfl
@[simp] theorem State.toLoading_pending (s : State) : (s.toLoading).pending = s.pending := rfl

@[simp] theorem State.startRelabel_station (s : State) (c : RelabelCause) : (s.startRelabel c).station = s.station := rfl
@[simp] theorem State.startRelabel_settings (s : State) (c : RelabelCause) : (s.startRelabel c).settings = s.settings := rfl
@[simp] theorem State.startRelabel_feed (s : State) (c : RelabelCause) : (s.startRelabel c).feed = s.feed := rfl
@[simp] theorem State.startRelabel_sources (s : State) (c : RelabelCause) : (s.startRelabel c).sources = s.sources := rfl
@[simp] theorem State.startRelabel_points (s : State) (c : RelabelCause) : (s.startRelabel c).points = s.points := rfl
@[simp] theorem State.startRelabel_elements (s : State) (c : RelabelCause) : (s.startRelabel c).elements = s.elements := rfl
@[simp] theorem State.startRelabel_pendingQueue (s : State) (c : RelabelCause) : (s.startRelabel c).pendingQueue = s.pendingQueue := rfl
@[simp] theorem State.startRelabel_outgoing (s : State) (c : RelabelCause) : (s.startRelabel c).outgoing = s.outgoing := rfl
@[simp] theorem State.startRelabel_remotes (s : State) (c : RelabelCause) : (s.startRelabel c).remotes = s.remotes := rfl
@[simp] theorem State.startRelabel_timers (s : State) (c : RelabelCause) : (s.startRelabel c).timers = s.timers := rfl
@[simp] theorem State.startRelabel_engine (s : State) (c : RelabelCause) : (s.startRelabel c).engine = s.engine := rfl
@[simp] theorem State.startRelabel_peers (s : State) (c : RelabelCause) : (s.startRelabel c).peers = s.peers := rfl
@[simp] theorem State.startRelabel_processing (s : State) (c : RelabelCause) : (s.startRelabel c).processing = s.processing := rfl
@[simp] theorem State.startRelabel_horizon (s : State) (c : RelabelCause) : (s.startRelabel c).horizon = s.horizon := rfl
@[simp] theorem State.startRelabel_clock (s : State) (c : RelabelCause) : (s.startRelabel c).clock = s.clock := rfl
@[simp] theorem State.startRelabel_tx (s : State) (c : RelabelCause) : (s.startRelabel c).tx = s.tx := rfl
@[simp] theorem State.startRelabel_rx (s : State) (c : RelabelCause) : (s.startRelabel c).rx = s.rx := rfl
@[simp] theorem State.startRelabel_delivery (s : State) (c : RelabelCause) : (s.startRelabel c).delivery = s.delivery := rfl
@[simp] theorem State.startRelabel_console (s : State) (c : RelabelCause) : (s.startRelabel c).console = s.console := rfl
@[simp] theorem State.startRelabel_attention (s : State) (c : RelabelCause) : (s.startRelabel c).attention = s.attention := rfl
@[simp] theorem State.startRelabel_freeCount (s : State) (c : RelabelCause) : (s.startRelabel c).freeCount = s.freeCount := rfl
@[simp] theorem State.startRelabel_pending (s : State) (c : RelabelCause) : (s.startRelabel c).pending = s.pending := rfl

@[simp] theorem State.setTimer_station (s : State) (k n t : Nat) : (s.setTimer k n t).station = s.station := rfl
@[simp] theorem State.setTimer_settings (s : State) (k n t : Nat) : (s.setTimer k n t).settings = s.settings := rfl
@[simp] theorem State.setTimer_feed (s : State) (k n t : Nat) : (s.setTimer k n t).feed = s.feed := rfl
@[simp] theorem State.setTimer_sources (s : State) (k n t : Nat) : (s.setTimer k n t).sources = s.sources := rfl
@[simp] theorem State.setTimer_points (s : State) (k n t : Nat) : (s.setTimer k n t).points = s.points := rfl
@[simp] theorem State.setTimer_elements (s : State) (k n t : Nat) : (s.setTimer k n t).elements = s.elements := rfl
@[simp] theorem State.setTimer_pendingQueue (s : State) (k n t : Nat) : (s.setTimer k n t).pendingQueue = s.pendingQueue := rfl
@[simp] theorem State.setTimer_outgoing (s : State) (k n t : Nat) : (s.setTimer k n t).outgoing = s.outgoing := rfl
@[simp] theorem State.setTimer_remotes (s : State) (k n t : Nat) : (s.setTimer k n t).remotes = s.remotes := rfl
@[simp] theorem State.setTimer_engine (s : State) (k n t : Nat) : (s.setTimer k n t).engine = s.engine := rfl
@[simp] theorem State.setTimer_islands (s : State) (k n t : Nat) : (s.setTimer k n t).islands = s.islands := rfl
@[simp] theorem State.setTimer_peers (s : State) (k n t : Nat) : (s.setTimer k n t).peers = s.peers := rfl
@[simp] theorem State.setTimer_processing (s : State) (k n t : Nat) : (s.setTimer k n t).processing = s.processing := rfl
@[simp] theorem State.setTimer_horizon (s : State) (k n t : Nat) : (s.setTimer k n t).horizon = s.horizon := rfl
@[simp] theorem State.setTimer_clock (s : State) (k n t : Nat) : (s.setTimer k n t).clock = s.clock := rfl
@[simp] theorem State.setTimer_tx (s : State) (k n t : Nat) : (s.setTimer k n t).tx = s.tx := rfl
@[simp] theorem State.setTimer_rx (s : State) (k n t : Nat) : (s.setTimer k n t).rx = s.rx := rfl
@[simp] theorem State.setTimer_delivery (s : State) (k n t : Nat) : (s.setTimer k n t).delivery = s.delivery := rfl
@[simp] theorem State.setTimer_console (s : State) (k n t : Nat) : (s.setTimer k n t).console = s.console := rfl
@[simp] theorem State.setTimer_attention (s : State) (k n t : Nat) : (s.setTimer k n t).attention = s.attention := rfl
@[simp] theorem State.setTimer_freeCount (s : State) (k n t : Nat) : (s.setTimer k n t).freeCount = s.freeCount := rfl
@[simp] theorem State.setTimer_pending (s : State) (k n t : Nat) : (s.setTimer k n t).pending = s.pending := rfl

@[simp] theorem State.cancelTimer_station (s : State) (k n : Nat) : (s.cancelTimer k n).station = s.station := rfl
@[simp] theorem State.cancelTimer_settings (s : State) (k n : Nat) : (s.cancelTimer k n).settings = s.settings := rfl
@[simp] theorem State.cancelTimer_feed (s : State) (k n : Nat) : (s.cancelTimer k n).feed = s.feed := rfl
@[simp] theorem State.cancelTimer_sources (s : State) (k n : Nat) : (s.cancelTimer k n).sources = s.sources := rfl
@[simp] theorem State.cancelTimer_points (s : State) (k n : Nat) : (s.cancelTimer k n).points = s.points := rfl
@[simp] theorem State.cancelTimer_elements (s : State) (k n : Nat) : (s.cancelTimer k n).elements = s.elements := rfl
@[simp] theorem State.cancelTimer_pendingQueue (s : State) (k n : Nat) : (s.cancelTimer k n).pendingQueue = s.pendingQueue := rfl
@[simp] theorem State.cancelTimer_outgoing (s : State) (k n : Nat) : (s.cancelTimer k n).outgoing = s.outgoing := rfl
@[simp] theorem State.cancelTimer_remotes (s : State) (k n : Nat) : (s.cancelTimer k n).remotes = s.remotes := rfl
@[simp] theorem State.cancelTimer_engine (s : State) (k n : Nat) : (s.cancelTimer k n).engine = s.engine := rfl
@[simp] theorem State.cancelTimer_islands (s : State) (k n : Nat) : (s.cancelTimer k n).islands = s.islands := rfl
@[simp] theorem State.cancelTimer_peers (s : State) (k n : Nat) : (s.cancelTimer k n).peers = s.peers := rfl
@[simp] theorem State.cancelTimer_processing (s : State) (k n : Nat) : (s.cancelTimer k n).processing = s.processing := rfl
@[simp] theorem State.cancelTimer_horizon (s : State) (k n : Nat) : (s.cancelTimer k n).horizon = s.horizon := rfl
@[simp] theorem State.cancelTimer_clock (s : State) (k n : Nat) : (s.cancelTimer k n).clock = s.clock := rfl
@[simp] theorem State.cancelTimer_tx (s : State) (k n : Nat) : (s.cancelTimer k n).tx = s.tx := rfl
@[simp] theorem State.cancelTimer_rx (s : State) (k n : Nat) : (s.cancelTimer k n).rx = s.rx := rfl
@[simp] theorem State.cancelTimer_delivery (s : State) (k n : Nat) : (s.cancelTimer k n).delivery = s.delivery := rfl
@[simp] theorem State.cancelTimer_console (s : State) (k n : Nat) : (s.cancelTimer k n).console = s.console := rfl
@[simp] theorem State.cancelTimer_attention (s : State) (k n : Nat) : (s.cancelTimer k n).attention = s.attention := rfl
@[simp] theorem State.cancelTimer_freeCount (s : State) (k n : Nat) : (s.cancelTimer k n).freeCount = s.freeCount := rfl
@[simp] theorem State.cancelTimer_pending (s : State) (k n : Nat) : (s.cancelTimer k n).pending = s.pending := rfl

/-! ## Error capture -/

@[simp] theorem State.report_station (s : State) (k : ErrorKind) (x : Option Nat) : (s.report k x).station = s.station := by
  unfold State.report; dsimp only; split <;> rfl
@[simp] theorem State.report_settings (s : State) (k : ErrorKind) (x : Option Nat) : (s.report k x).settings = s.settings := by
  unfold State.report; dsimp only; split <;> rfl
@[simp] theorem State.report_feed (s : State) (k : ErrorKind) (x : Option Nat) : (s.report k x).feed = s.feed := by
  unfold State.report; dsimp only; split <;> rfl
@[simp] theorem State.report_sources (s : State) (k : ErrorKind) (x : Option Nat) : (s.report k x).sources = s.sources := by
  unfold State.report; dsimp only; split <;> rfl
@[simp] theorem State.report_points (s : State) (k : ErrorKind) (x : Option Nat) : (s.report k x).points = s.points := by
  unfold State.report; dsimp only; split <;> rfl
@[simp] theorem State.report_elements (s : State) (k : ErrorKind) (x : Option Nat) : (s.report k x).elements = s.elements := by
  unfold State.report; dsimp only; split <;> rfl
@[simp] theorem State.report_pendingQueue (s : State) (k : ErrorKind) (x : Option Nat) : (s.report k x).pendingQueue = s.pendingQueue := by
  unfold State.report; dsimp only; split <;> rfl
@[simp] theorem State.report_outgoing (s : State) (k : ErrorKind) (x : Option Nat) : (s.report k x).outgoing = s.outgoing := by
  unfold State.report; dsimp only; split <;> rfl
@[simp] theorem State.report_remotes (s : State) (k : ErrorKind) (x : Option Nat) : (s.report k x).remotes = s.remotes := by
  unfold State.report; dsimp only; split <;> rfl
@[simp] theorem State.report_timers (s : State) (k : ErrorKind) (x : Option Nat) : (s.report k x).timers = s.timers := by
  unfold State.report; dsimp only; split <;> rfl
@[simp] theorem State.report_engine (s : State) (k : ErrorKind) (x : Option Nat) : (s.report k x).engine = s.engine := by
  unfold State.report; dsimp only; split <;> rfl
@[simp] theorem State.report_islands (s : State) (k : ErrorKind) (x : Option Nat) : (s.report k x).islands = s.islands := by
  unfold State.report; dsimp only; split <;> rfl
@[simp] theorem State.report_peers (s : State) (k : ErrorKind) (x : Option Nat) : (s.report k x).peers = s.peers := by
  unfold State.report; dsimp only; split <;> rfl
@[simp] theorem State.report_processing (s : State) (k : ErrorKind) (x : Option Nat) : (s.report k x).processing = s.processing := by
  unfold State.report; dsimp only; split <;> rfl
@[simp] theorem State.report_horizon (s : State) (k : ErrorKind) (x : Option Nat) : (s.report k x).horizon = s.horizon := by
  unfold State.report; dsimp only; split <;> rfl
@[simp] theorem State.report_clock (s : State) (k : ErrorKind) (x : Option Nat) : (s.report k x).clock = s.clock := by
  unfold State.report; dsimp only; split <;> rfl
@[simp] theorem State.report_tx (s : State) (k : ErrorKind) (x : Option Nat) : (s.report k x).tx = s.tx := by
  unfold State.report; dsimp only; split <;> rfl
@[simp] theorem State.report_rx (s : State) (k : ErrorKind) (x : Option Nat) : (s.report k x).rx = s.rx := by
  unfold State.report; dsimp only; split <;> rfl
@[simp] theorem State.report_delivery (s : State) (k : ErrorKind) (x : Option Nat) : (s.report k x).delivery = s.delivery := by
  unfold State.report; dsimp only; split <;> rfl
@[simp] theorem State.report_console (s : State) (k : ErrorKind) (x : Option Nat) : (s.report k x).console = s.console := by
  unfold State.report; dsimp only; split <;> rfl
@[simp] theorem State.report_freeCount (s : State) (k : ErrorKind) (x : Option Nat) : (s.report k x).freeCount = s.freeCount := by
  unfold State.report; dsimp only; split <;> rfl
@[simp] theorem State.report_pending (s : State) (k : ErrorKind) (x : Option Nat) : (s.report k x).pending = s.pending := by
  unfold State.report; dsimp only; split <;> rfl

@[simp] theorem State.report_mask (s : State) (k : ErrorKind) (x : Option Nat) :
    (s.report k x).attention.mask = s.attention.mask := by
  unfold State.report; dsimp only; split <;> rfl

/-! ## Break -/

@[simp] theorem State.setBreak_station (s : State) : (s.setBreak).station = s.station := rfl
@[simp] theorem State.setBreak_settings (s : State) : (s.setBreak).settings = s.settings := rfl
@[simp] theorem State.setBreak_feed (s : State) : (s.setBreak).feed = s.feed := rfl
@[simp] theorem State.setBreak_sources (s : State) : (s.setBreak).sources = s.sources := rfl
@[simp] theorem State.setBreak_points (s : State) : (s.setBreak).points = s.points := rfl
@[simp] theorem State.setBreak_elements (s : State) : (s.setBreak).elements = s.elements := rfl
@[simp] theorem State.setBreak_pendingQueue (s : State) : (s.setBreak).pendingQueue = s.pendingQueue := rfl
@[simp] theorem State.setBreak_outgoing (s : State) : (s.setBreak).outgoing = s.outgoing := rfl
@[simp] theorem State.setBreak_remotes (s : State) : (s.setBreak).remotes = s.remotes := rfl
@[simp] theorem State.setBreak_timers (s : State) : (s.setBreak).timers = s.timers := rfl
@[simp] theorem State.setBreak_engine (s : State) : (s.setBreak).engine = s.engine := rfl
@[simp] theorem State.setBreak_islands (s : State) : (s.setBreak).islands = s.islands := rfl
@[simp] theorem State.setBreak_peers (s : State) : (s.setBreak).peers = s.peers := rfl
@[simp] theorem State.setBreak_processing (s : State) : (s.setBreak).processing = s.processing := rfl
@[simp] theorem State.setBreak_horizon (s : State) : (s.setBreak).horizon = s.horizon := rfl
@[simp] theorem State.setBreak_tx (s : State) : (s.setBreak).tx = s.tx := rfl
@[simp] theorem State.setBreak_rx (s : State) : (s.setBreak).rx = s.rx := rfl
@[simp] theorem State.setBreak_delivery (s : State) : (s.setBreak).delivery = s.delivery := rfl
@[simp] theorem State.setBreak_console (s : State) : (s.setBreak).console = s.console := rfl
@[simp] theorem State.setBreak_freeCount (s : State) : (s.setBreak).freeCount = s.freeCount := rfl
@[simp] theorem State.setBreak_pending (s : State) : (s.setBreak).pending = s.pending := rfl

end Sys2Proof.Machine
end

