-- ==== Sys2Proof/Laws/Reform.lean ====
section
/-! SUPPORT. What is re-formed after an act, field by field: the parts of `settle` and `settleComplete`, and what both
leave as it was. -/

namespace Sys2Proof.Machine

@[simp] theorem State.reformBounds_station (s : State) : (s.reformBounds).station = s.station := rfl
@[simp] theorem State.reformBounds_settings (s : State) : (s.reformBounds).settings = s.settings := rfl
@[simp] theorem State.reformBounds_feed (s : State) : (s.reformBounds).feed = s.feed := rfl
@[simp] theorem State.reformBounds_sources (s : State) : (s.reformBounds).sources = s.sources := rfl
@[simp] theorem State.reformBounds_points (s : State) : (s.reformBounds).points = s.points := rfl
@[simp] theorem State.reformBounds_elements (s : State) : (s.reformBounds).elements = s.elements := rfl
@[simp] theorem State.reformBounds_pendingQueue (s : State) : (s.reformBounds).pendingQueue = s.pendingQueue := rfl
@[simp] theorem State.reformBounds_outgoing (s : State) : (s.reformBounds).outgoing = s.outgoing := rfl
@[simp] theorem State.reformBounds_remotes (s : State) : (s.reformBounds).remotes = s.remotes := rfl
@[simp] theorem State.reformBounds_timers (s : State) : (s.reformBounds).timers = s.timers := rfl
@[simp] theorem State.reformBounds_engine (s : State) : (s.reformBounds).engine = s.engine := rfl
@[simp] theorem State.reformBounds_islands (s : State) : (s.reformBounds).islands = s.islands := rfl
@[simp] theorem State.reformBounds_peers (s : State) : (s.reformBounds).peers = s.peers := rfl
@[simp] theorem State.reformBounds_processing (s : State) : (s.reformBounds).processing = s.processing := rfl
@[simp] theorem State.reformBounds_clock (s : State) : (s.reformBounds).clock = s.clock := rfl
@[simp] theorem State.reformBounds_tx (s : State) : (s.reformBounds).tx = s.tx := rfl
@[simp] theorem State.reformBounds_rx (s : State) : (s.reformBounds).rx = s.rx := rfl
@[simp] theorem State.reformBounds_delivery (s : State) : (s.reformBounds).delivery = s.delivery := rfl
@[simp] theorem State.reformBounds_console (s : State) : (s.reformBounds).console = s.console := rfl
@[simp] theorem State.reformBounds_attention (s : State) : (s.reformBounds).attention = s.attention := rfl
@[simp] theorem State.reformBounds_freeCount (s : State) : (s.reformBounds).freeCount = s.freeCount := rfl
@[simp] theorem State.reformBounds_pending (s : State) : (s.reformBounds).pending = s.pending := rfl

@[simp] theorem State.reformPeerHold_station (s : State) : (s.reformPeerHold).station = s.station := rfl
@[simp] theorem State.reformPeerHold_settings (s : State) : (s.reformPeerHold).settings = s.settings := rfl
@[simp] theorem State.reformPeerHold_feed (s : State) : (s.reformPeerHold).feed = s.feed := rfl
@[simp] theorem State.reformPeerHold_sources (s : State) : (s.reformPeerHold).sources = s.sources := rfl
@[simp] theorem State.reformPeerHold_points (s : State) : (s.reformPeerHold).points = s.points := rfl
@[simp] theorem State.reformPeerHold_elements (s : State) : (s.reformPeerHold).elements = s.elements := rfl
@[simp] theorem State.reformPeerHold_pendingQueue (s : State) : (s.reformPeerHold).pendingQueue = s.pendingQueue := rfl
@[simp] theorem State.reformPeerHold_outgoing (s : State) : (s.reformPeerHold).outgoing = s.outgoing := rfl
@[simp] theorem State.reformPeerHold_remotes (s : State) : (s.reformPeerHold).remotes = s.remotes := rfl
@[simp] theorem State.reformPeerHold_timers (s : State) : (s.reformPeerHold).timers = s.timers := rfl
@[simp] theorem State.reformPeerHold_engine (s : State) : (s.reformPeerHold).engine = s.engine := rfl
@[simp] theorem State.reformPeerHold_islands (s : State) : (s.reformPeerHold).islands = s.islands := rfl
@[simp] theorem State.reformPeerHold_peers (s : State) : (s.reformPeerHold).peers = s.peers := rfl
@[simp] theorem State.reformPeerHold_processing (s : State) : (s.reformPeerHold).processing = s.processing := rfl
@[simp] theorem State.reformPeerHold_horizon (s : State) : (s.reformPeerHold).horizon = s.horizon := rfl
@[simp] theorem State.reformPeerHold_tx (s : State) : (s.reformPeerHold).tx = s.tx := rfl
@[simp] theorem State.reformPeerHold_rx (s : State) : (s.reformPeerHold).rx = s.rx := rfl
@[simp] theorem State.reformPeerHold_delivery (s : State) : (s.reformPeerHold).delivery = s.delivery := rfl
@[simp] theorem State.reformPeerHold_console (s : State) : (s.reformPeerHold).console = s.console := rfl
@[simp] theorem State.reformPeerHold_attention (s : State) : (s.reformPeerHold).attention = s.attention := rfl
@[simp] theorem State.reformPeerHold_freeCount (s : State) : (s.reformPeerHold).freeCount = s.freeCount := rfl
@[simp] theorem State.reformPeerHold_pending (s : State) : (s.reformPeerHold).pending = s.pending := rfl

@[simp] theorem State.testLag_station (s : State) (b : State) : (s.testLag b).station = s.station := by
  unfold State.testLag; split <;> rfl
@[simp] theorem State.testLag_settings (s : State) (b : State) : (s.testLag b).settings = s.settings := by
  unfold State.testLag; split <;> rfl
@[simp] theorem State.testLag_feed (s : State) (b : State) : (s.testLag b).feed = s.feed := by
  unfold State.testLag; split <;> rfl
@[simp] theorem State.testLag_sources (s : State) (b : State) : (s.testLag b).sources = s.sources := by
  unfold State.testLag; split <;> rfl
@[simp] theorem State.testLag_points (s : State) (b : State) : (s.testLag b).points = s.points := by
  unfold State.testLag; split <;> rfl
@[simp] theorem State.testLag_elements (s : State) (b : State) : (s.testLag b).elements = s.elements := by
  unfold State.testLag; split <;> rfl
@[simp] theorem State.testLag_pendingQueue (s : State) (b : State) : (s.testLag b).pendingQueue = s.pendingQueue := by
  unfold State.testLag; split <;> rfl
@[simp] theorem State.testLag_outgoing (s : State) (b : State) : (s.testLag b).outgoing = s.outgoing := by
  unfold State.testLag; split <;> rfl
@[simp] theorem State.testLag_remotes (s : State) (b : State) : (s.testLag b).remotes = s.remotes := by
  unfold State.testLag; split <;> rfl
@[simp] theorem State.testLag_timers (s : State) (b : State) : (s.testLag b).timers = s.timers := by
  unfold State.testLag; split <;> rfl
@[simp] theorem State.testLag_engine (s : State) (b : State) : (s.testLag b).engine = s.engine := by
  unfold State.testLag; split <;> rfl
@[simp] theorem State.testLag_islands (s : State) (b : State) : (s.testLag b).islands = s.islands := by
  unfold State.testLag; split <;> rfl
@[simp] theorem State.testLag_peers (s : State) (b : State) : (s.testLag b).peers = s.peers := by
  unfold State.testLag; split <;> rfl
@[simp] theorem State.testLag_processing (s : State) (b : State) : (s.testLag b).processing = s.processing := by
  unfold State.testLag; split <;> rfl
@[simp] theorem State.testLag_horizon (s : State) (b : State) : (s.testLag b).horizon = s.horizon := by
  unfold State.testLag; split <;> rfl
@[simp] theorem State.testLag_tx (s : State) (b : State) : (s.testLag b).tx = s.tx := by
  unfold State.testLag; split <;> rfl
@[simp] theorem State.testLag_rx (s : State) (b : State) : (s.testLag b).rx = s.rx := by
  unfold State.testLag; split <;> rfl
@[simp] theorem State.testLag_delivery (s : State) (b : State) : (s.testLag b).delivery = s.delivery := by
  unfold State.testLag; split <;> rfl
@[simp] theorem State.testLag_console (s : State) (b : State) : (s.testLag b).console = s.console := by
  unfold State.testLag; split <;> rfl
@[simp] theorem State.testLag_freeCount (s : State) (b : State) : (s.testLag b).freeCount = s.freeCount := by
  unfold State.testLag; split <;> rfl
@[simp] theorem State.testLag_pending (s : State) (b : State) : (s.testLag b).pending = s.pending := by
  unfold State.testLag; split <;> rfl

@[simp] theorem State.watchStall_station (s : State) (b : State) : (s.watchStall b).station = s.station := rfl
@[simp] theorem State.watchStall_settings (s : State) (b : State) : (s.watchStall b).settings = s.settings := rfl
@[simp] theorem State.watchStall_feed (s : State) (b : State) : (s.watchStall b).feed = s.feed := rfl
@[simp] theorem State.watchStall_sources (s : State) (b : State) : (s.watchStall b).sources = s.sources := rfl
@[simp] theorem State.watchStall_points (s : State) (b : State) : (s.watchStall b).points = s.points := rfl
@[simp] theorem State.watchStall_elements (s : State) (b : State) : (s.watchStall b).elements = s.elements := rfl
@[simp] theorem State.watchStall_pendingQueue (s : State) (b : State) : (s.watchStall b).pendingQueue = s.pendingQueue := rfl
@[simp] theorem State.watchStall_outgoing (s : State) (b : State) : (s.watchStall b).outgoing = s.outgoing := rfl
@[simp] theorem State.watchStall_remotes (s : State) (b : State) : (s.watchStall b).remotes = s.remotes := rfl
@[simp] theorem State.watchStall_timers (s : State) (b : State) : (s.watchStall b).timers = s.timers := rfl
@[simp] theorem State.watchStall_engine (s : State) (b : State) : (s.watchStall b).engine = s.engine := rfl
@[simp] theorem State.watchStall_islands (s : State) (b : State) : (s.watchStall b).islands = s.islands := rfl
@[simp] theorem State.watchStall_peers (s : State) (b : State) : (s.watchStall b).peers = s.peers := rfl
@[simp] theorem State.watchStall_processing (s : State) (b : State) : (s.watchStall b).processing = s.processing := rfl
@[simp] theorem State.watchStall_horizon (s : State) (b : State) : (s.watchStall b).horizon = s.horizon := rfl
@[simp] theorem State.watchStall_tx (s : State) (b : State) : (s.watchStall b).tx = s.tx := rfl
@[simp] theorem State.watchStall_rx (s : State) (b : State) : (s.watchStall b).rx = s.rx := rfl
@[simp] theorem State.watchStall_delivery (s : State) (b : State) : (s.watchStall b).delivery = s.delivery := rfl
@[simp] theorem State.watchStall_console (s : State) (b : State) : (s.watchStall b).console = s.console := rfl
@[simp] theorem State.watchStall_attention (s : State) (b : State) : (s.watchStall b).attention = s.attention := rfl
@[simp] theorem State.watchStall_freeCount (s : State) (b : State) : (s.watchStall b).freeCount = s.freeCount := rfl
@[simp] theorem State.watchStall_pending (s : State) (b : State) : (s.watchStall b).pending = s.pending := rfl

@[simp] theorem State.testCompletion_settings (s b : State) : (s.testCompletion b).settings = s.settings := by
  unfold State.testCompletion; split <;> rfl
@[simp] theorem State.testCompletion_feed (s b : State) : (s.testCompletion b).feed = s.feed := by
  unfold State.testCompletion; split <;> rfl
@[simp] theorem State.testCompletion_sources (s b : State) : (s.testCompletion b).sources = s.sources := by
  unfold State.testCompletion; split <;> rfl
@[simp] theorem State.testCompletion_points (s b : State) : (s.testCompletion b).points = s.points := by
  unfold State.testCompletion; split <;> rfl
@[simp] theorem State.testCompletion_elements (s b : State) : (s.testCompletion b).elements = s.elements := by
  unfold State.testCompletion; split <;> rfl
@[simp] theorem State.testCompletion_pendingQueue (s b : State) : (s.testCompletion b).pendingQueue = s.pendingQueue := by
  unfold State.testCompletion; split <;> rfl
@[simp] theorem State.testCompletion_outgoing (s b : State) : (s.testCompletion b).outgoing = s.outgoing := by
  unfold State.testCompletion; split <;> rfl
@[simp] theorem State.testCompletion_remotes (s b : State) : (s.testCompletion b).remotes = s.remotes := by
  unfold State.testCompletion; split <;> rfl
@[simp] theorem State.testCompletion_timers (s b : State) : (s.testCompletion b).timers = s.timers := by
  unfold State.testCompletion; split <;> rfl
@[simp] theorem State.testCompletion_islands (s b : State) : (s.testCompletion b).islands = s.islands := by
  unfold State.testCompletion; split <;> rfl
@[simp] theorem State.testCompletion_peers (s b : State) : (s.testCompletion b).peers = s.peers := by
  unfold State.testCompletion; split <;> rfl
@[simp] theorem State.testCompletion_processing (s b : State) : (s.testCompletion b).processing = s.processing := by
  unfold State.testCompletion; split <;> rfl
@[simp] theorem State.testCompletion_horizon (s b : State) : (s.testCompletion b).horizon = s.horizon := by
  unfold State.testCompletion; split <;> rfl
@[simp] theorem State.testCompletion_clock (s b : State) : (s.testCompletion b).clock = s.clock := by
  unfold State.testCompletion; split <;> rfl
@[simp] theorem State.testCompletion_tx (s b : State) : (s.testCompletion b).tx = s.tx := by
  unfold State.testCompletion; split <;> rfl
@[simp] theorem State.testCompletion_rx (s b : State) : (s.testCompletion b).rx = s.rx := by
  unfold State.testCompletion; split <;> rfl
@[simp] theorem State.testCompletion_delivery (s b : State) : (s.testCompletion b).delivery = s.delivery := by
  unfold State.testCompletion; split <;> rfl
@[simp] theorem State.testCompletion_console (s b : State) : (s.testCompletion b).console = s.console := by
  unfold State.testCompletion; split <;> rfl
@[simp] theorem State.testCompletion_freeCount (s b : State) : (s.testCompletion b).freeCount = s.freeCount := by
  unfold State.testCompletion; split <;> rfl
@[simp] theorem State.testCompletion_pending (s b : State) : (s.testCompletion b).pending = s.pending := by
  unfold State.testCompletion; split <;> rfl

@[simp] theorem State.reformLink_station (s : State) : (s.reformLink).station = s.station := rfl
@[simp] theorem State.reformLink_settings (s : State) : (s.reformLink).settings = s.settings := rfl
@[simp] theorem State.reformLink_feed (s : State) : (s.reformLink).feed = s.feed := rfl
@[simp] theorem State.reformLink_sources (s : State) : (s.reformLink).sources = s.sources := rfl
@[simp] theorem State.reformLink_points (s : State) : (s.reformLink).points = s.points := rfl
@[simp] theorem State.reformLink_elements (s : State) : (s.reformLink).elements = s.elements := rfl
@[simp] theorem State.reformLink_pendingQueue (s : State) : (s.reformLink).pendingQueue = s.pendingQueue := rfl
@[simp] theorem State.reformLink_outgoing (s : State) : (s.reformLink).outgoing = s.outgoing := rfl
@[simp] theorem State.reformLink_remotes (s : State) : (s.reformLink).remotes = s.remotes := rfl
@[simp] theorem State.reformLink_timers (s : State) : (s.reformLink).timers = s.timers := rfl
@[simp] theorem State.reformLink_engine (s : State) : (s.reformLink).engine = s.engine := rfl
@[simp] theorem State.reformLink_islands (s : State) : (s.reformLink).islands = s.islands := rfl
@[simp] theorem State.reformLink_peers (s : State) : (s.reformLink).peers = s.peers := rfl
@[simp] theorem State.reformLink_processing (s : State) : (s.reformLink).processing = s.processing := rfl
@[simp] theorem State.reformLink_horizon (s : State) : (s.reformLink).horizon = s.horizon := rfl
@[simp] theorem State.reformLink_clock (s : State) : (s.reformLink).clock = s.clock := rfl
@[simp] theorem State.reformLink_tx (s : State) : (s.reformLink).tx = s.tx := rfl
@[simp] theorem State.reformLink_rx (s : State) : (s.reformLink).rx = s.rx := rfl
@[simp] theorem State.reformLink_delivery (s : State) : (s.reformLink).delivery = s.delivery := rfl
@[simp] theorem State.reformLink_console (s : State) : (s.reformLink).console = s.console := rfl
@[simp] theorem State.reformLink_freeCount (s : State) : (s.reformLink).freeCount = s.freeCount := rfl
@[simp] theorem State.reformLink_pending (s : State) : (s.reformLink).pending = s.pending := rfl

@[simp] theorem State.wantFrame_station (s : State) : (s.wantFrame).station = s.station := rfl
@[simp] theorem State.wantFrame_settings (s : State) : (s.wantFrame).settings = s.settings := rfl
@[simp] theorem State.wantFrame_feed (s : State) : (s.wantFrame).feed = s.feed := rfl
@[simp] theorem State.wantFrame_sources (s : State) : (s.wantFrame).sources = s.sources := rfl
@[simp] theorem State.wantFrame_points (s : State) : (s.wantFrame).points = s.points := rfl
@[simp] theorem State.wantFrame_elements (s : State) : (s.wantFrame).elements = s.elements := rfl
@[simp] theorem State.wantFrame_pendingQueue (s : State) : (s.wantFrame).pendingQueue = s.pendingQueue := rfl
@[simp] theorem State.wantFrame_outgoing (s : State) : (s.wantFrame).outgoing = s.outgoing := rfl
@[simp] theorem State.wantFrame_remotes (s : State) : (s.wantFrame).remotes = s.remotes := rfl
@[simp] theorem State.wantFrame_timers (s : State) : (s.wantFrame).timers = s.timers := rfl
@[simp] theorem State.wantFrame_engine (s : State) : (s.wantFrame).engine = s.engine := rfl
@[simp] theorem State.wantFrame_islands (s : State) : (s.wantFrame).islands = s.islands := rfl
@[simp] theorem State.wantFrame_peers (s : State) : (s.wantFrame).peers = s.peers := rfl
@[simp] theorem State.wantFrame_processing (s : State) : (s.wantFrame).processing = s.processing := rfl
@[simp] theorem State.wantFrame_horizon (s : State) : (s.wantFrame).horizon = s.horizon := rfl
@[simp] theorem State.wantFrame_clock (s : State) : (s.wantFrame).clock = s.clock := rfl
@[simp] theorem State.wantFrame_rx (s : State) : (s.wantFrame).rx = s.rx := rfl
@[simp] theorem State.wantFrame_delivery (s : State) : (s.wantFrame).delivery = s.delivery := rfl
@[simp] theorem State.wantFrame_console (s : State) : (s.wantFrame).console = s.console := rfl
@[simp] theorem State.wantFrame_attention (s : State) : (s.wantFrame).attention = s.attention := rfl
@[simp] theorem State.wantFrame_freeCount (s : State) : (s.wantFrame).freeCount = s.freeCount := rfl
@[simp] theorem State.wantFrame_pending (s : State) : (s.wantFrame).pending = s.pending := rfl

@[simp] theorem State.settle_station (s : State) (b : State) : (s.settle b).station = s.station := by
  simp [State.settle]
@[simp] theorem State.settle_settings (s : State) (b : State) : (s.settle b).settings = s.settings := by
  simp [State.settle]
@[simp] theorem State.settle_feed (s : State) (b : State) : (s.settle b).feed = s.feed := by
  simp [State.settle]
@[simp] theorem State.settle_sources (s : State) (b : State) : (s.settle b).sources = s.sources := by
  simp [State.settle]
@[simp] theorem State.settle_points (s : State) (b : State) : (s.settle b).points = s.points := by
  simp [State.settle]
@[simp] theorem State.settle_elements (s : State) (b : State) : (s.settle b).elements = s.elements := by
  simp [State.settle]
@[simp] theorem State.settle_pendingQueue (s : State) (b : State) : (s.settle b).pendingQueue = s.pendingQueue := by
  simp [State.settle]
@[simp] theorem State.settle_outgoing (s : State) (b : State) : (s.settle b).outgoing = s.outgoing := by
  simp [State.settle]
@[simp] theorem State.settle_remotes (s : State) (b : State) : (s.settle b).remotes = s.remotes := by
  simp [State.settle]
@[simp] theorem State.settle_timers (s : State) (b : State) : (s.settle b).timers = s.timers := by
  simp [State.settle]
@[simp] theorem State.settle_engine (s : State) (b : State) : (s.settle b).engine = s.engine := by
  simp [State.settle]
@[simp] theorem State.settle_islands (s : State) (b : State) : (s.settle b).islands = s.islands := by
  simp [State.settle]
@[simp] theorem State.settle_peers (s : State) (b : State) : (s.settle b).peers = s.peers := by
  simp [State.settle]
@[simp] theorem State.settle_processing (s : State) (b : State) : (s.settle b).processing = s.processing := by
  simp [State.settle]
@[simp] theorem State.settle_rx (s : State) (b : State) : (s.settle b).rx = s.rx := by
  simp [State.settle]
@[simp] theorem State.settle_delivery (s : State) (b : State) : (s.settle b).delivery = s.delivery := by
  simp [State.settle]
@[simp] theorem State.settle_console (s : State) (b : State) : (s.settle b).console = s.console := by
  simp [State.settle]
@[simp] theorem State.settle_freeCount (s : State) (b : State) : (s.settle b).freeCount = s.freeCount := by
  simp [State.settle]
@[simp] theorem State.settle_pending (s : State) (b : State) : (s.settle b).pending = s.pending := by
  simp [State.settle]

@[simp] theorem State.settleComplete_settings (s : State) (b : State) : (s.settleComplete b).settings = s.settings := by
  simp [State.settleComplete]
@[simp] theorem State.settleComplete_feed (s : State) (b : State) : (s.settleComplete b).feed = s.feed := by
  simp [State.settleComplete]
@[simp] theorem State.settleComplete_sources (s : State) (b : State) : (s.settleComplete b).sources = s.sources := by
  simp [State.settleComplete]
@[simp] theorem State.settleComplete_points (s : State) (b : State) : (s.settleComplete b).points = s.points := by
  simp [State.settleComplete]
@[simp] theorem State.settleComplete_elements (s : State) (b : State) : (s.settleComplete b).elements = s.elements := by
  simp [State.settleComplete]
@[simp] theorem State.settleComplete_pendingQueue (s : State) (b : State) : (s.settleComplete b).pendingQueue = s.pendingQueue := by
  simp [State.settleComplete]
@[simp] theorem State.settleComplete_outgoing (s : State) (b : State) : (s.settleComplete b).outgoing = s.outgoing := by
  simp [State.settleComplete]
@[simp] theorem State.settleComplete_remotes (s : State) (b : State) : (s.settleComplete b).remotes = s.remotes := by
  simp [State.settleComplete]
@[simp] theorem State.settleComplete_timers (s : State) (b : State) : (s.settleComplete b).timers = s.timers := by
  simp [State.settleComplete]
@[simp] theorem State.settleComplete_islands (s : State) (b : State) : (s.settleComplete b).islands = s.islands := by
  simp [State.settleComplete]
@[simp] theorem State.settleComplete_peers (s : State) (b : State) : (s.settleComplete b).peers = s.peers := by
  simp [State.settleComplete]
@[simp] theorem State.settleComplete_processing (s : State) (b : State) : (s.settleComplete b).processing = s.processing := by
  simp [State.settleComplete]
@[simp] theorem State.settleComplete_rx (s : State) (b : State) : (s.settleComplete b).rx = s.rx := by
  simp [State.settleComplete]
@[simp] theorem State.settleComplete_delivery (s : State) (b : State) : (s.settleComplete b).delivery = s.delivery := by
  simp [State.settleComplete]
@[simp] theorem State.settleComplete_console (s : State) (b : State) : (s.settleComplete b).console = s.console := by
  simp [State.settleComplete]
@[simp] theorem State.settleComplete_freeCount (s : State) (b : State) : (s.settleComplete b).freeCount = s.freeCount := by
  simp [State.settleComplete]
@[simp] theorem State.settleComplete_pending (s : State) (b : State) : (s.settleComplete b).pending = s.pending := by
  simp [State.settleComplete]

end Sys2Proof.Machine
end

