-- ==== Sys2Proof/Laws/Tables.lean ====
section
/-! SUPPORT. Reading the tables back after a write: sources, peers, elements. -/

namespace Sys2Proof.Machine

/-! ## Source table -/

theorem State.source_setSource (s : State) (n m : Nat) (r : Source) :
    (s.setSource n r).source m = if m = n ∧ n < 32 then r else s.source m := by
  simp only [State.source, State.setSource, Vector.getElem?_setIfInBounds]
  split_ifs <;> simp_all

@[simp] theorem State.source_setSource_self (s : State) {n : Nat} (r : Source) (h : n < 32) :
    (s.setSource n r).source n = r := by
  simp [State.source_setSource, h]

@[simp] theorem State.source_setSource_of_ne (s : State) {n m : Nat} (r : Source) (h : m ≠ n) :
    (s.setSource n r).source m = s.source m := by
  simp [State.source_setSource, h]

/-- A source number outside the table reads as a source after power-on reset. -/
theorem State.source_of_ge (s : State) {n : Nat} (h : 32 ≤ n) : s.source n = Source.powerOn := by
  simp [State.source, h]

/-! ## Peer table -/

theorem State.peer_setPeer (s : State) (n m : Nat) (p : Peer) :
    (s.setPeer n p).peer m = if m = n ∧ n < 16 then p else s.peer m := by
  simp only [State.peer, State.setPeer, Vector.getElem?_setIfInBounds]
  split_ifs <;> simp_all

@[simp] theorem State.peer_setPeer_self (s : State) {n : Nat} (p : Peer) (h : n < 16) :
    (s.setPeer n p).peer n = p := by
  simp [State.peer_setPeer, h]

@[simp] theorem State.peer_setPeer_of_ne (s : State) {n m : Nat} (p : Peer) (h : m ≠ n) :
    (s.setPeer n p).peer m = s.peer m := by
  simp [State.peer_setPeer, h]

theorem State.peer_of_ge (s : State) {n : Nat} (h : 16 ≤ n) : s.peer n = Peer.powerOn := by
  simp [State.peer, h]

/-! ## Element table -/

theorem State.elementAt_setElement (s : State) (n m : Nat) (e : Element) :
    (s.setElement n e).elementAt m = if m = n ∧ n < 256 then some e else s.elementAt m := by
  simp only [State.elementAt, State.setElement, Vector.getElem?_setIfInBounds]
  split_ifs <;> simp_all

@[simp] theorem State.elementAt_setElement_self (s : State) {n : Nat} (e : Element) (h : n < 256) :
    (s.setElement n e).elementAt n = some e := by
  simp [State.elementAt_setElement, h]

@[simp] theorem State.elementAt_setElement_of_ne (s : State) {n m : Nat} (e : Element) (h : m ≠ n) :
    (s.setElement n e).elementAt m = s.elementAt m := by
  simp [State.elementAt_setElement, h]

/-- A present element's number lies in the table. -/
theorem State.lt_of_elementAt {s : State} {n : Nat} {e : Element} (h : s.elementAt n = some e) : n < 256 := by
  by_contra hn
  have : s.elements[n]? = none := by simp; omega
  simp [State.elementAt, this] at h

/-- The present elements are exactly those the table holds, with their numbers. -/
theorem State.mem_present {s : State} {n : Nat} {e : Element} : (n, e) ∈ s.present ↔ s.elementAt n = some e := by
  simp only [State.present, List.mem_filterMap, List.mem_range, Option.map_eq_some_iff, Prod.mk.injEq]
  constructor
  · rintro ⟨m, -, f, hf, rfl, rfl⟩
    exact hf
  · intro h
    exact ⟨n, State.lt_of_elementAt h, e, h, rfl, rfl⟩

/-! ## What the tables do not depend on -/

theorem State.source_congr {s t : State} (h : t.sources = s.sources) (n : Nat) : t.source n = s.source n := by
  simp [State.source, h]

theorem State.peer_congr {s t : State} (h : t.peers = s.peers) (n : Nat) : t.peer n = s.peer n := by
  simp [State.peer, h]

theorem State.elementAt_congr {s t : State} (h : t.elements = s.elements) (n : Nat) : t.elementAt n = s.elementAt n := by
  simp [State.elementAt, h]

end Sys2Proof.Machine
end

