-- ==== Sys2Proof/Laws/Settle.lean ====
section
/-! SUPPORT. What the shared operations leave: an error report, the re-forming after an act. Each lemma says once all that
its operation can do. -/

namespace Sys2Proof.Machine

/-! ## Error capture (R139) -/

/-- A report changes nothing but the capture: the first error with ERROR set, or one more later error. -/
theorem State.reported_report (s : State) (kind : ErrorKind) (subject : Option Nat) :
    s.Reported (s.report kind subject) kind subject := by
  unfold State.report
  dsimp only
  split <;> rename_i h
  · exact ⟨rfl, ⟨rfl, rfl⟩, fun _ => ⟨rfl, rfl⟩, fun e he => by simp [h] at he⟩
  · refine ⟨rfl, ⟨rfl, rfl⟩, fun hn => by simp [h] at hn, fun e he => ⟨?_, rfl⟩⟩
    rw [h] at he
    cases he
    simp only [satSucc, max16, h]
    rfl

/-- The capture after a report depends on the capture and the station time alone. -/
theorem State.report_capture_congr {s t : State} (kind : ErrorKind) (subject : Option Nat)
    (hc : t.attention.capture = s.attention.capture) (ht : t.station.time = s.station.time) :
    (t.report kind subject).attention.capture = (s.report kind subject).attention.capture := by
  unfold State.report
  simp only [hc, ht]
  split <;> rfl

/-! ## The parts of what is re-formed -/

/-- The values of the horizon unit depend on the station state, the sources and the peers alone. -/
theorem State.boundsAgree_congr {s t : State} (h : s.BoundsAgree) (hh : t.horizon.lw = s.horizon.lw)
    (hs : t.horizon.safeTime = s.horizon.safeTime) (hl : t.horizon.limiting = s.horizon.limiting)
    (hb : t.beforeCommit = s.beforeCommit) (hr : t.sources = s.sources) (hp : t.peers = s.peers) : t.BoundsAgree := by
  have lw : t.localWatermark = s.localWatermark := by simp [State.localWatermark, hb, hr]
  have safe : t.safeBound = s.safeBound := by simp [State.safeBound, State.countedHorizons, hb, hp, lw]
  refine ⟨by rw [hh, lw, h.lw], by rw [hs, safe, h.safeTime], ?_⟩
  rw [hl, h.limiting]
  simp [State.limitingCause, State.firstSourceAt, State.firstPeerAt, hb, safe, hr, hp]

theorem State.reformBounds_agree (s : State) : s.reformBounds.BoundsAgree := ⟨rfl, rfl, rfl⟩

theorem State.reformPeerHold_agrees (s : State) : s.reformPeerHold.PeerHoldAgrees := by
  simp only [State.PeerHoldAgrees, State.reformPeerHold, List.any_eq_true, Bool.and_eq_true]

theorem State.reformLink_agrees (s : State) : s.reformLink.LinkAgrees := by
  simp only [State.LinkAgrees, State.reformLink, State.linkHolds, Bool.or_eq_true, List.any_eq_true, beq_iff_eq]

/-- The lag test writes the LAG cause and flag alone (R106). -/
theorem State.testLag_spec (s b : State) : s.testLag b = { s with
    clock := { s.clock with causes := { s.clock.causes with lag := (s.testLag b).clock.causes.lag } }
    attention := { s.attention with flags := { s.attention.flags with lag := (s.testLag b).attention.flags.lag } } } := by
  unfold State.testLag
  split <;> rfl

/-- The lag test gives the LAG cause that R106 gives from the state tested, where it is taken. -/
theorem State.testLag_cause (s b : State) : (s.testLag b).clock.causes.lag =
    if s.station.state = .replaying ∧ s.lagInputs ≠ b.lagInputs then s.lagAfter else s.clock.causes.lag := by
  unfold State.testLag
  split <;> rfl

theorem State.testLag_flag (s b : State) : (s.testLag b).attention.flags.lag =
    (s.attention.flags.lag || ((s.testLag b).clock.causes.lag && !s.clock.causes.lag)) := by
  unfold State.testLag
  split
  · rfl
  · cases s.attention.flags.lag <;> cases s.clock.causes.lag <;> rfl

/-- The completion test writes the station state, the COMPLETE flag and the record owed alone, and only where the
conditions have come to hold (R124). -/
theorem State.testCompletion_spec (s b : State) :
    s.testCompletion b = (if s.station.state = .replaying ∧ s.drained = true ∧ b.drained = false then { s with
      station := { s.station with state := .complete }
      attention := { s.attention with flags := { s.attention.flags with complete := true } }
      engine := { s.engine with completeOwed := true } } else s) := rfl

theorem State.drained_iff (s : State) : s.drained = true ↔ s.Drained := by
  simp only [State.drained, State.anyCounted, Bool.and_eq_true, beq_iff_eq, Bool.not_eq_true', List.any_eq_false,
    List.isEmpty_iff, Option.isNone_iff_eq_none, Bool.not_eq_true]
  constructor
  · rintro ⟨⟨⟨⟨⟨⟨⟨⟨h1, h2⟩, h3⟩, h4⟩, h5⟩, h6⟩, h7⟩, h8⟩, h9⟩
    exact ⟨h1, h2, ⟨h3, h4, h5⟩, h6, h7, h8, h9⟩
  · rintro ⟨h1, h2, ⟨h3, h4, h5⟩, h6, h7, h8, h9⟩
    exact ⟨⟨⟨⟨⟨⟨⟨⟨h1, h2⟩, h3⟩, h4⟩, h5⟩, h6⟩, h7⟩, h8⟩, h9⟩

theorem State.stallHolds_iff (s : State) : s.stallHolds = true ↔ s.Stalls := by
  simp only [State.stallHolds, State.Stalls, State.headTime, Bool.and_eq_true, beq_iff_eq, and_congr_right_iff]
  intro _
  cases s.leastHead <;> simp

theorem State.ownContent (s : State) :
    (⟨s.ownHorizon, s.announcedHold, s.station.restartRequest, s.senderState⟩ : SentContent) = s.contentNow := by
  simp only [State.contentNow, State.ownHorizon, frameEntries, State.announcedHold, State.senderState]
  cases s.station.state <;> rfl

/-- The wish for a frame is the one of R60. -/
theorem State.frameWanted_iff (s : State) : s.frameWanted = true ↔ s.Wanted := by
  have hd : s.heartbeatDue = true ↔ ∃ e, s.tx.lastEnd = some e ∧ 10000 ≤ s.elapsed e := by
    simp only [State.heartbeatDue, heartbeatInterval]
    cases s.tx.lastEnd with
    | none => simp
    | some e =>
      simp only [Option.some.injEq, exists_eq_left']
      exact ⟨of_decide_eq_true, fun h => decide_eq_true h⟩
  have hc : (match s.tx.lastSent with
      | none => true
      | some c => c.horizon != s.ownHorizon || c.hold != s.announcedHold ||
          c.restart != s.station.restartRequest || c.senderState != s.senderState) = true ↔
      s.tx.lastSent ≠ some s.contentNow := by
    rw [← s.ownContent]
    cases s.tx.lastSent with
    | none => simp
    | some c =>
      cases c
      simp only [Bool.or_eq_true, bne_iff_ne, ne_eq, Option.some.injEq, SentContent.mk.injEq]
      tauto
  have hw : s.frameWanted = true ↔ s.inService = true ∧ (s.tx.lastSent ≠ some s.contentNow ∨
      s.outgoing.isEmpty = false ∨ s.heartbeatDue = true) := by
    rw [← hc]
    simp only [State.frameWanted, Bool.or_eq_true, Bool.and_eq_true, Bool.not_eq_true']
    tauto
  rw [hw, hd]
  simp only [State.Wanted, State.ContentWanted, List.isEmpty_eq_false_iff]
  tauto

/-- An IDLE transmitter may become WAITING; nothing else of it changes (R60). -/
theorem State.wantFrame_tx (s : State) :
    s.wantFrame.tx = s.tx ∨ s.tx.state = .idle ∧ s.wantFrame.tx = { s.tx with state := .waiting } := by
  unfold State.wantFrame
  dsimp only
  split
  · exact .inr ⟨(‹_ ∧ _›).1, rfl⟩
  · exact .inl rfl

/-! ## After an act -/

/-- The state of an act after the bounds, the PEER cause, the lag test and the stall timer: what `settle` and
`settleComplete` share. -/
def State.retimed (s b : State) : State := ((s.reformBounds.reformPeerHold.testLag b).watchStall b)

theorem State.settle_eq (s b : State) : s.settle b = ((s.retimed b).reformLink).wantFrame := rfl

theorem State.settleComplete_eq (s b : State) :
    s.settleComplete b = (((s.retimed b).testCompletion b).reformLink).wantFrame := rfl

/-- What the first part of an act's end writes. -/
theorem State.retimed_spec (s b : State) : s.retimed b = { s with
    horizon := { s.horizon with lw := s.localWatermark, safeTime := s.safeBound, limiting := s.limitingCause }
    clock := { s.clock with
      causes := { s.clock.causes with
        peer := (s.retimed b).clock.causes.peer, lag := (s.retimed b).clock.causes.lag }
      stall := (s.retimed b).clock.stall
      stallTimer := (s.retimed b).clock.stallTimer }
    attention := { s.attention with flags := { s.attention.flags with
      lag := (s.retimed b).attention.flags.lag } } } := by
  simp only [State.retimed, State.watchStall]
  rw [State.testLag_spec]
  rfl

/-- An act from `u` whose writes gave `s`, with `w` what it wrote itself and `b` the state its tests compare with: `w` and
`s` hold the same clock, attention unit, announced horizon and transmitter, `u` and `w` the same LAG and STALL, and `u`
gives the tests what `b` gives them. -/
structure State.ActBase (u w s b : State) : Prop where
  ownAnnounced : s.horizon.ownAnnounced = w.horizon.ownAnnounced
  clock : s.clock = w.clock
  attention : s.attention = w.attention
  tx : s.tx = w.tx
  lag : w.clock.causes.lag = u.clock.causes.lag
  stall : w.clock.stall = u.clock.stall ∧ w.clock.stallTimer = u.clock.stallTimer
  integer : u.clock.integer = b.clock.integer
  head : u.leastHead = b.leastHead
  safe : u.horizon.safeTime = b.horizon.safeTime
  replaying : u.station.state = .replaying → s.station.state = .replaying

/-- What the completion test leaves of the state that it is taken on. -/
structure State.CompletionFrame (m r : State) : Prop where
  same : r = { m with
    station := { m.station with state := r.station.state }, attention := r.attention, engine := r.engine }
  attention : r.attention = { m.attention with flags := { m.attention.flags with
    complete := r.attention.flags.complete } }
  engine : r.engine = { m.engine with completeOwed := r.engine.completeOwed }
  kept : r.station.state = m.station.state ∨
    m.station.state = .replaying ∧ r.station.state = .complete ∧ m.leastHead = none

theorem State.completionFrame_refl (m : State) : m.CompletionFrame m := ⟨rfl, rfl, rfl, .inl rfl⟩

theorem State.leastHead_of_drained {s : State} (h : s.Drained) : s.leastHead = none := by
  simp [State.leastHead, lesserHead, h.lists]

theorem State.completionFrame_testCompletion (m b : State) : m.CompletionFrame (m.testCompletion b) := by
  rw [State.testCompletion_spec]
  split
  · rename_i h
    exact ⟨rfl, rfl, rfl, .inr ⟨h.1, rfl, State.leastHead_of_drained (m.drained_iff.1 h.2.1)⟩⟩
  · exact m.completionFrame_refl

/-- The least head depends on the three lists alone. -/
theorem State.leastHead_congr {s t : State} (h : t.pendingQueue = s.pendingQueue) (hr : t.remotes = s.remotes)
    (ht : t.timers = s.timers) : t.leastHead = s.leastHead := by
  simp [State.leastHead, h, hr, ht]

theorem State.lagInputs_ne_iff (s t : State) : t.lagInputs ≠ s.lagInputs ↔
    (t.clock.integer ≠ s.clock.integer ∨ t.leastHead ≠ s.leastHead ∨ t.horizon.safeTime ≠ s.horizon.safeTime) := by
  simp only [State.lagInputs, ne_eq, Prod.mk.injEq]
  tauto

/-- The LAG table of R106: above the limit, between half the limit and the limit, and otherwise. -/
theorem State.lagAfter_above {s : State} {i : Item} (h : s.leastHead = some i) (hs : i.key.time < s.horizon.safeTime)
    (hl : i.key.time + s.settings.lagLimit * 1000 < s.clock.integer) : s.lagAfter = true := by
  have hc : s.lagCount = some (s.clock.integer - i.key.time) := by
    simp only [State.lagCount, State.headTime, h, Option.map_some]
    rw [if_pos ⟨hs, by omega⟩]
  simp only [State.lagAfter, hc]
  rw [if_pos (by omega)]

theorem State.lagAfter_between {s : State} {i : Item} (h : s.leastHead = some i) (hs : i.key.time < s.horizon.safeTime)
    (hl : i.key.time + s.settings.lagLimit * 500 < s.clock.integer)
    (hu : s.clock.integer ≤ i.key.time + s.settings.lagLimit * 1000) : s.lagAfter = s.clock.causes.lag := by
  have hc : s.lagCount = some (s.clock.integer - i.key.time) := by
    simp only [State.lagCount, State.headTime, h, Option.map_some]
    rw [if_pos ⟨hs, by omega⟩]
  simp only [State.lagAfter, hc]
  rw [if_neg (by omega), if_pos (by omega)]

theorem State.lagAfter_below {s : State} (h : ∀ i, s.leastHead = some i →
    s.horizon.safeTime ≤ i.key.time ∨ s.clock.integer ≤ i.key.time + s.settings.lagLimit * 500) :
    s.lagAfter = false := by
  cases hh : s.leastHead with
  | none => simp [State.lagAfter, State.lagCount, State.headTime, hh]
  | some i =>
    have := h i hh
    simp only [State.lagAfter, State.lagCount, State.headTime, hh, Option.map_some]
    by_cases hc : i.key.time < s.horizon.safeTime ∧ i.key.time ≤ s.clock.integer
    · rw [if_pos hc]
      simp only
      rw [if_neg (by omega), if_neg (by omega)]
    · rw [if_neg hc]

/-- After an act the bounds, the PEER cause and the LINK condition agree with what they are formed from. `m` is the state
the LINK condition and the wish for a frame are then formed on. -/
theorem State.agrees_of {s b m : State} (hm : (s.retimed b).CompletionFrame m) :
    ((m.reformLink).wantFrame).BoundsAgree ∧ ((m.reformLink).wantFrame).PeerHoldAgrees ∧
      ((m.reformLink).wantFrame).LinkAgrees := by
  have hr := s.retimed_spec b
  obtain ⟨same, -, -, kept⟩ := hm
  have hpeers : m.peers = s.peers := by rw [same, hr]
  have hp : (s.retimed b).clock.causes.peer = s.reformPeerHold.clock.causes.peer := by
    simp only [State.retimed, State.watchStall]
    rw [State.testLag_spec]
    rfl
  refine ⟨?_, ?_, ?_⟩
  · have hb : ((m.reformLink).wantFrame).beforeCommit = s.beforeCommit := by
      have hst : (s.retimed b).station = s.station := by rw [hr]
      simp only [State.beforeCommit, State.wantFrame_station, State.reformLink_station]
      rcases kept with hk | ⟨hk, hk', -⟩
      · rw [hk, hst]
      · rw [hk', ← hst, hk]; rfl
    have hh : m.horizon = s.reformBounds.horizon := by rw [same, hr]; rfl
    exact State.boundsAgree_congr s.reformBounds_agree (congrArg (·.lw) hh) (congrArg (·.safeTime) hh)
      (congrArg (·.limiting) hh) hb (show m.sources = s.sources by rw [same, hr]) hpeers
  · have hclock : m.clock = (s.retimed b).clock := by rw [same]
    simpa [State.PeerHoldAgrees, hclock, hp, hpeers] using s.reformPeerHold_agrees
  · have hmute : ((m.reformLink).wantFrame).tx.state.isMuted = m.tx.state.isMuted := by
      rcases (m.reformLink).wantFrame_tx with h' | ⟨h', h''⟩
      · rw [h']; rfl
      · rw [h'', show m.tx.state = .idle from h']; rfl
    have := m.reformLink_agrees
    unfold State.LinkAgrees at this ⊢
    rw [hmute]
    simpa using this

/-- After an act: `m` is the state the LINK condition and the wish for a frame are then formed on. -/
theorem State.reformed_of {u w s b m : State} (h : u.ActBase w s b) (hm : (s.retimed b).CompletionFrame m)
    (hu : m.station.state = s.station.state ∨ u.station.state = .replaying) :
    u.Reformed w (m.reformLink).wantFrame := by
  have hr := s.retimed_spec b
  have agree := State.agrees_of hm
  obtain ⟨same, hatt, heng, kept⟩ := hm
  set r := s.retimed b with hrdef
  have hclock : m.clock = r.clock := by rw [same]
  have hhor : m.horizon = r.horizon := by rw [same]
  have htx : m.tx = s.tx := by rw [same, hr]
  have hpeers : m.peers = s.peers := by rw [same, hr]
  have hsrc : m.sources = s.sources := by rw [same, hr]
  have hhead : m.leastHead = s.leastHead := State.leastHead_congr (by rw [same, hr]) (by rw [same, hr]) (by rw [same, hr])
  have hrhead : r.leastHead = s.leastHead := State.leastHead_congr (by rw [hr]) (by rw [hr]) (by rw [hr])
  have hset : m.settings = s.settings := by rw [same, hr]
  have hrst : r.station = s.station := by rw [hr]
  have hint : r.clock.integer = s.clock.integer := by rw [hr]
  have hw : (m.reformLink).frameWanted = true ↔ ((m.reformLink).wantFrame).Wanted := by
    rw [← State.frameWanted_iff]
    simp only [State.frameWanted, State.wantFrame]
    rfl
  let q := s.reformBounds.reformPeerHold
  have hrq : r.horizon = q.horizon := by rw [hr]; rfl
  have hlq : r.lagInputs = q.lagInputs := by
    simp only [State.lagInputs, hrhead, hint, hrq]
    rfl
  have hq : (((m.reformLink).wantFrame).leastHead = q.leastHead ∧
      ((m.reformLink).wantFrame).horizon.safeTime = q.horizon.safeTime) ∧
      ((m.reformLink).wantFrame).clock.integer = q.clock.integer ∧
      ((m.reformLink).wantFrame).settings = q.settings := by
    refine ⟨⟨hhead, ?_⟩, ?_, hset⟩
    · show m.horizon.safeTime = _
      rw [hhor, hrq]
    · show m.clock.integer = _
      rw [hclock, hint]; rfl
  obtain ⟨⟨hqh, hqs⟩, hqi, hqm⟩ := hq
  have hubase : r.lagInputs ≠ u.lagInputs ↔ q.lagInputs ≠ b.lagInputs := by
    rw [hlq]
    simp only [State.lagInputs, h.integer, h.head, h.safe]
  have tested : u.LagTested (m.reformLink).wantFrame ↔ q.station.state = .replaying ∧ q.lagInputs ≠ b.lagInputs := by
    rw [← hubase, State.lagInputs_ne_iff]
    simp only [State.LagTested, State.wantFrame_station, State.reformLink_station, State.wantFrame_clock,
      State.reformLink_clock, State.wantFrame_horizon, State.reformLink_horizon, hclock, hhor, hrhead]
    have : ((m.reformLink).wantFrame).leastHead = s.leastHead := hhead
    rw [this]
    refine and_congr_left fun _ => ⟨?_, fun hq => ?_⟩
    · rintro (hrep | ⟨hrep, -⟩)
      · rcases kept with hk | ⟨-, hk, -⟩
        · rw [hk, hrst] at hrep; exact hrep
        · rw [hk] at hrep; cases hrep
      · exact h.replaying hrep
    · rcases kept with hk | ⟨-, hk, -⟩
      · rw [hk, hrst]; exact .inl hq
      · rcases hu with hu | hu
        · rw [hu] at hk; rw [show s.station.state = .replaying from hq] at hk; cases hk
        · exact .inr ⟨hu, hk⟩
  have hlag : ((m.reformLink).wantFrame).clock.causes.lag =
      if q.station.state = .replaying ∧ q.lagInputs ≠ b.lagInputs then q.lagAfter else u.clock.causes.lag := by
    rw [← h.lag, ← h.clock]
    show m.clock.causes.lag = _
    rw [hclock]
    exact q.testLag_cause b
  refine
    { ownAnnounced := ?_, clock := ?_, attention := ?_, tx := ⟨?_, ?_, ?_⟩, bounds := agree.1
      peerHold := agree.2.1, link := agree.2.2, linkFlag := ?_, lag := ?_, lagFlag := ?_, stall := ?_ }
  · simp only [State.wantFrame_horizon, State.reformLink_horizon, hhor, ← h.ownAnnounced]
    rw [hr]
  · simp only [State.wantFrame_clock, State.reformLink_clock, hclock, ← h.clock]
    rw [hr]
  · simp only [State.wantFrame_attention, State.reformLink, ← h.attention]
    rw [hatt, hr]
  · simp only [State.wantFrame, State.reformLink_tx, htx, h.tx]
  · intro hi hwt
    simp only [State.wantFrame, State.reformLink_tx, htx, h.tx, hi, hw.2 hwt, and_self, if_true]
  · intro hn
    simp only [State.wantFrame, State.reformLink_tx, htx, h.tx]
    rw [if_neg]
    rintro ⟨hi, hwt⟩
    exact hn.elim (fun hne => hne hi) fun hnw => hnw (hw.1 hwt)
  · show (m.reformLink).attention.flags.link = _
    simp only [State.wantFrame_attention, State.reformLink, ← h.attention]
    rw [hatt, hr]
  · refine ⟨fun hn => ?_, fun ht i hi hs hl => ?_, fun ht i hi hs hl hl' => ?_, fun ht hb => ?_⟩
    · rw [hlag, if_neg (fun hc => hn (tested.2 hc))]
    · rw [hlag, if_pos (tested.1 ht)]
      rw [hqh] at hi; rw [hqs] at hs; rw [hqi, hqm] at hl
      exact State.lagAfter_above hi hs hl
    · rw [hlag, if_pos (tested.1 ht), ← h.lag, ← h.clock]
      rw [hqh] at hi; rw [hqs] at hs; rw [hqi, hqm] at hl hl'
      exact State.lagAfter_between hi hs hl hl'
    · rw [hlag, if_pos (tested.1 ht)]
      rw [hqh, hqs, hqi, hqm] at hb
      exact State.lagAfter_below hb
  · rw [← h.attention, ← h.lag, ← h.clock]
    show m.attention.flags.lag = (_ || (m.clock.causes.lag && _))
    rw [hclock, hatt]
    exact q.testLag_flag b
  · have hst : (q.testLag b).stallHolds = true ↔ ((m.reformLink).wantFrame).Stalls := by
      rw [State.stallHolds_iff]
      have hh : (q.testLag b).leastHead = q.leastHead := State.leastHead_congr (by simp) (by simp) (by simp)
      have hi : (q.testLag b).clock.integer = q.clock.integer := by rw [State.testLag_spec]
      simp only [State.Stalls, hh, hi, hqh, hqi, hqs, State.testLag_station, State.testLag_horizon]
      rcases kept with hk | ⟨hk, hk', hn⟩
      · have : ((m.reformLink).wantFrame).station.state = q.station.state := by
          show m.station.state = _
          rw [hk, hrst]; rfl
        rw [this]
      · have : q.leastHead = none := by rw [← hn, hrhead]; rfl
        simp [this]
    have hold : (q.testLag b).clock.stall = u.clock.stall := by rw [State.testLag_spec, ← h.stall.1, ← h.clock]; rfl
    have htim : (q.testLag b).clock.stallTimer = u.clock.stallTimer := by
      rw [State.testLag_spec, ← h.stall.2, ← h.clock]; rfl
    have hsafe : (q.testLag b).horizon.safeTime = ((m.reformLink).wantFrame).horizon.safeTime := by
      rw [State.testLag_horizon, hqs]
    have hS : ((m.reformLink).wantFrame).clock.stall =
        (u.clock.stall && !decide (u.horizon.safeTime < ((m.reformLink).wantFrame).horizon.safeTime)) := by
      rw [h.safe, ← hsafe, ← hold]
      show m.clock.stall = _
      rw [hclock]; rfl
    have hT : ((m.reformLink).wantFrame).clock.stallTimer =
        if (((m.reformLink).wantFrame).clock.stall || !(q.testLag b).stallHolds) = true then none
        else if u.horizon.safeTime = ((m.reformLink).wantFrame).horizon.safeTime then some (u.clock.stallTimer.getD 0)
        else some 0 := by
      rw [hS, h.safe, ← hsafe, ← hold, ← htim]
      show m.clock.stallTimer = _
      rw [hclock]; rfl
    refine ⟨?_, fun hn => ?_, fun hs hc he => ?_, fun hs hc he => ?_⟩
    · rw [hS]
      simp only [Bool.and_eq_true, Bool.not_eq_true', decide_eq_false_iff_not, not_lt]
    · rw [hT, if_pos]
      rw [← hst, Bool.not_eq_true] at hn
      rcases hn with hn | hn
      · simp only [hn, Bool.true_or]
      · simp only [hn, Bool.not_false, Bool.or_true]
    · rw [hT, if_neg (by rw [hs, hst.2 hc]; simp), if_pos he.symm]
    · rw [hT, if_neg (by rw [hs, hst.2 hc]; simp), if_neg fun hh => he hh.symm]

/-- `settle` leaves everything but what is re-formed. -/
theorem State.settle_onlyReformed {u s b : State} (h : u.ActBase u s b) : u.OnlyReformed (s.settle b) where
  toReformed := State.reformed_of h (s.retimed b).completionFrame_refl
    (.inl (congrArg (·.station.state) (s.retimed_spec b)))
  complete := by
    show ((s.retimed b).reformLink).attention.flags.complete = _
    simp only [State.reformLink, ← h.attention]
    rw [State.retimed_spec]

theorem State.CompletionFrame.drained {m r : State} (h : m.CompletionFrame r) : r.drained = m.drained := by
  obtain ⟨same, -, heng, -⟩ := h
  have e1 : r.engine.inFlight = m.engine.inFlight := by rw [heng]
  have e2 : r.engine.apply = m.engine.apply := by rw [heng]
  simp only [State.drained, State.anyCounted, e1, e2]
  rw [same]

/-- `settleComplete` leaves everything but what the act writes and what is re-formed, and takes the completion test. -/
theorem State.settleComplete_reformedWith {u w s b : State} (h : u.ActBase w s b) (hs : s.station = u.station)
    (he : s.engine.completeOwed = u.engine.completeOwed) (hd : u.drained = b.drained)
    (hc : w.attention.flags.complete = u.attention.flags.complete) :
    u.ReformedWith w (s.settleComplete b) := by
  have hf := (s.retimed b).completionFrame_testCompletion b
  have hst : (s.retimed b).station = s.station := by rw [State.retimed_spec]
  have hu : ((s.retimed b).testCompletion b).station.state = s.station.state ∨ u.station.state = .replaying := by
    rcases hf.kept with hk | ⟨hk, -, -⟩
    · exact .inl (by rw [hk, hst])
    · exact .inr (by rw [← hs, ← hst, hk])
  have hD : (s.settleComplete b).Drained ↔ (s.retimed b).drained = true := by
    rw [← State.drained_iff, ← hf.drained, State.settleComplete_eq]
    simp [State.drained, State.anyCounted]
  have hto : u.ComesToEnd (s.settleComplete b) ↔
      (s.retimed b).station.state = .replaying ∧ (s.retimed b).drained = true ∧ b.drained = false := by
    rw [State.ComesToEnd, hD, ← State.drained_iff, hd, hst, hs, Bool.not_eq_true]
    exact ⟨fun ⟨a, b, c⟩ => ⟨a, c, b⟩, fun ⟨a, b, c⟩ => ⟨a, c, b⟩⟩
  have hm := (s.retimed b).testCompletion_spec b
  have eS : (s.settleComplete b).station = ((s.retimed b).testCompletion b).station := by
    rw [State.settleComplete_eq, State.wantFrame_station, State.reformLink_station]
  have eF : (s.settleComplete b).attention.flags.complete =
      ((s.retimed b).testCompletion b).attention.flags.complete := by
    rw [State.settleComplete_eq, State.wantFrame_attention]
    rfl
  have eO : (s.settleComplete b).engine = ((s.retimed b).testCompletion b).engine := by
    rw [State.settleComplete_eq, State.wantFrame_engine, State.reformLink_engine]
  have hfl : (s.retimed b).attention.flags.complete = u.attention.flags.complete := by
    rw [← hc, ← h.attention, State.retimed_spec]
  have hen : (s.retimed b).engine = s.engine := by rw [State.retimed_spec]
  refine { toReformed := State.reformed_of h hf hu, completes := fun hc => ?_, otherwise := fun hc => ?_ }
  · rw [if_pos (hto.1 hc)] at hm
    refine ⟨?_, ?_, ?_⟩
    · rw [eS, congrArg State.station hm, ← hs, ← hst]
    · rw [eF]; exact congrArg (·.attention.flags.complete) hm
    · rw [eO]; exact congrArg (·.engine.completeOwed) hm
  · rw [if_neg fun hh => hc (hto.2 hh)] at hm
    refine ⟨?_, ?_, ?_⟩
    · rw [eS, hm, hst, hs]
    · rw [eF, hm, hfl]
    · rw [eO, hm, hen, he]

/-! ## The step that a removal completes -/

/-- The completion of a step leaves the clock and the BREAK flag that R102 and R103 give. -/
theorem State.completeStep_eq (s : State) (t : Nat) : s.completeStep t = s.steppedTo t := by
  unfold State.completeStep State.steppedTo
  split
  · dsimp only
    split
    · rename_i h hh
      by_cases hr : h ≤ max s.clock.integer t
      · simp only [hh, hr, Option.any_some, decide_true, if_true, Bool.or_true, State.setBreak]
      · simp only [hh, hr, Option.any_some, decide_false, Bool.false_eq_true, if_false, Bool.or_false]
    · rename_i hh
      simp only [hh, Option.any_none, Bool.false_eq_true, if_false, Bool.or_false]
  · rfl

/-- The completed step writes the clock and the attention unit alone. -/
theorem State.steppedTo_frame (s : State) (t : Nat) : s.steppedTo t = { s with
    clock := (s.steppedTo t).clock, attention := (s.steppedTo t).attention } := by
  unfold State.steppedTo
  dsimp only
  split <;> rfl

/-- The completed step leaves LAG, STALL and its timer, and the COMPLETE flag, so that it is an act's own write in
`State.ActBase`. -/
theorem State.steppedTo_keeps (s : State) (t : Nat) :
    (s.steppedTo t).clock.causes.lag = s.clock.causes.lag ∧ (s.steppedTo t).clock.stall = s.clock.stall ∧
    (s.steppedTo t).clock.stallTimer = s.clock.stallTimer ∧
    (s.steppedTo t).attention.flags.complete = s.attention.flags.complete := by
  unfold State.steppedTo
  dsimp only
  split <;> exact ⟨rfl, rfl, rfl, rfl⟩

/-! ## The parts that later proofs cite alone -/

/-- The base of an act that writes nothing of its own where what is re-formed stands. -/
theorem State.actBase_self (s b : State) (hi : s.clock.integer = b.clock.integer) (hh : s.leastHead = b.leastHead)
    (hs : s.horizon.safeTime = b.horizon.safeTime) : s.ActBase s s b :=
  ⟨rfl, rfl, rfl, rfl, rfl, ⟨rfl, rfl⟩, hi, hh, hs, id⟩

/-- After `settle` the bounds, the PEER cause and the LINK condition agree with what they are formed from, whatever the
act. -/
theorem State.settle_agrees (s b : State) :
    (s.settle b).BoundsAgree ∧ (s.settle b).PeerHoldAgrees ∧ (s.settle b).LinkAgrees :=
  State.agrees_of (s.retimed b).completionFrame_refl

theorem State.settleComplete_agrees (s b : State) :
    (s.settleComplete b).BoundsAgree ∧ (s.settleComplete b).PeerHoldAgrees ∧ (s.settleComplete b).LinkAgrees :=
  State.agrees_of ((s.retimed b).completionFrame_testCompletion b)

end Sys2Proof.Machine
end

