-- ==== Sys2Proof/Laws/Dispatch.lean ====
section
/-! SUPPORT. What the dispatch, the step, the feed port and the command unit answer: one lemma for each. -/

namespace Sys2Proof.Machine

/-! ## Dispatch and step -/

/-- Every command leaves a next state: no command faults and none is refused. -/
theorem exec_answers_next (i : Instr) (s : State) : ∃ t, exec i s = .next t := by
  cases i <;> exact ⟨_, rfl⟩

/-- A step with a command in front runs it on the queue's rest. -/
theorem step_cons {s : State} {i : Instr} {rest : List Instr} (h : s.pending = i :: rest) :
    Machine.step s = exec i { s with pending := rest } := by
  simp only [Machine.step, State.popCommand, h, List.tail_cons]

/-- A step with no command waiting leaves the state. -/
theorem step_nil {s : State} (h : s.pending = []) : Machine.step s = .next s := by
  simp only [Machine.step, h]

/-- Every step answers a next state: the state itself, or what the front command leaves. -/
theorem step_next {s t : State} (h : Machine.step s = .next t) :
    (s.pending = [] ∧ t = s) ∨ ∃ i rest, s.pending = i :: rest ∧ exec i { s with pending := rest } = .next t := by
  match hp : s.pending with
  | [] =>
    rw [step_nil hp] at h
    cases h
    exact .inl ⟨rfl, rfl⟩
  | i :: rest =>
    rw [step_cons hp] at h
    exact .inr ⟨i, rest, rfl, h⟩

/-! ## Feed port -/

/-- The screening tests in their order: the first that fails gives the reason (R5). -/
theorem screen_eq_none {form accepted inRange : Bool} :
    screen form accepted inRange = none ↔ form = true ∧ accepted = true ∧ inRange = true := by
  cases form <;> cases accepted <;> cases inRange <;> simp [screen]

theorem screen_malformed (accepted inRange : Bool) : screen false accepted inRange = some .malformed := rfl

theorem screen_wrongState (inRange : Bool) : screen true false inRange = some .wrongState := rfl

theorem screen_outOfRange : screen true true false = some .outOfRange := rfl

/-- A record whose write ends is refused by its screening, or handed to its own work. -/
theorem State.receiveRecord_ends {s : State} (h : s.RecordEnds) (kind : Byte) (verdict : Option AnswerReason)
    (work : State → State) :
    s.receiveRecord kind verdict work = match verdict with
      | some r => s.withAnswer kind .refused (some r) none
      | none => work s := by
  have : s.recordArrives = true := by simp [State.recordArrives, h.busy, h.idle]
  simp only [State.receiveRecord, this, if_true]
  cases verdict <;> rfl

/-- The end of a write that the port ignored hands nothing over (R3). -/
theorem State.receiveRecord_ignored {s : State} (h : s.recordArrives = false) (kind : Byte)
    (verdict : Option AnswerReason) (work : State → State) : s.receiveRecord kind verdict work = s := by
  simp [State.receiveRecord, h]

/-! ## Command unit -/

/-- With no command in flight nothing is decided. -/
@[simp] theorem State.decideWaiting_none {s : State} (h : s.console.inFlight = none) : s.decideWaiting = s := by
  simp [State.decideWaiting, h]

/-- A command whose write ends is decided at once where it can be, and waits where it cannot (R135). -/
theorem State.submit_spec {s : State} (h : s.console.writing = true) (c : Command) :
    s.submit c = if s.canDecide c = true then s.written.decideCommand c
      else { s with console := { s.console with writing := false, inFlight := some c } } := by
  have can : ({ s with console := { s.console with writing := false, inFlight := some c } } : State).canDecide c =
      s.canDecide c := rfl
  simp only [State.submit, h, if_true, State.decideWaiting, can]
  split <;> rfl

/-- A command that fails a test changes nothing but for its REFUSED reply (R136). -/
theorem State.decideCommand_refused {s : State} {c : Command} {r : RefuseReason}
    (h : s.written.commandTest c = some r) :
    s.written.decideCommand c = s.written.withReply (commandKind c) (some r) false := by
  have h' : ({ s.written with console := { s.written.console with inFlight := none } } : State).commandTest c = some r :=
    h
  simp only [State.decideCommand, h', State.replyBody]
  cases c <;> rfl

/-- A command that passes its tests takes its effect, and its reply is queued after it (R135, R136). -/
theorem State.decideCommand_accepted {s : State} {c : Command} (h : s.written.commandTest c = none) :
    s.written.decideCommand c =
      (s.written.commandEffect c).enqueue ((s.written.commandEffect c).replyBody c none) := by
  have h' : ({ s.written with console := { s.written.console with inFlight := none } } : State).commandTest c = none := h
  simp only [State.decideCommand, h']
  rfl

/-- The order of the tests on a command: form, station state, its own (R135). -/
theorem State.commandTest_spec (s : State) (c : Command) :
    s.commandTest c =
      if commandFormHolds c = false then some .malformed
      else if commandAccepted s.station.state c = false then some .wrongState
      else s.ownTest c := by
  unfold State.commandTest
  cases commandFormHolds c <;> cases commandAccepted s.station.state c <;> rfl

end Sys2Proof.Machine
end

