-- ==== Sys2Proof/Laws/Order.lean ====
section
/-! SUPPORT. The order of release keys (R2), and insertion in key order (R39, R86, R119). -/

namespace Sys2Proof.Machine

/-! ## The order of release keys -/

/-- The order of release keys, field by field. -/
theorem Key.lt_iff (a b : Key) : a.lt b = true ↔
    a.time < b.time ∨ a.time = b.time ∧ (a.origin < b.origin ∨ a.origin = b.origin ∧
      (a.source < b.source ∨ a.source = b.source ∧ a.ordinal < b.ordinal)) := by
  simp [Key.lt]

theorem Key.eq_iff (a b : Key) :
    a = b ↔ a.time = b.time ∧ a.origin = b.origin ∧ a.source = b.source ∧ a.ordinal = b.ordinal := by
  cases a; cases b; simp

@[simp] theorem Key.lt_irrefl (a : Key) : a.lt a = false := by
  simp [Key.lt]

theorem Key.lt_trans {a b c : Key} (h : a.lt b = true) (h' : b.lt c = true) : a.lt c = true := by
  rw [Key.lt_iff] at *; omega

theorem Key.lt_asymm {a b : Key} (h : a.lt b = true) : b.lt a = false := by
  rw [← Bool.not_eq_true, Key.lt_iff]
  rw [Key.lt_iff] at h; omega

theorem Key.lt_total (a b : Key) : a.lt b = true ∨ a = b ∨ b.lt a = true := by
  rw [Key.lt_iff, Key.lt_iff, Key.eq_iff]; omega

theorem Key.le_iff (a b : Key) : a.le b = true ↔ a.lt b = true ∨ a = b := by
  simp [Key.le]

/-- A key not below another is above it or the same. -/
theorem Key.not_lt {a b : Key} (h : a.lt b = false) : b.lt a = true ∨ b = a := by
  rcases Key.lt_total a b with h' | rfl | h'
  · simp [h'] at h
  · exact .inr rfl
  · exact .inl h'

theorem Key.time_le_of_lt {a b : Key} (h : a.lt b = true) : a.time ≤ b.time := by
  rw [Key.lt_iff] at h; omega

/-! ## Insertion -/

section
variable {α : Type} {key : α → Key}

@[simp] theorem mem_insertByKey (x y : α) (xs : List α) : y ∈ insertByKey key x xs ↔ y = x ∨ y ∈ xs := by
  induction xs with
  | nil => simp [insertByKey]
  | cons z zs ih =>
    simp only [insertByKey]
    split
    · simp
    · simp only [List.mem_cons, ih]; tauto

@[simp] theorem length_insertByKey (x : α) (xs : List α) : (insertByKey key x xs).length = xs.length + 1 := by
  induction xs with
  | nil => rfl
  | cons z zs ih =>
    simp only [insertByKey]
    split <;> simp [ih]

/-- Insertion of an item whose key the list does not hold keeps the list in strictly increasing key order. -/
theorem KeySorted.insert {x : α} {xs : List α} (h : KeySorted key xs) (fresh : ∀ y ∈ xs, key y ≠ key x) :
    KeySorted key (insertByKey key x xs) := by
  unfold KeySorted at *
  induction xs with
  | nil => simp [insertByKey]
  | cons z zs ih =>
    obtain ⟨hz, hzs⟩ := List.pairwise_cons.1 h
    simp only [insertByKey]
    split
    · rename_i lt
      exact List.pairwise_cons.2 ⟨fun y hy => by
        rcases List.mem_cons.1 hy with rfl | hy
        · exact lt
        · exact Key.lt_trans lt (hz y hy), h⟩
    · rename_i nlt
      refine List.pairwise_cons.2 ⟨fun y hy => ?_, ih hzs fun y hy => fresh y (List.mem_cons_of_mem z hy)⟩
      rcases (mem_insertByKey x y zs).1 hy with rfl | hy
      · rcases Key.not_lt (Bool.eq_false_iff.2 nlt) with h' | h'
        · exact h'
        · exact absurd h' (fresh z (by simp))
      · exact hz y hy

/-- Some entries taken out leave the rest in order. -/
theorem KeySorted.filter {xs : List α} (h : KeySorted key xs) (p : α → Bool) : KeySorted key (xs.filter p) :=
  List.Pairwise.filter p h

theorem KeySorted.tail {xs : List α} (h : KeySorted key xs) : KeySorted key xs.tail :=
  List.Pairwise.tail h

/-- Entries rewritten without a change of key keep their order. -/
theorem KeySorted.map {β : Type} {key' : β → Key} {xs : List α} (h : KeySorted key xs) (f : α → β)
    (hf : ∀ x, key' (f x) = key x) : KeySorted key' (xs.map f) := by
  unfold KeySorted at *
  rw [List.pairwise_map]
  simpa [hf] using h

end

/-! ## The least head (R109) -/

/-- The lesser of two heads is one of them, and neither lies below it. -/
theorem lesserHead_spec {a b : Option Item} {i : Item} (h : lesserHead a b = some i) :
    (a = some i ∨ b = some i) ∧ (∀ j, a = some j → j.key.lt i.key = false) ∧
      ∀ j, b = some j → j.key.lt i.key = false := by
  cases a with
  | none => cases b with
    | none => simp [lesserHead] at h
    | some b =>
      simp only [lesserHead, Option.some.injEq] at h
      subst h; simp
  | some a => cases b with
    | none =>
      simp only [lesserHead, Option.some.injEq] at h
      subst h; simp
    | some b =>
      simp only [lesserHead] at h
      split at h <;> rename_i lt <;> simp only [Option.some.injEq] at h <;> subst h
      · exact ⟨.inr rfl, fun j hj => by cases hj; exact Key.lt_asymm lt, fun j hj => by cases hj; simp⟩
      · exact ⟨.inl rfl, fun j hj => by cases hj; simp, fun j hj => by cases hj; exact Bool.eq_false_iff.2 lt⟩

end Sys2Proof.Machine
end

