-- ==== Sys2Proof/Tests/Slice0.lean ====
section
/-! SUPPORT. Tests on fixed states, and for each statement with hypotheses a state that meets them. Expected values come
from the manual: the worked replay (file 12), the worked sequences of files 01 to 07, and the tables of file 11. -/

namespace Sys2Proof.Tests

set_option Elab.async false

open Sys2Proof Sys2Proof.Machine

/-! ## Helpers -/

/-- The state a command leaves. -/
def after (i : Instr) (s : State) : State :=
  match Machine.exec i s with
  | .next t => t
  | .fault _ => s
  | .refused _ => s

/-- The state with a record's write under way. -/
def writing (s : State) : State := { s with feed := ⟨.busy, none, none⟩ }

/-- The state with a command's write under way. -/
def commanding (s : State) : State := { s with console := ⟨true, none, s.console.skew⟩ }

/-- A source as commit leaves it, with identity correction and start bound 4,000,000 (file 12). -/
def openSource (quality window : Nat) : Source := { Source.powerOn with
  state := .opened
  startBound := some 4000000
  quality := some quality
  window := some window
  firstSegment := some ⟨0, 0, 0⟩
  current := some ⟨0, 0, 0⟩
  watermark := some 4000000 }

/-- An element at rest. -/
def element (nodes : Option (Nat × Nat)) (ownership : Ownership) (position : Position) (travelLimit : Nat) : Element where
  nodes := nodes
  ownership := ownership
  initial := position
  current := position
  travelLimit := travelLimit
  travelStart := none
  stuck := false
  chatterEnable := false
  chatter := .normal
  windowStart := none
  windowCount := 0
  suppressed := 0
  lastRelease := none
  watch := .none

/-- A peer heard once, at a horizon. -/
def heardPeer (horizon : Nat) : Peer := { Peer.powerOn with
  state := .active
  horizon := horizon
  senderState := some .replaying
  expectedSeq := some 1
  silence := some 0
  frames := 1 }

/-- Station 0 as the worked replay begins: REPLAYING, held by LOCAL at 4,200,000, peer 1 ACTIVE (file 12). -/
def stationZero : State := { State.powerOn 0 with
  station := ⟨0, .replaying, 0, 0, false⟩
  settings := { Settings.default with expectedMask := 2, startTime := 4200000 }
  sources := ((State.powerOn 0).sources.setIfInBounds 0 (openSource 0 2000)).setIfInBounds 1 (openSource 2 20000)
  points := [⟨0, 3, 3, false⟩, ⟨1, 3, 3, false⟩, ⟨0, 4, 4, false⟩]
  elements := ((State.powerOn 0).elements.setIfInBounds 3 (some (element (some (5, 2)) (.localTie 12) .opened 0))).setIfInBounds
    4 (some (element (some (5, 6)) .localOnly .closed 0))
  islands := ⟨joinLabels ownLabels (5, 6), 2, 0, none⟩
  peers := (State.powerOn 0).peers.setIfInBounds 1 (heardPeer 4000000)
  horizon := ⟨4000000, some 4000000, 4000000, .source 0⟩
  clock := { Clock.powerOn with
    integer := 4200000, causes := { HoldCauses.empty with localHold := true }, reported := .held }
  tx := ⟨.idle, 1, 0, some ⟨4000000, true, false, .replaying⟩, some 0⟩ }

/-- Station 1 as the worked replay begins, with its mirror of tie 12 and its travelling breaker (file 12). -/
def stationOne : State := { State.powerOn 1 with
  station := ⟨1, .replaying, 0, 0, false⟩
  settings := { Settings.default with expectedMask := 5, startTime := 4200000 }
  sources := ((State.powerOn 1).sources.setIfInBounds 0 { openSource 0 2000 with watermark := some 4500000 }).setIfInBounds 4
    (openSource 1 5000)
  points := [⟨4, 9, 9, false⟩, ⟨0, 11, 11, false⟩]
  elements := (((State.powerOn 1).elements.setIfInBounds 8 (some (element (some (3, 10)) (.mirror 12 0) .opened 0))).setIfInBounds
    9 (some (element (some (10, 11)) .localOnly .closed 50))).setIfInBounds
    11 (some (element (some (11, 4)) (.localTie 40) .closed 0))
  islands := ⟨joinLabels (joinLabels ownLabels (10, 11)) (11, 4), 2, 0, none⟩
  peers := ((State.powerOn 1).peers.setIfInBounds 0 (heardPeer 4000000)).setIfInBounds 2 (heardPeer 4300000)
  horizon := ⟨4000000, some 4000000, 4000000, .source 4⟩
  clock := { Clock.powerOn with
    integer := 4200000, causes := { HoldCauses.empty with localHold := true }, reported := .held }
  tx := ⟨.idle, 1, 0, some ⟨4000000, true, false, .replaying⟩, some 0⟩ }

/-! ## Well-formedness: an ill-formed command for each check -/

theorem test_wellFormed_refuses_malformedFeedRecord_of_a_known_kind :
    (Instr.malformedFeedRecord 7 3).wellFormed = false := by decide
theorem test_wellFormed_refuses_malformedCommand_of_a_known_kind :
    (Instr.malformedCommand 18).wellFormed = false := by decide
theorem test_wellFormed_refuses_collision_after_the_window : (Instr.collision 65).wellFormed = false := by decide
theorem test_wellFormed_refuses_collision_before_the_frame : (Instr.collision 0).wellFormed = false := by decide
theorem test_wellFormed_refuses_transmitError_in_the_window : (Instr.transmitError 64).wellFormed = false := by decide
theorem test_wellFormed_refuses_transmitError_after_the_longest_frame :
    (Instr.transmitError 961).wellFormed = false := by decide
theorem test_wellFormed_refuses_more_bits_than_a_frame_has :
    (Instr.frameReceive (List.replicate 937 true) false).wellFormed = false := by decide +kernel
theorem test_wellFormed_refuses_frameOpened_out_of_rate : (Instr.frameOpened ⟨12, 1519999⟩ 0).wellFormed = false := by decide
theorem test_wellFormed_refuses_frameOpened_without_a_quiet_line :
    (Instr.frameOpened ⟨11, 1600000⟩ Config.startDelimiter).wellFormed = false := by
  simp [Instr.wellFormed, quietGap]
theorem test_wellFormed_refuses_syncReject_of_a_frame_that_opens :
    (Instr.syncReject ⟨12, 1600000⟩ Config.startDelimiter).wellFormed = false := by
  simp [Instr.wellFormed, preambleOpens, preambleInRate]
theorem test_wellFormed_takes_the_end_of_every_record :
    (Instr.event ⟨0, 0⟩ ⟨0, 0, 0, 0, 0, 0, 0⟩).wellFormed = true := by decide

/-! ## No word spells a command -/

theorem test_no_word_spells_a_command : decodeTableWord 8 7 = none := by decide
theorem test_withFetchWord_leaves_the_state : State.reset.withFetchWord 8 7 = State.reset := rfl

/-! ## Reset -/

theorem test_powerOnReset_takes_the_straps : (after (.powerOnReset 9) stationZero).station.number = 9 := by decide
theorem test_powerOnReset_clears_the_sources : (after (.powerOnReset 9) stationZero).source 0 = Source.powerOn := by decide

/-! ## Feed port and description -/

theorem test_feedWriteStart_goes_busy : (after .feedWriteStart State.reset).feed.port = .busy := by decide
theorem test_feedWriteStart_reports_while_busy :
    (after .feedWriteStart (writing State.reset)).attention.capture.first = some ⟨.feedProto, none, 0⟩ := by decide
theorem test_stationSettings_moves_to_loading :
    (after (.stationSettings ⟨20, 22⟩ ⟨2, 4200000, 10, 1000, 10, 1000, 8, 5000, 1, 0⟩) (writing State.reset)).station.state =
      .loading := by decide
theorem test_stationSettings_refuses_a_lag_limit_of_zero :
    (after (.stationSettings ⟨20, 22⟩ ⟨2, 4200000, 0, 1000, 10, 1000, 8, 5000, 1, 0⟩) (writing State.reset)).feed.answer =
      some ⟨1, .refused, some .outOfRange, none⟩ := by decide
theorem test_declareSource_is_taken :
    ((after (.declareSource ⟨26, 28⟩ ⟨31, 4000000, 3, 1000000, ⟨0, 0, 500000⟩⟩) (writing State.reset)).source 31).state =
      .declared := by decide
theorem test_declareSource_of_a_declared_source_conflicts :
    (after (.declareSource ⟨26, 28⟩ ⟨31, 0, 3, 0, ⟨0, 0, 0⟩⟩) (writing (after (.declareSource ⟨26, 28⟩
      ⟨31, 4000000, 3, 1000000, ⟨0, 0, 500000⟩⟩) (writing State.reset)))).feed.answer =
      some ⟨2, .refused, some .conflict, none⟩ := by decide
theorem test_element_describes_a_mirror :
    ((after (.element ⟨12, 14⟩ ⟨8, 1, 3, 10, 2, 12, 0, 0, 0, 0⟩) (writing State.reset)).elementAt 8).map Element.ownership =
      some (.mirror 12 0) := by decide +kernel
theorem test_element_mirror_with_a_travel_limit_is_out_of_range :
    (after (.element ⟨12, 14⟩ ⟨8, 1, 3, 10, 2, 12, 0, 0, 1, 0⟩) (writing State.reset)).feed.answer =
      some ⟨3, .refused, some .outOfRange, none⟩ := by decide
theorem test_point_of_an_undeclared_source_conflicts :
    (after (.point ⟨5, 7⟩ ⟨0, 3, 3, 0⟩) (writing State.reset)).feed.answer =
      some ⟨4, .refused, some .conflict, none⟩ := by decide

/-- A description of one source, one element and one point, in LOADING. -/
def described : State := { State.powerOn 0 with
  station := ⟨0, .loading, 0, 0, false⟩
  settings := { Settings.default with expectedMask := 2, startTime := 4200000, initialMask := ⟨true, true, true, true, true, true⟩ }
  sources := (State.powerOn 0).sources.setIfInBounds 0 { Source.powerOn with
    state := .declared, startBound := some 4000000, quality := some 0, window := some 2000, firstSegment := some ⟨0, 0, 0⟩ }
  points := [⟨0, 3, 3, false⟩]
  elements := (State.powerOn 0).elements.setIfInBounds 3 (some (element (some (5, 2)) (.mirror 12 1) .opened 0)) }

theorem test_point_is_taken :
    (after (.point ⟨5, 7⟩ ⟨0, 4, 3, 1⟩) (writing described)).points = [⟨0, 3, 3, false⟩, ⟨0, 4, 3, true⟩] := by decide
theorem test_commit_refuses_a_point_on_a_mirror_element :
    (after (.commit ⟨0, 2⟩) (writing described)).feed.answer = some ⟨5, .refused, some .conflict, none⟩ := by decide +kernel
theorem test_commit_corrects_the_start_bound :
    ((after (.commit ⟨0, 2⟩) (writing { described with points := [] })).source 0).watermark = some 4000000 := by decide +kernel

/-! ## Records of a source -/

theorem test_segment_at_the_start_bound_is_stale :
    (after (.segment ⟨16, 18⟩ ⟨0, ⟨4000000, 0, 0⟩⟩) (writing stationZero)).feed.answer =
      some ⟨6, .refused, some .staleSegment, none⟩ := by decide
theorem test_segment_above_the_start_bound_is_next :
    ((after (.segment ⟨16, 18⟩ ⟨0, ⟨4000001, 5, 0⟩⟩) (writing stationZero)).source 0).next = some ⟨4000001, 5, 0⟩ := by decide

/-- Station 0 with its first EVENT in intake (file 12, event 1). -/
def firstIntake : State := after (.event ⟨14, 16⟩ ⟨1, 0, 4060000, 3, 1, 0, 0⟩) (writing stationZero)

theorem test_event_takes_its_key_and_the_worse_quality :
    firstIntake.feed.intake.map (fun e => (e.key, e.quality)) = some (⟨4060000, 0, 1, 0⟩, 2) := by decide +kernel
theorem test_event_at_an_unmapped_point_is_discarded :
    (after (.event ⟨14, 16⟩ ⟨1, 0, 4060000, 9, 1, 0, 0⟩) (writing stationZero)).feed.answer =
      some ⟨7, .discarded, some .unmapped, none⟩ := by decide

/-- Station 0 after event 1 of file 12: the entry a is pending with its copy. -/
def entryPending : State := after .mergeAct firstIntake

theorem test_mergeAct_inserts_with_a_copy :
    (entryPending.pendingQueue.map PendingEntry.key, entryPending.outgoing.map OutgoingCopy.key) =
      ([⟨4060000, 0, 1, 0⟩], [⟨4060000, 0, 1, 0⟩]) := by decide +kernel

/-- Station 0 with the better report of event 2 of file 12 in intake. -/
def betterIntake : State := after (.event ⟨14, 16⟩ ⟨0, 0, 4052000, 3, 1, 0, 0⟩) (writing entryPending)

theorem test_mergeAct_replaces_with_the_better_report :
    (after .mergeAct betterIntake).pendingQueue.map (fun x => (x.key, x.quality, x.replaced, x.confirmations)) =
      [(⟨4052000, 0, 0, 0⟩, 0, true, 1)] := by decide +kernel
theorem test_progress_raises_the_watermark :
    (after (.progress ⟨7, 9⟩ ⟨0, 4110000⟩) (writing entryPending)).horizon.lw = 4060000 := by decide +kernel
theorem test_progress_below_the_watermark_leaves_it :
    ((after (.progress ⟨7, 9⟩ ⟨1, 4010000⟩) (writing entryPending)).source 1).watermark = some 4060000 := by decide +kernel
theorem test_endSource_leaves_the_local_watermark_to_the_others :
    (after (.endSource ⟨1, 3⟩ 0) (writing entryPending)).horizon = ⟨4060000, some 4000000, 4000000, .peer 1⟩ := by decide +kernel
theorem test_malformedFeedRecord_echoes_its_kind :
    (after (.malformedFeedRecord 200 5) (writing State.reset)).feed.answer =
      some ⟨200, .refused, some .malformed, none⟩ := by decide

/-! ## Console commands -/

/-- Station 0 before START, in READY. -/
def readyZero : State := { stationZero with
  station := ⟨0, .ready, 0, 0, true⟩
  clock := { stationZero.clock with causes := { HoldCauses.empty with startPending := true } } }

/-- The body of the newest record in the delivery queue. -/
def newest (s : State) : Option RecordBody := s.delivery.queue.getLast?.map DeliveryRecord.body

theorem test_commandWriteStart_ignored_in_flight :
    (after .commandWriteStart { stationZero with console := ⟨false, some (.hold 0), none⟩ }).attention.capture.first =
      some ⟨.consoleProto, none, 0⟩ := by decide
theorem test_start_begins_the_replay : (after (.start 0) (commanding readyZero)).station = ⟨0, .replaying, 0, 0, false⟩ := by
  decide
theorem test_start_in_replaying_is_refused :
    newest (after (.start 0) (commanding stationZero)) =
      some (.reply ⟨1, some .wrongState, false, AttentionFlags.clear⟩) := by decide
theorem test_hold_adds_local : (after (.hold 0) (commanding readyZero)).clock.causes.localHold = true := by decide
theorem test_resume_clears_local : (after (.resume 0) (commanding stationZero)).clock.causes = HoldCauses.empty := by decide
theorem test_resume_of_a_clock_not_held :
    newest (after (.resume 0) (commanding readyZero)) =
      some (.reply ⟨3, some .notHeld, false, AttentionFlags.clear⟩) := by decide
theorem test_step_arms : (after (.step 0) (commanding stationZero)).clock.stepArmed = true := by decide
theorem test_setRate_zero_gives_one : (after (.setRate 4 0) (commanding stationZero)).clock.rate = 1 := by decide
theorem test_setRate_clamp_is_flagged :
    newest (after (.setRate 4 20000000) (commanding stationZero)) =
      some (.reply ⟨5, none, true, AttentionFlags.clear⟩) := by decide
theorem test_holdAt_at_the_clock_is_out_of_range :
    newest (after (.holdAt 5 4200000) (commanding stationZero)) =
      some (.reply ⟨6, some .outOfRange, false, AttentionFlags.clear⟩) := by decide
theorem test_holdAt_above_the_clock : (after (.holdAt 5 4200001) (commanding stationZero)).clock.holdAt = some 4200001 := by
  decide
theorem test_skipOn : (after (.skipOn 0) (commanding stationZero)).clock.skipEnable = true := by decide
theorem test_skipOff :
    (after (.skipOff 0) (commanding { stationZero with clock := { stationZero.clock with skipEnable := true } })).clock.skipEnable =
      false := by decide
theorem test_watchSet_marks_the_element :
    ((after (.watchSet 2 3 2) (commanding stationZero)).elementAt 3).map Element.watch = some .broadcast := by decide +kernel
theorem test_watchClear_of_an_unmarked_element :
    newest (after (.watchClear 1 3) (commanding stationZero)) =
      some (.reply ⟨10, some .notApplicable, false, AttentionFlags.clear⟩) := by decide +kernel
theorem test_excludePeer_lifts_its_bound :
    (after (.excludePeer 1 1) (commanding entryPending)).horizon.limiting = .source 0 := by decide +kernel
theorem test_excludePeer_keeps_the_expected_sequence :
    ((after (.excludePeer 1 1) (commanding entryPending)).peer 1).expectedSeq = some 1 := by decide +kernel

/-- Station 0 with peer 1 EXCLUDED. -/
def excludedZero : State := { stationZero with
  peers := stationZero.peers.setIfInBounds 1 { heardPeer 4000000 with state := .excluded, silence := none } }

theorem test_includePeer_makes_it_active : ((after (.includePeer 1 1) (commanding excludedZero)).peer 1).state = .active := by
  decide
theorem test_includePeer_of_an_active_peer :
    newest (after (.includePeer 1 1) (commanding stationZero)) =
      some (.reply ⟨12, some .notApplicable, false, AttentionFlags.clear⟩) := by decide
theorem test_snapshot_waits : (after (.snapshot 0) (commanding stationZero)).engine.snapshot = .waiting := by decide
theorem test_status_names_the_limiting_cause :
    (match newest (after (.status 0) (commanding stationZero)) with
      | some (.status r) => some (r.limiting, r.bytes.length)
      | _ => none) = some (.source 0, 305) := by decide +kernel
theorem test_skew_begins_at_the_first_source : (after (.skew 0) (commanding stationZero)).console.skew = some 0 := by decide
theorem test_restart_raises_the_epoch :
    (after (.restart 1 1) (commanding entryPending)).station = ⟨0, .ready, 1, 0, true⟩ := by decide +kernel
theorem test_restart_queues_restarted_first :
    ((after (.restart 1 1) (commanding entryPending)).delivery.queue.head?.map fun r => r.body) =
      some (.restarted (.command true) 0 1 4200000) := by decide +kernel
theorem test_clearFlags_keeps_link_while_it_holds :
    (after (.clearFlags 1 0x3f) (commanding { stationZero with
      tx := { stationZero.tx with state := .muted none }
      attention := { stationZero.attention with flags := ⟨true, true, true, true, true, true⟩ } })).attention.flags =
      ⟨false, false, false, false, false, true⟩ := by decide
theorem test_mask_replaces_the_mask :
    (after (.mask 1 5) (commanding stationZero)).attention.mask = ⟨true, false, true, false, false, false⟩ := by decide
theorem test_malformedCommand_is_refused :
    newest (after (.malformedCommand 200) (commanding State.reset)) =
      some (.reply ⟨200, some .malformed, false, AttentionFlags.clear⟩) := by decide

/-! ## Delivery -/

theorem test_consoleReadyAssert : (after .consoleReadyAssert State.reset).delivery.ready = true := by decide
theorem test_consoleReadyWithdraw : (after .consoleReadyWithdraw (after .consoleReadyAssert State.reset)).delivery.ready = false := by
  decide

/-- Station 0 with one record queued and the console ready. -/
def oneQueued : State := { stationZero with
  delivery := ⟨[⟨0, .holdState stationZero.clock.causes 4200000⟩], none, true⟩ }

theorem test_deliveryRecordBegin_frees_the_entry : (after .deliveryRecordBegin oneQueued).delivery.queue = [] := by decide
theorem test_deliveryRecordEnd : (after .deliveryRecordEnd (after .deliveryRecordBegin oneQueued)).delivery.sending = none := by
  decide
theorem test_holdState_reports_running :
    newest (after .holdState { stationZero with clock := { stationZero.clock with causes := HoldCauses.empty } }) =
      some (.holdState HoldCauses.empty 4200000) := by decide
theorem test_holdState_lapses : (after .holdState stationZero).delivery.queue = [] := by decide
theorem test_completeRecord_is_queued_once :
    (after .completeRecord { stationZero with engine := { stationZero.engine with completeOwed := true } }).engine.completeOwed =
      false := by decide
theorem test_skewRecord_moves_to_the_next_declared_source :
    (after .skewRecord { stationZero with console := ⟨false, none, some 0⟩ }).console.skew = some 1 := by decide

/-! ## Release and islands -/

/-- Station 0 after event 7 of file 12: the replaced entry a is below the safe time. -/
def releasable : State := after (.progress ⟨7, 9⟩ ⟨0, 4110000⟩) (writing { after .mergeAct betterIntake with
  peers := stationZero.peers.setIfInBounds 1 (heardPeer 4070000)
  horizon := ⟨4052000, some 4052000, 4052000, .source 0⟩ })

theorem test_release_closes_the_element :
    ((after .release releasable).elementAt 3).map Element.current = some .closed := by decide +kernel
theorem test_release_moves_the_release_point :
    (after .release releasable).engine.releasePoint = some ⟨4052000, 0, 0, 0⟩ := by decide +kernel

/-- Station 0 with the record of a queued, while the relabel it started is COMPUTING. -/
def relabelling : State := after .releaseRecordQueue (after .release releasable)

theorem test_release_starts_the_relabel :
    (after .release releasable).islands.relabel = some ⟨.item ⟨4052000, 0, 0, 0⟩, .computing⟩ := by decide +kernel
theorem test_releaseRecordQueue_leaves_the_release_to_its_relabel :
    (relabelling.engine.inFlight.isSome, relabelling.delivery.queue.length) = (true, 1) := by decide +kernel
theorem test_islandsEmit_follows_the_records_of_the_release :
    (after .islandsEmit (after .relabelComputed (after .release releasable))).delivery.queue = [] := by decide +kernel
theorem test_relabelComputed_joins_the_islands :
    (after .relabelComputed relabelling).islands.islandCount = 1 := by decide +kernel
theorem test_islandsEmit_carries_the_changes :
    (match newest (after .islandsEmit (after .relabelComputed relabelling)) with
      | some (.islands r) => r.changes
      | _ => []) = [(5, 5, 2), (6, 5, 2)] := by decide +kernel

/-- Station 1 with a LATE change of tie 12 handed over. -/
def handedOver : State := { stationOne with
  processing := some ⟨⟨0, 0, 1, .replaying, 4052000, false, false, []⟩, [], false,
    some ⟨⟨4052000, 0, 0, 0⟩, 8, 12, .closed, 0, 0⟩⟩ }

theorem test_lateApply_writes_the_position :
    ((after .lateApply handedOver).elementAt 8).map Element.current = some .closed := by decide +kernel
theorem test_lateApply_leaves_the_release_point : (after .lateApply handedOver).engine.releasePoint = none := by decide +kernel
theorem test_snapshotEmitting :
    (after .snapshotEmitting { stationZero with engine := { stationZero.engine with snapshot := .waiting } }).engine.snapshot =
      .emitting 0 := by decide

/-- Station 0 with a snapshot EMITTING from an element number on. -/
def emitting (n : Nat) : State := { stationZero with engine := { stationZero.engine with snapshot := .emitting n } }

theorem test_elementState_takes_the_next_present_element : (after .elementState (emitting 0)).engine.snapshot = .emitting 4 := by
  decide +kernel
theorem test_nodeLabels_ends_the_snapshot : (after .nodeLabels (emitting 5)).engine.snapshot = .none := by decide +kernel

/-! ## Clock (file 06, rate and hold-at) -/

/-- Station 0 with its clock running near a hold-at time. -/
def runningClock (integer fraction rate : Nat) (holdAt : Option Nat) : State := { stationZero with
  clock := { Clock.powerOn with integer := integer, fraction := fraction, rate := rate, holdAt := holdAt } }

theorem test_clockAdvance_reaches_the_hold_at_time :
    (fun c => (c.integer, c.fraction, c.holdAt, c.causes.brk))
      (after .clockAdvance (runningClock 2000008 0 262144 (some 2000010))).clock = (2000010, 0, none, true) := by decide
theorem test_clockAdvance_keeps_the_fraction :
    (fun c => (c.integer, c.fraction)) (after .clockAdvance (runningClock 2000265 65535 16777215 none)).clock =
      (2000521, 65534) := by decide
theorem test_stallTimeout_sets_stall :
    (after .stallTimeout { stationZero with clock := { stationZero.clock with stallTimer := some 100000 } }).attention.flags.stall =
      true := by decide

/-- Station 0 before the PROGRESS of `releasable`: the entry a lies at the safe time. -/
def overdue : State := writing { after .mergeAct betterIntake with
  peers := stationZero.peers.setIfInBounds 1 (heardPeer 4070000)
  horizon := ⟨4052000, some 4052000, 4052000, .source 0⟩
  pending := [.progress ⟨7, 9⟩ ⟨0, 4110000⟩] }

/-- 148 ms of lag against the limit of 10 ms. -/
theorem test_progress_adds_lag :
    (overdue.clock.causes.lag, releasable.clock.causes.lag, releasable.attention.flags.lag) = (false, true, true) := by
  decide +kernel
theorem test_release_of_the_last_head_clears_lag : (after .release releasable).clock.causes.lag = false := by decide +kernel

/-- Station 0 with an entry far ahead of its clock, skip enable on. -/
def skipping (holdAt : Option Nat) : State := { stationZero with
  pendingQueue := [⟨⟨4052000, 0, 0, 0⟩, 3, .closed, 0, 0, 4052000, 0, none, false, false, true, true, false, 1⟩]
  horizon := ⟨4060000, some 4052000, 4060000, .source 1⟩
  clock := { Clock.powerOn with integer := 3000000, skipEnable := true, holdAt := holdAt } }

theorem test_clockAdvance_skips_to_the_lead_before_the_head :
    (after .clockAdvance (skipping none)).clock.integer = 4042000 := by decide
theorem test_clockAdvance_skip_stops_at_the_hold_at_time :
    (fun c => (c.integer, c.holdAt, c.causes.brk)) (after .clockAdvance (skipping (some 4000000))).clock =
      (4000000, none, true) := by decide

/-- Station 0 alone, with source 0 ENDED and nothing left to release; `last` is source 1. -/
def ending (last : Source) (lw : Nat) (limiting : LimitingCause) : State := writing { stationZero with
  sources := (stationZero.sources.setIfInBounds 0 { openSource 0 0 with state := .ended, watermark := some endTime }).setIfInBounds
    1 last
  peers := (State.powerOn 0).peers
  horizon := ⟨lw, some 4000000, lw, limiting⟩
  pending := [.endSource ⟨1, 3⟩ 1] }

theorem test_endSource_of_the_last_source_completes :
    (fun t => (t.station.state, t.attention.flags.complete, t.engine.completeOwed))
      (after (.endSource ⟨1, 3⟩ 1) (ending (openSource 2 20000) 4000000 (.source 1))) = (.complete, true, true) := by
  decide +kernel

/-- Conditions that held before the act bring no completion (R124; log entry 24). -/
theorem test_frameSentWhole_completes_nothing_that_had_ended :
    (after .frameSentWhole (after (.frameBuild 12) { ending Source.powerOn endTime .none with
      tx := ⟨.waiting, 1, 0, none, none⟩ })).station.state = .replaying := by decide +kernel

/-! ## Link (file 04) -/

/-- Station 9 whose frame collides (worked sequence of file 04). -/
def stationNine : State := { stationZero with
  station := { stationZero.station with number := 9 }
  tx := ⟨.waiting, 17, 0, none, none⟩ }

theorem test_heartbeat_after_10_ms :
    (after .heartbeat { stationZero with station := { stationZero.station with time := 10000 } }).tx.state = .waiting := by
  decide
theorem test_frameBuild_carries_the_copies :
    (match (after (.frameBuild 12) { entryPending with tx := { entryPending.tx with state := .waiting, lastEnd := none } }).tx.state with
      | .sending f => some (f.horizon, f.changes.length)
      | _ => none) = some (4000000, 1) := by decide +kernel
theorem test_driven_symbols_begin_with_the_preamble :
    (after (.frameBuild 12) stationNine).drivenSymbols.take 4 = [true, false, true, false] := by decide +kernel
theorem test_collision_backs_off_640_bit_times :
    (after (.collision 25) (after (.frameBuild 12) stationNine)).tx.state = .backoff 640 := by decide
theorem test_sixteenth_transmitError_mutes :
    (after (.transmitError 70) (after (.frameBuild 12) { stationNine with tx := ⟨.waiting, 17, 15, none, none⟩ })).tx.state =
      .muted (some 200000) := by decide +kernel
theorem test_backoffDone_counts_the_quiet_line :
    (after (.backoffDone 500) { stationNine with tx := ⟨.backoff 640, 17, 1, none, none⟩ }).tx.state = .backoff 140 := by decide
theorem test_frameSentWhole_advances_the_sequence :
    (after .frameSentWhole (after (.frameBuild 12) stationNine)).tx.sequence = 18 := by decide
theorem test_muteExpiry_waits_again :
    (after .muteExpiry { stationNine with tx := ⟨.muted (some 0), 17, 16, none, none⟩ }).tx = ⟨.waiting, 17, 0, none, none⟩ := by
  decide
theorem test_syncReject_counts :
    (after (.syncReject ⟨12, 1519999⟩ 0) stationZero).rx.sync = 1 := by decide
theorem test_syncReject_needs_a_quiet_line :
    (after (.syncReject ⟨11, 1519999⟩ 0) { stationZero with rx := { stationZero.rx with phase := .awaitQuiet } }).rx.sync = 0 := by
  decide
theorem test_frameOpened_samples :
    (after (.frameOpened ⟨12, 1600000⟩ Config.startDelimiter) stationZero).rx.phase = .sampling 1600000 := by
  simp [after, Machine.exec, execFrameOpened, State.openFrame, preambleOpens, preambleInRate, stationZero, State.powerOn,
    RxPhase.searches, quietGap]

/-- The frame of event 3 of file 12. -/
def tieFrame : Frame :=
  ⟨0, 0, 1, .replaying, 4052000, false, false, [⟨4052000, 0, 0, 12, .closed, 0, 0, false⟩]⟩

theorem test_frameReceive_of_a_short_frame_is_a_crc_error :
    (after (.frameReceive [true] false) { stationOne with rx := { stationOne.rx with phase := .sampling 1600000 } }).rx.crc = 1 := by
  decide

/-- Station 1 with the frame of event 3 in its buffer. -/
def buffered : State := { stationOne with rx := { stationOne.rx with buffers := [tieFrame] } }

theorem test_frameProcessing_inserts_the_change :
    (after (.frameProcessing 8) buffered).remotes = [⟨⟨4052000, 0, 0, 0⟩, 8, 12, .closed, 0, 0⟩] := by decide +kernel
theorem test_frameProcessing_stores_the_horizon :
    ((after (.frameProcessing 8) buffered).peer 0).horizon = 4052000 := by decide +kernel
theorem test_overflow_stores_the_hold_request :
    (fun p => (p.state, p.hold)) ((stationOne.overflowRemotes { tieFrame with hold := true } 4052000).peer 0) =
      (.desync, true) := by decide +kernel
theorem test_ended_peer_repeat_stores_the_sender_state :
    ((after (.frameProcessing 8) { stationOne with
      peers := stationOne.peers.setIfInBounds 0 { heardPeer endTime with state := .ended, silence := none }
      rx := { stationOne.rx with buffers := [{ tieFrame with sequence := 0, senderState := .complete }] } }).peer 0).senderState =
      some .complete := by decide +kernel
theorem test_peerSilenceTimeout_makes_it_silent :
    ((after (.peerSilenceTimeout 1) { stationZero with
      peers := stationZero.peers.setIfInBounds 1 { heardPeer 4000000 with silence := some 40000 } }).peer 1).state = .silent := by
  decide

/-! ## Witnesses: the invariants -/

/-- The entry a of event 1 of file 12. -/
def entryA : PendingEntry :=
  ⟨⟨4060000, 0, 1, 0⟩, 3, .closed, 0, 2, 4060000, 0, none, false, false, false, true, false, 0⟩

/-- Source 1 after event 1 of file 12. -/
def sourceA : Source := { openSource 2 20000 with
  state := .live
  expectedSeq := 1
  lastRaw := some 4060000
  watermark := some 4060000
  nextOrdinal := some 1
  counters := { SourceCounters.zero with taken := 1, pending := 1 } }

/-- Station 0 after event 1 of file 12, written out, with a command waiting. -/
def loaded : State := { stationZero with
  sources := ((State.powerOn 0).sources.setIfInBounds 0 (openSource 0 2000)).setIfInBounds 1 sourceA
  pendingQueue := [entryA]
  outgoing := [⟨⟨4060000, 0, 1, 0⟩, 12, .closed, 0, 2, false, false⟩]
  clock := { stationZero.clock with stallTimer := some 0 }
  tx := { stationZero.tx with state := .waiting }
  pending := [.feedWriteStart] }

theorem loaded_source (n : Nat) :
    loaded.source n = if n = 1 then sourceA else if n = 0 then openSource 0 2000 else Source.powerOn := by
  have h : ∀ n < 32, loaded.source n =
      if n = 1 then sourceA else if n = 0 then openSource 0 2000 else Source.powerOn := by decide +kernel
  by_cases hn : n < 32
  · exact h n hn
  · rw [State.source_of_ge _ (by omega), if_neg (by omega), if_neg (by omega)]

theorem loaded_peers : loaded.peers.toList = Peer.powerOn :: heardPeer 4000000 :: List.replicate 14 Peer.powerOn := by
  decide +kernel

theorem loaded_elements :
    loaded.present = [(3, element (some (5, 2)) (.localTie 12) .opened 0), (4, element (some (5, 6)) .localOnly .closed 0)] := by
  decide +kernel

/-- A state in service, with an entry, a copy and an ACTIVE peer, meets every invariant, and its step answers. -/
theorem witness_invariants :
    (loaded.ListsSorted ∧ loaded.OrdinalsFresh ∧ loaded.WithinCapacity ∧ loaded.TimesInRange ∧ loaded.BoundsAgree) ∧
    (loaded.PeerHoldAgrees ∧ loaded.LinkAgrees ∧ loaded.SilentBeforeCommit ∧ loaded.StartPendingAgrees ∧
      loaded.StallTimerAgrees ∧ loaded.IdleAgrees ∧ loaded.HeldAgree ∧ loaded.SilenceAgrees ∧ loaded.OwnEntryUnused) ∧
    (loaded.HorizonLaw ∧ loaded.ReleasePointLaw ∧ loaded.CountersAgree ∧ loaded.LabelsAgree) ∧
    (∃ t, Machine.step loaded = .next t ∧ loaded.inService = true ∧ t.inService = true ∧
      t.station.epoch = loaded.station.epoch) := by
  refine ⟨⟨?_, ?_, ?_, ?_, ?_⟩, ⟨?_, ?_, ?_, ?_, ?_, ?_, ?_, ?_, ?_⟩, ⟨?_, ?_, ?_, ?_⟩, _, rfl, by decide, by decide, rfl⟩
  · exact ⟨by simp [KeySorted, loaded], by simp [KeySorted, loaded], .nil, .nil⟩
  · refine ⟨fun n o h => ?_, ?_, ?_, fun e h => by simp [loaded, stationZero, State.powerOn] at h⟩
    · rw [loaded_source] at h
      split_ifs at h <;> simp [sourceA, openSource, Source.powerOn] at h <;> simp [max32, ← h]
    · intro x hx
      simp [loaded] at hx
      subst hx
      simp [State.assigned, State.nextOrdinalBound, entryA, loaded_source, sourceA]
    · intro x hx
      simp [loaded] at hx
      subst hx
      simp [State.assigned, State.nextOrdinalBound, loaded_source, sourceA]
  · exact ⟨by decide, by decide, by decide, fun e h => by simp [loaded, stationZero, State.powerOn] at h, by decide, by decide,
      by decide, ⟨by simp [loaded, stationZero, State.powerOn], .nil⟩, by decide, by decide⟩
  · refine ⟨by decide, fun n w _ h => ?_, fun e h => by simp [loaded, stationZero, State.powerOn] at h, ?_, ?_, ?_, ?_, ?_,
      ?_, ?_, ?_, ?_, ?_, ?_, fun n e h => ?_, by decide, by decide, by decide,
      fun t h => by simp [loaded, stationZero, Clock.powerOn] at h⟩
    · rw [loaded_source] at h
      split_ifs at h <;> simp [sourceA, openSource, Source.powerOn] at h <;> simp [maxTime, ← h]
    · simp [loaded, entryA, maxTime]
    · simp [loaded, maxTime]
    all_goals try simp [loaded, stationZero, State.powerOn]
    have h' := State.mem_present.2 h
    rw [loaded_elements] at h'
    simp at h'
    rcases h' with ⟨-, rfl⟩ | ⟨-, rfl⟩ <;> simp [element]
  · exact ⟨by decide +kernel, by decide +kernel, by decide +kernel⟩
  · rw [State.PeerHoldAgrees, loaded_peers]
    simp [loaded, stationZero, heardPeer, Peer.powerOn, HoldCauses.empty]
  · rw [State.LinkAgrees, loaded_peers]
    simp [loaded, stationZero, heardPeer, Peer.powerOn, TxState.isMuted, State.powerOn]
  · intro h
    simp [State.beforeCommit, loaded, stationZero] at h
  · exact ⟨fun h => by simp [loaded, stationZero] at h, fun _ => rfl⟩
  · exact ⟨fun _ => ⟨⟨rfl, .own entryA, rfl, by decide, by decide⟩, rfl⟩, fun _ => rfl⟩
  · exact ⟨fun h => by simp [loaded] at h, fun h => by simp [loaded, stationZero, Clock.powerOn] at h⟩
  · exact ⟨fun f h => by simp [loaded] at h, fun _ => by simp [loaded]⟩
  · rw [State.SilenceAgrees, loaded_peers]
    simp [heardPeer, Peer.powerOn]
  · exact ⟨by decide +kernel, by simp [loaded, stationZero, State.powerOn], by simp [loaded, stationZero, State.powerOn]⟩
  · refine ⟨fun n h => ?_, ?_, ?_, ?_, ?_, ?_, ?_, ?_⟩ <;> try (simp [loaded, stationZero, State.powerOn]; done)
    rw [loaded_source] at h ⊢
    split_ifs at h ⊢ <;> simp [sourceA, openSource, Source.powerOn, Source.isOpen] at h ⊢
  · exact ⟨by simp [loaded, stationZero, State.powerOn], by simp [loaded, stationZero, State.powerOn],
      by simp [loaded, stationZero, State.powerOn], by simp [loaded, stationZero, State.powerOn], by decide⟩
  · refine ⟨fun n h => ?_, fun n h => ?_, fun n h _ => ?_, fun _ => by decide +kernel, fun e h => by simp [loaded, stationZero, State.powerOn] at h,
      by simp [loaded, entryA]; decide +kernel⟩
    · rw [loaded_source] at h ⊢
      split_ifs at h ⊢ <;> simp [sourceA, openSource, Source.powerOn] at h ⊢
    · have : ∀ n < 32, (loaded.source n).counters.pending = loaded.heldOf n := by decide +kernel
      exact this n h
    · have : ∀ n < 32, (loaded.source n).counters.taken = (loaded.source n).counters.merged +
        (loaded.source n).counters.pending + (loaded.source n).counters.released + loaded.intakeOf n := by decide +kernel
      exact this n h
  · intro _ _
    exact ⟨by decide +kernel, by decide +kernel, by decide +kernel⟩

/-- An IDLE transmitter in service that wants no frame by its content. -/
theorem witness_IdleAgrees : stationZero.tx.state = .idle ∧ stationZero.inService = true ∧ stationZero.IdleAgrees := by
  refine ⟨rfl, rfl, fun _ h => ?_, fun h => by simp [stationZero, Clock.powerOn] at h⟩
  rcases h.2 with h | h
  · exact h (by decide)
  · exact h rfl

/-- A release point that gives way to a higher one. -/
theorem witness_ReleasePointStaysBelow :
    releasable.engine.releasePoint = none ∧
    (after .release releasable).engine.releasePoint = some ⟨4052000, 0, 0, 0⟩ ∧
    (after .release { after .release releasable with
      timers := [⟨4052001, 0, 33, 3⟩], islands := ⟨ownLabels, 0, 0, none⟩
      engine := ⟨none, some ⟨4052000, 0, 0, 0⟩, none, .none, false⟩ }).engine.releasePoint = some ⟨4052001, 0, 33, 3⟩ := by
  decide +kernel

/-- A head that comes to lie below the safe time, a head that leaves, and a stall timer at its limit. -/
theorem witness_LagAndStallFollowTheirInputs :
    (overdue.BoundsAgree ∧ overdue.station.state = .replaying ∧ overdue.console.inFlight = none ∧
      ∃ t, Machine.step overdue = .next t ∧ t.inService = true ∧ t.station.epoch = overdue.station.epoch) ∧
    (releasable.BoundsAgree ∧ releasable.station.state = .replaying ∧ releasable.console.inFlight = none ∧
      releasable.clock.causes.lag = true ∧ (after .release releasable).inService = true ∧
      (after .release releasable).station.epoch = releasable.station.epoch) ∧
    ({ loaded with clock := { loaded.clock with stallTimer := some 100000 } } : State).clock.stall = false ∧
    (after .stallTimeout { loaded with clock := { loaded.clock with stallTimer := some 100000 } }).clock.stall = true :=
  ⟨⟨⟨by decide +kernel, by decide +kernel, by decide +kernel⟩, by decide +kernel, by decide +kernel, _, rfl,
      by decide +kernel, by decide +kernel⟩,
    ⟨⟨by decide +kernel, by decide +kernel, by decide +kernel⟩, by decide +kernel, by decide +kernel, by decide +kernel,
      by decide +kernel, by decide +kernel⟩, rfl, by decide⟩

theorem ending_drained : (ending Source.powerOn endTime .none).Drained where
  lw := rfl
  peers := by decide
  lists := ⟨rfl, rfl, rfl⟩
  outgoing := rfl
  idle := ⟨rfl, rfl, rfl⟩

/-- A step that completes the replay, and a station whose conditions hold already. -/
theorem witness_CompletionFollowsItsConditions :
    ((ending (openSource 2 20000) 4000000 (.source 1)).BoundsAgree ∧
      (ending (openSource 2 20000) 4000000 (.source 1)).station.state = .replaying ∧
      (ending (openSource 2 20000) 4000000 (.source 1)).console.inFlight = none ∧
      ¬ (ending (openSource 2 20000) 4000000 (.source 1)).Drained ∧
      ∃ t, Machine.step (ending (openSource 2 20000) 4000000 (.source 1)) = .next t ∧ t.inService = true ∧
        t.station.epoch = 0) ∧
    (ending Source.powerOn endTime .none).BoundsAgree ∧ (ending Source.powerOn endTime .none).Drained :=
  ⟨⟨⟨by decide +kernel, by decide +kernel, by decide +kernel⟩, rfl, rfl,
      fun h => absurd h.lw (by decide), _, rfl, by decide +kernel, by decide +kernel⟩,
    ⟨by decide +kernel, by decide +kernel, by decide +kernel⟩, ending_drained⟩

/-! ## Witnesses: formats, arithmetic, labels -/

theorem witness_FramesAndEventsAreReadBack : tieFrame.Fits where
  sender := by decide
  epoch := by decide
  sequence := by decide
  horizon := by decide
  count := by decide
  changes := by
    intro c hc
    simp only [tieFrame, List.mem_singleton] at hc
    subst hc
    exact ⟨by decide, by decide, by decide, by decide, by decide, by decide, by decide⟩

/-- The ROUNDING TABLE of R27. -/
theorem test_rounding_table :
    [1499999999, 1500000000, -1500000000, -1499999999, 499999999, -500000000].map roundedQuotient =
      [1, 2, -2, -1, 0, -1] := by decide

/-- A recorder that drifts by 500,000 ppb, 10 s after its anchor and 10 s before it, and past the clamp of the difference:
the products are 5·10^12, -5·10^12 and (2^40 - 1)·500,000 (R26 to R28). -/
theorem test_correction_under_drift :
    corrected ⟨20000000, 7, 500000⟩ 30000000 = 30005007 ∧ corrected ⟨20000000, 7, 500000⟩ 10000000 = 9995007 ∧
    correctionSum ⟨0, 0, 500000⟩ 281474976710655 = 281474976710655 + 549755814 := by decide

/-- A segment in range, a raw time on either side of each clamp of the difference, and a product at each half. -/
theorem witness_CorrectionFollowsItsSteps :
    ((Segment.mk 1000 (-5) 500000).inRange = true ∧ (Segment.mk 1000 (-5) (-500000)).inRange = true ∧
      999 ≤ 281474976710655) ∧
    ((1099511627775 : Int) < (281474976710655 : Nat) - (0 : Nat) ∧ ((0 : Nat) : Int) - (281474976710655 : Nat) < -1099511627775) ∧
    (correctionSum ⟨0, -5, 0⟩ 4 < 0 ∧ 0 ≤ correctionSum ⟨0, -5, 0⟩ 5 ∧ correctionSum ⟨0, 0, 0⟩ 1099511627774 ≤ 1099511627774 ∧
      1099511627774 < correctionSum ⟨0, 0, 0⟩ 1099511627775) ∧
    2 * (500000000 - roundedQuotient 500000000 * 1000000000).natAbs = 1000000000 := by
  decide

theorem witness_LabelsNameIslands :
    (∀ j ∈ [(5, 2), (5, 127)], j.1 < 128 ∧ j.2 < 128) ∧ SameIsland [(5, 2), (5, 127)] 5 2 :=
  ⟨by decide, .rel _ _ (by decide)⟩

/-! ## Witnesses: feed records -/

theorem writing_ends (s : State) : (writing s).RecordEnds := ⟨rfl, rfl⟩

theorem witness_WritesStartOrAreIgnored :
    stationZero.feed.port = .ready ∧ (writing stationZero).feed.port = .busy ∧ stationZero.console.inFlight = none ∧
    ({ stationZero with console := ⟨false, some (.hold 0), none⟩ } : State).console.inFlight.isSome = true ∧
    firstIntake.feed.intake.isSome = true ∧ stationZero.console.writing = false ∧ EndsRecordWrite (.commit ⟨0, 2⟩) :=
  ⟨by decide, by decide, by decide, by decide, by decide +kernel, by decide, .commit _⟩

theorem witness_DescriptionRecordsAreScreened :
    ((writing State.reset).RecordEnds ∧ (writing State.reset).beforeCommit = true) ∧
    ((writing stationZero).RecordEnds ∧ (writing stationZero).beforeCommit = false ∧
      (writing stationZero).station.state ≠ .unconfigured ∧ (writing stationZero).station.state ≠ .loading) ∧
    (¬ ((20 : Byte) = 20 ∧ 21 = 22 ∧ (1 : Byte).toNat ≤ 1) ∧ ¬ 1 ≤ (0 : BitVec 16).toNat ∧
      maxTime < (1099511627775 : BitVec 40).toNat) ∧
    (32 : Byte).toNat = 32 ∧ (500001 : BitVec 24).toInt = 500001 ∧ 127 < (128 : Byte).toNat :=
  ⟨⟨writing_ends _, by decide⟩, ⟨writing_ends _, by decide, by decide, by decide⟩, by decide, by decide, by decide, by decide⟩

theorem witness_SourceRecordsAreScreened :
    ((writing stationZero).RecordEnds ∧ (writing stationZero).station.state = .replaying ∧
      (writing stationZero).inService = true) ∧
    ((writing State.reset).RecordEnds ∧ (writing State.reset).inService = false) ∧
    31 < (32 : Byte).toNat ∧ 3 < (4 : Byte).toNat ∧ (-500001 : BitVec 24).toInt < -500000 :=
  ⟨⟨writing_ends _, by decide, by decide⟩, ⟨writing_ends _, by decide⟩, by decide, by decide, by decide⟩

theorem witness_DescriptionRecordsAreTaken :
    ((writing described).RecordEnds ∧ (writing described).beforeCommit = true) ∧
    (elementNamed ⟨255, 1, 127, 0, 2, 1023, 15, 4, 0, 0⟩ = true ∧
      elementInRange ⟨255, 1, 127, 0, 2, 1023, 15, 4, 0, 0⟩ = true ∧
      (writing described).elementAt 255 = none ∧ ((writing described).elementAt 3).isSome = true) ∧
    ((writing described).source 31).state ≠ .declared ∧ ((writing described).source 0).state = .declared ∧
    (∀ p ∈ (writing described).points, ¬ (p.source = 0 ∧ p.point = 65535)) ∧ (writing described).points.length < 2048 ∧
    (∃ p ∈ (writing described).points, p.source = 0 ∧ p.point = 3) ∧
    2048 ≤ (List.replicate 2048 (PointEntry.mk 0 0 0 false)).length :=
  ⟨⟨writing_ends _, by decide⟩, ⟨by decide, by decide, by decide +kernel, by decide +kernel⟩, by decide +kernel,
    by decide +kernel, by decide +kernel, by decide +kernel, by decide +kernel, by rw [List.length_replicate]⟩

/-- The description without its point, which the COMMIT checks let through once the owner peer is expected. -/
def committable : State := writing { described with points := [] }

theorem committable_element {n : Nat} {e : Element} (h : committable.elementAt n = some e) :
    e = element (some (5, 2)) (.mirror 12 1) .opened 0 ∧ n = 3 := by
  have : committable.present = [(3, element (some (5, 2)) (.mirror 12 1) .opened 0)] := by decide +kernel
  have h' := State.mem_present.2 h
  rw [this] at h'
  simp at h'
  exact ⟨h'.2, h'.1⟩

theorem witness_CommitStartsTheEpoch :
    committable.RecordEnds ∧ committable.station.state = .loading ∧ committable.someDeclared ∧ committable.pointsResolve ∧
    committable.nodesDistinct ∧ committable.tiesUnique ∧ committable.ownersExpected ∧ committable.console.inFlight = none := by
  refine ⟨writing_ends _, rfl, ⟨0, by decide +kernel⟩, fun p hp => by simp [committable, writing] at hp, ?_, ?_, ?_, rfl⟩
  · intro n e a b h hn
    obtain ⟨rfl, -⟩ := committable_element h
    simp [element] at hn
    omega
  · intro n m e f t he hf _ _
    rw [(committable_element he).2, (committable_element hf).2]
  · intro n e t o h ho
    obtain ⟨rfl, -⟩ := committable_element h
    simp [element] at ho
    obtain ⟨-, rfl⟩ := ho
    exact ⟨by decide, by decide⟩

theorem witness_CommitChecksInOrder :
    ((writing State.reset).RecordEnds ∧ (writing State.reset).station.state ≠ .loading) ∧
    ((writing { State.reset with station := ⟨0, .loading, 0, 0, false⟩ }).RecordEnds ∧
      ¬ (writing { State.reset with station := ⟨0, .loading, 0, 0, false⟩ }).someDeclared) ∧
    ({ committable with settings := { committable.settings with expectedMask := 0 } } : State).someDeclared ∧
    ¬ ({ committable with settings := { committable.settings with expectedMask := 0 } } : State).ownersExpected := by
  refine ⟨⟨writing_ends _, by decide⟩, ⟨writing_ends _, ?_⟩, ⟨0, by decide +kernel⟩, ?_⟩
  · rintro ⟨n, h⟩
    have h32 : ∀ n < 32, ((writing { State.reset with station := ⟨0, .loading, 0, 0, false⟩ }).source n).state ≠ .declared := by
      decide +kernel
    by_cases hn : n < 32
    · exact h32 n hn h
    · rw [State.source_of_ge _ (by omega)] at h
      simp [Source.powerOn] at h
  · intro h
    have he : ({ committable with settings := { committable.settings with expectedMask := 0 } } : State).elementAt 3 =
        some (element (some (5, 2)) (.mirror 12 1) .opened 0) := by decide +kernel
    have := (h 3 _ 12 1 he rfl).2
    simp at this

/-- Station 0 with source 2 ENDED and the ordinals of source 3 used up. -/
def endedSource : State := writing { stationZero with
  sources := (stationZero.sources.setIfInBounds 2 { openSource 0 0 with state := .ended, watermark := some endTime }).setIfInBounds
    3 { openSource 0 0 with nextOrdinal := none } }

theorem witness_SourceStatesAreChecked :
    endedSource.RecordEnds ∧ endedSource.station.state = .replaying ∧ (endedSource.source 31).state = .undeclared ∧
    (endedSource.source 2).state = .ended ∧ (endedSource.source 3).isOpen = true ∧
    (endedSource.source 3).nextOrdinal = none ∧
    (({ endedSource with station := ⟨0, .complete, 0, 0, false⟩ } : State).RecordEnds ∧
      ({ endedSource with station := ⟨0, .complete, 0, 0, false⟩ } : State).inService = true) :=
  ⟨writing_ends _, rfl, by decide +kernel, by decide +kernel, by decide +kernel, by decide +kernel, ⟨rfl, rfl⟩, rfl⟩

theorem witness_SegmentIsTakenOrStale :
    ((writing stationZero).RecordEnds ∧ (writing stationZero).station.state = .replaying ∧
      ((writing stationZero).source 0).state = .opened ∧ ((writing stationZero).source 0).startBound = some 4000000) ∧
    ((writing loaded).RecordEnds ∧ ((writing loaded).source 1).state = .live ∧
      ((writing loaded).source 1).lastRaw = some 4060000) ∧
    (endedSource.source 31).state = .undeclared ∧ (endedSource.source 2).state = .ended :=
  ⟨⟨writing_ends _, rfl, by decide +kernel, by decide +kernel⟩, ⟨writing_ends _, by decide +kernel, by decide +kernel⟩,
    by decide +kernel, by decide +kernel⟩

/-- Station 0 with its Pending Queue at a given length. -/
def filled (n : Nat) : State := writing { loaded with pendingQueue := List.replicate n entryA }

theorem filled_length (n : Nat) : (filled n).pendingQueue.length = n := List.length_replicate

theorem filled_source (n m : Nat) : (filled n).source m = loaded.source m := State.source_congr rfl m

/-- An OPEN and a LIVE source with room, and a laggard at the last 256 entries; the element is LOCAL_TIE. -/
theorem witness_EventIsAdmitted :
    ((writing stationZero).RecordEnds ∧ ((writing stationZero).source 1).state = .opened ∧
      ((writing stationZero).source 1).nextOrdinal = some 0 ∧
      (writing stationZero).pointEntry 1 3 = some ⟨1, 3, 3, false⟩ ∧
      256 < 4096 - (writing stationZero).pendingQueue.length ∧ (writing stationZero).outgoing.length < 64 ∧
      (writing stationZero).localTieOf 3 = some 12 ∧
      (∀ el tie, (writing stationZero).elementAt 4 = some el → el.ownership ≠ .localTie tie)) ∧
    ((writing loaded).RecordEnds ∧ ((writing loaded).source 1).state = .live ∧
      ((writing loaded).source 1).expectedSeq = 1 ∧ ((writing loaded).source 1).nextOrdinal = some 1 ∧
      256 < 4096 - (writing loaded).pendingQueue.length) ∧
    ((filled 3840).RecordEnds ∧ ((filled 3840).source 0).state = .opened ∧
      (filled 3840).pointEntry 0 3 = some ⟨0, 3, 3, false⟩ ∧ ¬ 256 < 4096 - (filled 3840).pendingQueue.length ∧
      0 < 4096 - (filled 3840).pendingQueue.length ∧
      ((filled 3840).source 0).watermark = some (filled 3840).horizon.lw ∧ (filled 3840).outgoing.length < 64) := by
  refine ⟨⟨writing_ends _, by decide +kernel, by decide +kernel, by decide +kernel, by decide +kernel, by decide +kernel,
      by decide +kernel, fun el tie h => ?_⟩,
    ⟨writing_ends _, by decide +kernel, by decide +kernel, by decide +kernel, by decide +kernel⟩,
    writing_ends _, ?_, rfl, by rw [filled_length]; decide, by rw [filled_length]; decide, ?_, by decide +kernel⟩
  · have h4 : (writing stationZero).elementAt 4 = some (element (some (5, 6)) .localOnly .closed 0) := by decide +kernel
    rw [h4] at h
    cases h
    exact Ownership.noConfusion
  all_goals
    rw [filled_source, loaded_source]
    rfl

theorem witness_EventEndsBeforeIntake :
    (((writing loaded).source 1).state = .live ∧ ((writing loaded).source 1).expectedSeq < 65536 ∧
      ((writing loaded).source 1).nextOrdinal.isSome = true ∧ (writing loaded).pointEntry 1 9 = none ∧
      32768 ≤ ((32769 : BitVec 16).toNat + 65536 - 1) % 65536) ∧
    ((filled 4096).RecordEnds ∧ 4096 - (filled 4096).pendingQueue.length = 0 ∧ ((filled 4096).source 0).state = .opened ∧
      ((filled 4096).source 0).watermark = some (filled 4096).horizon.lw) ∧
    ((filled 3840).RecordEnds ∧ 4096 - (filled 3840).pendingQueue.length = 256 ∧
      ((filled 3840).source 1).watermark ≠ some (filled 3840).horizon.lw) ∧
    (({ loaded with outgoing := List.replicate 64 ⟨⟨0, 0, 0, 0⟩, 12, .closed, 0, 0, false, false⟩ } : State).outgoing.length = 64 ∧
      (∃ e t, loaded.elementAt 3 = some e ∧ e.ownership = .localTie t)) ∧
    ({ sourceA with nextOrdinal := none } : Source).nextOrdinal = none := by
  refine ⟨⟨by decide +kernel, by decide +kernel, by decide +kernel, by decide +kernel, by decide⟩,
    ⟨writing_ends _, by rw [filled_length], ?_, ?_⟩,
    ⟨writing_ends _, by rw [filled_length], ?_⟩,
    ⟨by simp, element (some (5, 2)) (.localTie 12) .opened 0, 12, by decide +kernel, rfl⟩, rfl⟩
  · rw [filled_source, loaded_source]
    rfl
  · rw [filled_source, loaded_source]
    rfl
  · rw [filled_source, loaded_source]
    show some 4060000 ≠ some 4000000
    decide

/-- Station 0 with a next segment held by source 0. -/
def promoting : State := writing { stationZero with
  sources := stationZero.sources.setIfInBounds 0 { openSource 0 2000 with next := some ⟨4100000, 5, 0⟩ } }

theorem witness_ProgressAndEndMoveTheWatermark :
    (writing stationZero).RecordEnds ∧ (writing stationZero).station.state = .replaying ∧
    (writing stationZero).inService = true ∧ ((writing stationZero).source 0).isOpen = true ∧
    ((writing stationZero).source 0).watermark = some 4000000 ∧
    (((writing stationZero).source 0).promote 4110000).current = some ⟨0, 0, 0⟩ ∧
    ((promoting.source 0).next = some ⟨4100000, 5, 0⟩ ∧
      ((promoting.source 0).promote 4110000).current = some ⟨4100000, 5, 0⟩ ∧
      (promoting.source 0).promote 4099999 = promoting.source 0) :=
  ⟨writing_ends _, rfl, by decide +kernel, by decide +kernel, by decide +kernel, by decide +kernel,
    by decide +kernel, by decide +kernel, by decide +kernel⟩

/-- The record of event 2 of file 12, in intake. -/
def intakeB : Intake := ⟨⟨4052000, 0, 0, 0⟩, 3, some 12, .closed, 0, 0, 4052000, 0, none, false, false⟩

/-- The entry a as a candidate. -/
def candidateA : Candidate := ⟨4060000, 1, .closed, 20000, 2, some entryA⟩

theorem witness_MergeActInserts :
    firstIntake.feed.intake.isSome = true ∧ (∀ e, firstIntake.feed.intake = some e →
      firstIntake.findMatch e = none ∧ e.key.source < 32) := by
  have h : firstIntake.feed.intake =
      some ⟨⟨4060000, 0, 1, 0⟩, 3, some 12, .closed, 0, 2, 4060000, 0, none, false, false⟩ := by decide +kernel
  refine ⟨by rw [h]; rfl, fun e he => ?_⟩
  rw [h] at he
  cases he
  exact ⟨by decide +kernel, by decide⟩

theorem witness_TheNearestCandidateMatches :
    ({ loaded with feed := ⟨.busy, none, some intakeB⟩ } : State).findMatch intakeB = some candidateA ∧
    firstIntake.findMatch { intakeB with position := .opened } = none :=
  ⟨by decide +kernel, by decide +kernel⟩

/-- An own event of the element in flight is the released candidate in place of the last release (R45, R55). -/
theorem test_candidates_of_an_element :
    (({ loaded with elements := loaded.elements.setIfInBounds 3 (some { element none .localOnly .opened 0 with
        lastRelease := some ⟨3990000, 1, .opened⟩ }) } : State).candidates 3 =
      [⟨3990000, 1, .opened, 20000, 2, none⟩, candidateA]) ∧
    ({ loaded with
        pendingQueue := []
        engine := ⟨some ⟨.own entryA, none, none⟩, some entryA.key, none, .none, false⟩ } : State).candidates 3 =
      [⟨4060000, 1, .closed, 20000, 2, none⟩] := by decide +kernel

theorem witness_MergeActMerges :
    ({ loaded with feed := ⟨.busy, none, some intakeB⟩ } : State).feed.intake = some intakeB ∧
    ({ loaded with feed := ⟨.busy, none, some intakeB⟩ } : State).findMatch intakeB = some candidateA ∧
    intakeB.key.source < 32 ∧ candidateA.source < 32 ∧
    (∃ p, candidateA.pending = some p ∧ p.announced = false ∧ intakeB.quality < p.quality ∧
      (∀ c ∈ loaded.outgoing, c.key = p.key → c.held = false ∧ c.carried = false) ∧
      (loaded.outgoing.find? fun y => y.key == p.key).isSome = true) :=
  ⟨rfl, by decide +kernel, by decide, by decide, entryA, rfl, rfl, by decide, by decide, by decide⟩

/-- A sample of -8,000 µs, the first and one after a greater one (R34, R35). -/
theorem test_skew_sample_is_recorded :
    SkewStats.zero.record (skewSample 4052000 4060000) = ⟨1, -8000, -8000, -8000⟩ ∧
    (SkewStats.mk 65535 (-100) 200 50).record (skewSample 4052000 4060000) = ⟨65535, -8000, 200, -7950⟩ := by decide

/-! ## Witnesses: console commands -/

theorem commanding_decides {s : State} (room : s.delivery.queue.length < deliveryCapacity) :
    (commanding s).DecidesAtOnce := ⟨rfl, room⟩

/-- The state with a HOLD waiting for its decision. -/
def waiting (s : State) : State := { s with console := ⟨false, some (.hold 0), s.console.skew⟩ }

theorem witness_CommandsWaitAndAreTested :
    ((commanding { stationZero with delivery := ⟨List.replicate 64 ⟨0, .holdState HoldCauses.empty 0⟩, none, false⟩ }).console.writing =
        true ∧
      64 ≤ ({ stationZero with delivery := ⟨List.replicate 64 ⟨0, .holdState HoldCauses.empty 0⟩, none, false⟩ } :
        State).delivery.queue.length) ∧
    ((commanding handedOver).console.writing = true ∧ (commanding handedOver).processing.isSome = true) ∧
    ((commanding stationZero).DecidesAtOnce ∧ ¬ WellFormedCommand (.watchSet 2 3 0) ∧ WellFormedCommand (.start 0) ∧
      (commanding stationZero).station.state ∉ acceptingStates (.start 0)) ∧
    ((waiting oneQueued).console.writing = false ∧ (waiting oneQueued).console.inFlight = some (.hold 0) ∧
      (waiting oneQueued).delivery = ⟨⟨0, .holdState stationZero.clock.causes 4200000⟩ :: [], none, true⟩) ∧
    ((waiting buffered).processing = none ∧ (waiting buffered).rx.buffers ≠ [] ∧ (waiting buffered).inService = true) ∧
    ((waiting (writing { described with points := [] })).RecordEnds ∧
      (waiting (writing { described with points := [] })).station.state = .loading ∧
      (after (.commit ⟨0, 2⟩) (writing { described with points := [] })).station.state = .ready) := by
  refine ⟨⟨rfl, by simp⟩, ⟨rfl, rfl⟩, ⟨commanding_decides (by decide), ?_, rfl, by decide⟩, ⟨rfl, rfl, rfl⟩,
    ⟨rfl, by decide, by decide⟩, ⟨rfl, rfl⟩, rfl, by decide +kernel⟩
  intro h
  rcases h.2 with h | h <;> exact absurd h (by decide)

/-- A command that waited is decided in the act that frees its entry. -/
theorem test_deliveryRecordBegin_decides_the_waiting_command :
    (after .deliveryRecordBegin (waiting oneQueued)).clock.causes.localHold = true ∧
      (after .deliveryRecordBegin (waiting oneQueued)).console.inFlight = none := by decide

theorem witness_StartBeginsTheReplay :
    (commanding readyZero).DecidesAtOnce ∧ (commanding readyZero).station.state = .ready ∧
    (commanding stationZero).DecidesAtOnce ∧ (commanding stationZero).station.state ≠ .ready :=
  ⟨commanding_decides (by decide), rfl, commanding_decides (by decide), by decide⟩

theorem witness_HoldResumeAndStepActOnTheClock :
    ((commanding stationZero).DecidesAtOnce ∧ (commanding stationZero).station.state = .replaying ∧
      (commanding stationZero).clock.causes.localHold = true ∧ (commanding stationZero).clock.stepArmed = false) ∧
    ((commanding readyZero).DecidesAtOnce ∧ (commanding readyZero).clock.causes.localHold = false ∧
      (commanding readyZero).clock.causes.step = false ∧ (commanding readyZero).clock.causes.brk = false) ∧
    (commanding { stationZero with clock := { stationZero.clock with stepArmed := true } }).clock.stepArmed = true ∧
    (commanding State.reset).DecidesAtOnce ∧ (commanding State.reset).station.state = .unconfigured :=
  ⟨⟨commanding_decides (by decide), rfl, rfl, rfl⟩, ⟨commanding_decides (by decide), rfl, rfl, rfl⟩, rfl,
    commanding_decides (by decide), rfl⟩

theorem witness_RateHoldAtAndSkipAreSet :
    (commanding stationZero).DecidesAtOnce ∧ (commanding stationZero).station.state = .replaying ∧
    (commanding stationZero).clock.integer < (4200001 : BitVec 40).toNat ∧
    (1099511627774 : BitVec 40).toNat ≤ 1099511627774 ∧ (4200000 : BitVec 40).toNat ≤ (commanding stationZero).clock.integer :=
  ⟨commanding_decides (by decide), rfl, by decide, by decide, by decide⟩

/-- Station 0 with sixteen elements on its watch list. -/
def watching : State := { stationZero with
  elements := Vector.ofFn fun i : Fin 256 =>
    if i.val < 16 then some { element none .localOnly .opened 0 with watch := .localMark }
    else if i.val = 20 then some (element none .localOnly .opened 0) else none }

theorem witness_WatchMarksAreSetAndCleared :
    (commanding watching).DecidesAtOnce ∧ (commanding watching).station.state = .replaying ∧
    (commanding watching).elementAt 255 = none ∧
    (commanding watching).elementAt 20 = some (element none .localOnly .opened 0) ∧
    (commanding watching).elementAt 15 = some { element none .localOnly .opened 0 with watch := .localMark } ∧
    (commanding watching).watched.length = 16 ∧ (commanding stationZero).watched.length < 16 ∧
    (commanding State.reset).DecidesAtOnce ∧ (commanding State.reset).station.state = .unconfigured :=
  ⟨commanding_decides (by decide), rfl, by decide +kernel, by decide +kernel, by decide +kernel, by decide +kernel,
    by decide +kernel, commanding_decides (by decide), rfl⟩

/-- Station 0 with peer 1 DESYNC. -/
def lostZero : State := { stationZero with
  peers := stationZero.peers.setIfInBounds 1 { heardPeer 4000000 with state := .desync, silence := none } }

theorem witness_PeersAreExcludedAndIncluded :
    ((commanding stationZero).DecidesAtOnce ∧ (commanding stationZero).station.state = .replaying ∧
      ((commanding stationZero).peer 1).counted = true ∧ ((commanding stationZero).peer 15).counted = false) ∧
    ((commanding excludedZero).DecidesAtOnce ∧ ((commanding excludedZero).peer 1).state = .excluded ∧
      ((commanding excludedZero).peer 1).lastEpoch = 0 ∧ ((commanding excludedZero).peer 1).discarded = 0 ∧
      (commanding excludedZero).engine.releasePoint = none) ∧
    ((commanding lostZero).DecidesAtOnce ∧ (commanding lostZero).processing = none ∧
      ((commanding lostZero).peer 1).state = .desync) ∧
    (commanding handedOver).console.writing = true ∧ (commanding handedOver).processing.isSome = true :=
  ⟨⟨commanding_decides (by decide), rfl, by decide +kernel, by decide +kernel⟩,
    ⟨commanding_decides (by decide), by decide +kernel, by decide +kernel, by decide +kernel, rfl⟩,
    ⟨commanding_decides (by decide), rfl, by decide +kernel⟩, rfl, rfl⟩

/-- EXCLUDE of a DESYNC peer leaves it a discarded count of 1 and no expected sequence (R92). -/
theorem test_excludePeer_of_a_desync_peer :
    (fun p => (p.state, p.discarded, p.expectedSeq)) ((after (.excludePeer 1 1) (commanding lostZero)).peer 1) =
      (.excluded, 1, none) := by decide +kernel

theorem witness_SnapshotSkewAndStatusReply :
    (commanding stationZero).DecidesAtOnce ∧ (commanding stationZero).inService = true ∧
    (commanding stationZero).engine.snapshot = .none ∧ (commanding stationZero).console.skew = none ∧
    (commanding (emitting 3)).engine.snapshot ≠ .none :=
  ⟨commanding_decides (by decide), by decide, rfl, rfl, by decide⟩

theorem witness_FlagsAreClearedAndMasked : (commanding State.reset).DecidesAtOnce :=
  commanding_decides (by decide)

theorem witness_RestartReachesEveryBlock : (commanding entryPending).writtenInService :=
  ⟨rfl, by decide +kernel, by decide +kernel⟩

/-! ## Witnesses: delivery and release -/

theorem witness_RecordsAreQueuedAndSent :
    (oneQueued.delivery = ⟨⟨0, .holdState stationZero.clock.causes 4200000⟩ :: [], none, true⟩ ∧
      oneQueued.console.inFlight = none ∧ oneQueued.processing = none) ∧
    (runningClock 0 0 1 none).clock.causes.isEmpty = true ∧
    ({ stationZero with console := ⟨false, none, some 31⟩ } : State).declaredFrom 1 = 1 :: [] :=
  ⟨⟨rfl, rfl, rfl⟩, by decide, by decide +kernel⟩

/-- The entry a once replaced (file 12, event 2). -/
def entryReplaced : PendingEntry :=
  ⟨⟨4052000, 0, 0, 0⟩, 3, .closed, 0, 0, 4052000, 0, none, false, false, true, true, false, 1⟩

/-- Station 0 with an entry on element 3 whose record is given, below the safe time. -/
def dueEntry (e : Element) (x : PendingEntry) : State := { stationZero with
  elements := stationZero.elements.setIfInBounds 3 (some e)
  pendingQueue := [x]
  horizon := ⟨4060000, some 4052000, 4060000, .source 1⟩ }

theorem dueEntry_releases (e : Element) (x : PendingEntry) (h : x.key.time < 4060000) :
    (dueEntry e x).leastHead = some (.own x) ∧ (dueEntry e x).CanRelease x.key where
  left := rfl
  right := {
    replaying := rfl
    safe := h
    clock := .inl (Nat.le_trans (Nat.le_of_lt h) (by show 4060000 ≤ 4200000; decide))
    engine := ⟨rfl, rfl, rfl, rfl, by show 0 < 60; decide⟩
    noHandOver := fun pr hp => by simp [dueEntry, stationZero, State.powerOn] at hp }

theorem dueEntry_element (e : Element) (x : PendingEntry) : (dueEntry e x).elementAt 3 = some e := by
  have := State.elementAt_setElement_self stationZero e (n := 3) (by decide)
  exact this

theorem witness_OwnEventIsReleased :
    (dueEntry (element (some (5, 2)) (.localTie 12) .opened 0) entryReplaced).leastHead = some (.own entryReplaced) ∧
    (dueEntry (element (some (5, 2)) (.localTie 12) .opened 0) entryReplaced).CanRelease entryReplaced.key ∧
    (dueEntry (element (some (5, 2)) (.localTie 12) .opened 0) entryReplaced).elementAt entryReplaced.element =
      some (element (some (5, 2)) (.localTie 12) .opened 0) :=
  ⟨(dueEntry_releases _ _ (by decide)).1, (dueEntry_releases _ _ (by decide)).2, dueEntry_element _ _⟩

/-- An element with a travel limit, in motion since a time, at a position. -/
def travelling (position : Position) (start : Option Nat) : Element :=
  { element none .localOnly position 50 with travelStart := start, stuck := start.isSome }

/-- The entry a once replaced, at another position. -/
def entryAt (position : Position) : PendingEntry := { entryReplaced with position := position }

/-- A state and an entry for each row of the TRAVEL TABLE, and for a no change. -/
theorem witness_TravelIsTimed (position previous : Position) (start : Option Nat) :
    (dueEntry (travelling previous start) (entryAt position)).leastHead = some (.own (entryAt position)) ∧
    (dueEntry (travelling previous start) (entryAt position)).CanRelease (entryAt position).key ∧
    (dueEntry (travelling previous start) (entryAt position)).elementAt (entryAt position).element =
      some (travelling previous start) ∧ (travelling previous start).Timed :=
  ⟨(dueEntry_releases _ _ (by show 4052000 < 4060000; decide)).1,
    (dueEntry_releases _ _ (by show 4052000 < 4060000; decide)).2, dueEntry_element _ _,
    fun _ _ => by simp [travelling, element], by simp [travelling, element]⟩

/-- An element that counts changes, with a window begun and a count, in a chatter state, with or without travel timing. -/
def counting (limit : Nat) (window : Option Nat) (count : Nat) (c : ChatterState) : Element :=
  { element none .localOnly .opened limit with
    chatterEnable := true, windowStart := window, windowCount := count, chatter := c }

/-- A state for each way that a change, or a no change, meets the chatter window. -/
theorem witness_ChatterIsCounted (limit : Nat) (window : Option Nat) (count : Nat) (c : ChatterState)
    (position : Position) :
    (dueEntry (counting limit window count c) (entryAt position)).leastHead = some (.own (entryAt position)) ∧
    (dueEntry (counting limit window count c) (entryAt position)).CanRelease (entryAt position).key ∧
    (dueEntry (counting limit window count c) (entryAt position)).elementAt (entryAt position).element =
      some (counting limit window count c) :=
  ⟨(dueEntry_releases _ _ (by show 4052000 < 4060000; decide)).1,
    (dueEntry_releases _ _ (by show 4052000 < 4060000; decide)).2, dueEntry_element _ _⟩

/-- A travel and a quiet timer in one release: an element in chatter that begins to travel (R115, R118). -/
theorem test_release_sets_both_timers :
    (after .release (dueEntry { counting 50 none 0 .chattering with current := .closed } (entryAt .intermediate))).timers =
      [⟨4102000, 0, 32, 3⟩, ⟨9052000, 0, 33, 3⟩] := by decide +kernel

/-- A no change on a CHATTERING element is suppressed without count or timer (R118). -/
theorem test_release_of_a_no_change_in_chatter :
    (fun t => (t.timers, t.engine.inFlight, (t.elementAt 3).map Element.suppressed))
      (after .release (dueEntry (counting 50 none 0 .chattering) (entryAt .opened))) = ([], none, some 0) := by
  decide +kernel

/-- Station 1 with an item of its lists below the safe time. -/
def dueAtOne (remotes : List RemoteEntry) (timers : List Key) : State := { stationOne with
  remotes := remotes
  timers := timers
  horizon := ⟨4500000, some 4000000, 4200000, .peer 0⟩ }

theorem dueAtOne_releases (remotes : List RemoteEntry) (timers : List Key) (i : Item)
    (hi : (dueAtOne remotes timers).leastHead = some i) (h : i.key.time < 4200000) :
    (dueAtOne remotes timers).leastHead = some i ∧ (dueAtOne remotes timers).CanRelease i.key where
  left := hi
  right := {
    replaying := rfl
    safe := h
    clock := .inl (Nat.le_of_lt h)
    engine := ⟨rfl, rfl, rfl, rfl, by show 0 < 60; decide⟩
    noHandOver := fun pr hp => by simp [dueAtOne, stationOne, State.powerOn] at hp }

/-- The same with a step armed, the clock below the item and a hold-at time at the change of event 10 of file 12. -/
def steppedAtOne (remotes : List RemoteEntry) (timers : List Key) : State := { dueAtOne remotes timers with
  clock := { stationOne.clock with integer := 4000000, stepArmed := true, holdAt := some 4052000 } }

theorem steppedAtOne_releases {remotes : List RemoteEntry} {timers : List Key} {k : Key}
    (h : (dueAtOne remotes timers).CanRelease k) : (steppedAtOne remotes timers).CanRelease k :=
  ⟨h.replaying, h.safe, .inr rfl, ⟨h.engine.inFlight, h.engine.apply, h.engine.relabel, h.engine.snapshot, h.engine.room⟩,
    h.noHandOver⟩

/-- The remote change of event 10 of file 12, and a travel and a quiet timer of element 9. -/
def changeR : RemoteEntry := ⟨⟨4052000, 0, 0, 0⟩, 8, 12, .closed, 0, 0⟩

theorem witness_RemoteChangesAndTimersAreReleased :
    ((dueAtOne [changeR] []).leastHead = some (.remote changeR) ∧ (dueAtOne [changeR] []).CanRelease changeR.key) ∧
    ((dueAtOne [] [⟨4120000, 1, 32, 9⟩]).leastHead = some (.timer ⟨4120000, 1, 32, 9⟩) ∧
      (dueAtOne [] [⟨4120000, 1, 32, 9⟩]).CanRelease ⟨4120000, 1, 32, 9⟩) ∧
    ((dueAtOne [] [⟨4199999, 1, 33, 9⟩]).leastHead = some (.timer ⟨4199999, 1, 33, 9⟩) ∧
      (dueAtOne [] [⟨4199999, 1, 33, 9⟩]).CanRelease ⟨4199999, 1, 33, 9⟩) ∧
    ((dueAtOne [] []).elementAt 8).isSome = true ∧ ((dueAtOne [] []).elementAt 9).isSome = true ∧
    ((steppedAtOne [changeR] []).leastHead = some (.remote changeR) ∧ (steppedAtOne [changeR] []).CanRelease changeR.key ∧
      (steppedAtOne [changeR] []).clock.stepArmed = true) :=
  ⟨dueAtOne_releases _ _ (.remote changeR) rfl (by decide), dueAtOne_releases _ _ (.timer ⟨4120000, 1, 32, 9⟩) rfl (by decide),
    dueAtOne_releases _ _ (.timer ⟨4199999, 1, 33, 9⟩) rfl (by decide), by decide +kernel, by decide +kernel,
    rfl, steppedAtOne_releases (dueAtOne_releases _ _ (.remote changeR) rfl (by decide)).2, rfl⟩

/-- Station 0 with a step armed and the clock below the entry. -/
def stepping (holdAt : Option Nat) : State :=
  { dueEntry (element (some (5, 2)) (.localTie 12) .opened 0) entryReplaced with
    clock := { stationZero.clock with integer := 4000000, stepArmed := true, holdAt := holdAt } }

theorem witness_ReleasesLieBelowTheSafeTime (holdAt : Option Nat) :
    stationZero.leastHead = none ∧ (stepping holdAt).leastHead = some (.own entryReplaced) ∧ (stepping holdAt).CanRelease entryReplaced.key ∧
    (stepping holdAt).clock.stepArmed = true ∧ max (stepping holdAt).clock.integer entryReplaced.key.time = 4052000 :=
  ⟨rfl, rfl, ⟨rfl, by simp [stepping, dueEntry, entryReplaced], .inr rfl, ⟨rfl, rfl, rfl, rfl, by show 0 < 60; decide⟩,
    fun pr hp => by simp [stepping, dueEntry, stationZero, State.powerOn] at hp⟩, rfl,
    by show max 4000000 4052000 = 4052000; decide⟩

/-- A step that releases a remote change raises the clock to it and reaches the hold-at time there (R102, R103). -/
theorem test_stepped_release_reaches_the_hold_at_time :
    (fun t => (t.clock.integer, t.clock.stepArmed, t.clock.holdAt, t.clock.causes.step, t.clock.causes.brk))
      (after .release (steppedAtOne [changeR] [])) =
      (4052000, false, none, true, true) := by decide +kernel

/-- A release in flight of the remote change of event 10 of file 12, with what it still owes. -/
def inFlight (record : Option RecordBody) (mark : Option WatchMark) (relabel : Option Relabel) : State := { stationOne with
  islands := { stationOne.islands with relabel := relabel }
  engine := ⟨some ⟨.remote changeR, record, mark⟩, some ⟨4052000, 0, 0, 0⟩, none, .none, false⟩ }

theorem witness_ReleaseRecordsFollowInOrder (record : Option RecordBody) (mark : Option WatchMark)
    (relabel : Option Relabel) :
    (inFlight record mark relabel).engine.inFlight.isSome = true ∧
    (inFlight record mark relabel).delivery.queue.length < 60 ∧
    60 ≤ (List.replicate 60 (DeliveryRecord.mk 0 (.holdState HoldCauses.empty 0))).length :=
  ⟨rfl, by show 0 < 60; decide, by rw [List.length_replicate]⟩

theorem witness_LateChangesAreApplied :
    (∃ pr r, handedOver.processing = some pr ∧ pr.handOver = some r ∧ (handedOver.elementAt r.element).isSome = true) ∧
    handedOver.EngineFree ∧
    (∃ pr r, ({ handedOver with elements := (State.powerOn 1).elements } : State).processing = some pr ∧
      pr.handOver = some r ∧ ({ handedOver with elements := (State.powerOn 1).elements } : State).elementAt r.element = none) ∧
    stationZero.processing = none ∧
    ({ handedOver with engine := { handedOver.engine with snapshot := .waiting } } : State).engine.snapshot ≠ .none :=
  ⟨⟨_, _, rfl, rfl, by decide +kernel⟩, ⟨rfl, rfl, rfl, rfl, by decide⟩, ⟨_, _, rfl, rfl, by decide +kernel⟩, rfl,
    by decide⟩

/-- A relabel COMPUTING, one EMITTING with the records of its release queued, and one with them still to queue. -/
theorem witness_RelabelsComputeAndEmit :
    (relabelling.islands.relabel = some ⟨.item ⟨4052000, 0, 0, 0⟩, .computing⟩ ∧
      (after .relabelComputed relabelling).islands.relabel =
        some ⟨.item ⟨4052000, 0, 0, 0⟩, .emitting [(5, 5, 2), (6, 5, 2)] 1 0⟩) ∧
    ((after .relabelComputed relabelling).engine.inFlight.all ReleaseInFlight.queued = true ∧
      (after .relabelComputed relabelling).delivery.queue.length < 60) ∧
    (after .relabelComputed (after .release releasable)).engine.inFlight.all ReleaseInFlight.queued = false := by
  decide +kernel

theorem witness_SnapshotsAreEmitted :
    ({ stationZero with engine := { stationZero.engine with snapshot := .waiting } } : State).engine.inFlight = none ∧
    ((emitting 4).elementAt 4).isSome = true ∧ (∀ m < 256, 5 ≤ m → (emitting 5).elementAt m = none) ∧
    (emitting 5).delivery.queue.length < 60 ∧
    ({ stationZero with engine := { stationZero.engine with snapshot := .waiting, apply := some changeR } } : State).engine.apply.isSome =
      true ∧
    stationZero.engine.snapshot ≠ .waiting ∧ stationZero.engine.inFlight = none ∧ stationZero.islands.relabel = none ∧
    stationZero.engine.completeOwed = false ∧ stationZero.console.skew = none := by decide +kernel

/-! ## Witnesses: clock, link, peer table -/

theorem witness_TheTickAdvancesTheClock :
    ((runningClock 2000008 0 262144 (some 2000010)).station.state = .replaying ∧
      (runningClock 2000008 0 262144 (some 2000010)).clock.causes = HoldCauses.empty ∧
      2000010 < 2000008 + (0 + 262144) / 65536) ∧
    ((runningClock 1099511627773 65535 1 (some 1099511627774)).clock.integer < 1099511627774 ∧
      1099511627773 + (65535 + 1) / 65536 = 1099511627774) ∧
    (runningClock 1099511627774 0 1 none).clock.integer = 1099511627774 ∧
    (dueEntry (element none .localOnly .opened 0) entryReplaced).leastHead = some (.own entryReplaced) ∧
    ((skipping none).leastHead = some (.own entryReplaced) ∧ (skipping none).clock.skipEnable = true ∧
      (skipping none).station.state = .replaying ∧ (skipping none).clock.causes = HoldCauses.empty ∧
      4052000 < (skipping none).horizon.safeTime ∧ (skipping none).settings.skipThreshold * 1000 < 4052000 - 3000001 ∧
      3000001 + (skipping none).settings.skipLead * 1000 < 4052000 ∧ (skipping (some 4000000)).clock.holdAt = some 4000000) := by
  refine ⟨⟨rfl, rfl, by decide⟩, ⟨by decide, by decide⟩, rfl, rfl, rfl, rfl, rfl, rfl, by decide, by decide, by decide, rfl⟩

theorem witness_FramesAreBuiltAndSent :
    (({ stationZero with station := { stationZero.station with time := 10000 } } : State).tx.state = .idle ∧
      ({ stationZero with station := { stationZero.station with time := 10000 } } : State).elapsed 0 = 10000) ∧
    (loaded.tx.state = .waiting ∧ loaded.inService = true ∧
      ({ loaded with station := { loaded.station with time := 50 } } : State).elapsed 0 = 50 ∧ loaded.elapsed 0 = 0) ∧
    (∃ f, (after (.frameBuild 12) stationNine).tx.state = .sending f) := by
  refine ⟨⟨rfl, by decide⟩, ⟨rfl, by decide, by decide, by decide⟩, stationNine.builtFrame, ?_⟩
  decide +kernel

theorem witness_FailuresAndExpiriesTakeEffect :
    (∃ f, (after (.frameBuild 12) stationNine).tx.state = .sending f ∧ 65 ≤ 128 + 104 * f.changes.length) ∧
    (after (.frameBuild 12) stationNine).tx.failures < 15 ∧
    ((heardPeer 4000000).state = .active ∧ ({ heardPeer 4000000 with silence := some 40000 } : Peer).silence = some 40000) ∧
    ((after (.frameProcessing 0) buffered).processing.map (fun pr => (pr.frame.sender, pr.tracked)) = some (0, false) ∧
      ((after (.frameProcessing 0) buffered).peer 0).state = .active) ∧
    ({ stationZero with clock := { stationZero.clock with stallTimer := some 100000 } } : State).clock.stallTimer =
      some 100000 := by
  refine ⟨⟨stationNine.builtFrame, ?_, by omega⟩, by decide +kernel, ⟨rfl, rfl⟩,
    by decide +kernel, rfl⟩
  decide +kernel

theorem witness_TheReceiverChecksFrames :
    (stationZero.rx.phase = .searching) ∧
    ({ stationOne with rx := { stationOne.rx with phase := .sampling 1600000 } } : State).rx.phase = .sampling 1600000 ∧
    receive tieFrame.bits = .good tieFrame ∧ tieFrame.sender ≠ stationOne.station.number ∧
    receive [true] = .bad ∧ 8 < fieldAt (List.replicate 72 true) 64 4 ∧
    (104 + 104 * fieldAt (tieFrame.coveredBits ++ bitsOf 32 0) 64 4 = (tieFrame.coveredBits ++ bitsOf 32 0).length ∧
      receive (tieFrame.coveredBits ++ bitsOf 32 0) = .bad) ∧
    (receive { tieFrame with changes := [⟨endTime, 0, 0, 12, .closed, 0, 0, false⟩] }.bits = .bad ∧
      receive { tieFrame with changes := [⟨4052000, 32, 0, 12, .closed, 0, 0, false⟩] }.bits = .bad) := by decide +kernel

/-- Station 1 with a frame of peer 0 in its buffer, the peer in a state. -/
def hearing (f : Frame) (p : Peer) : State := { stationOne with
  peers := stationOne.peers.setIfInBounds 0 p
  rx := { stationOne.rx with buffers := [f] } }

theorem witness_AcceptedFramesAreTaken :
    buffered.rx.buffers = tieFrame :: [] ∧ buffered.inService = true ∧ buffered.console.inFlight = none ∧
    buffered.processing = none ∧ tieFrame.epoch = buffered.station.epoch ∧
    (buffered.peer 0).state = .active ∧ (buffered.peer 0).expectedSeq = some tieFrame.sequence ∧ tieFrame.changes ≠ [] ∧
    buffered.engine.apply = none ∧ stationOne.processing = none ∧ stationOne.rx.buffers = [] ∧
    ((hearing { tieFrame with sequence := 0 } (heardPeer 4000000)).peer 0).expectedSeq = some ((0 + 1) % 256) := by
  decide +kernel

/-- Station 1 with change entries of a frame still to take. -/
def routing (cs : List ChangeEntry) (tracked : Bool) (remotes : List RemoteEntry) (releasePoint : Option Key) : State :=
  { stationOne with
    remotes := remotes
    engine := { stationOne.engine with releasePoint := releasePoint }
    rx := { stationOne.rx with buffers := [tieFrame] }
    processing := some ⟨tieFrame, cs, tracked, none⟩ }

theorem witness_ChangeEntriesAreRouted (c : ChangeEntry) (cs : List ChangeEntry) (tracked : Bool)
    (remotes : List RemoteEntry) (releasePoint : Option Key) :
    (routing (c :: cs) tracked remotes releasePoint).processing = some ⟨tieFrame, c :: cs, tracked, none⟩ ∧
    (routing (c :: cs) tracked remotes releasePoint).engine.apply = none ∧
    (routing (c :: cs) tracked remotes releasePoint).console.inFlight = none ∧ tieFrame.sender < 16 ∧
    (∀ k, changeR.key.lt k = true ∨ changeR.key = k → ∃ rp,
      (routing (c :: cs) tracked remotes (some k)).engine.releasePoint = some rp ∧
        (changeR.key.lt rp = true ∨ changeR.key = rp)) ∧
    (∃ r ∈ (routing (c :: cs) tracked [changeR] releasePoint).remotes, r.key = changeR.key) ∧
    (512 ≤ (routing (c :: cs) tracked (List.replicate 512 changeR) releasePoint).remotes.length) ∧
    (stationOne.tieElement 12).map (fun p => p.2.ownership) = some (.mirror 12 tieFrame.sender) ∧
    (stationOne.tieElement 40).map (fun p => p.2.ownership) = some (.localTie 40) ∧ stationOne.tieElement 13 = none :=
  ⟨rfl, rfl, rfl, by decide, fun k h => ⟨k, rfl, h⟩, ⟨changeR, List.mem_singleton_self _, rfl⟩,
    by show 512 ≤ (List.replicate 512 changeR).length; rw [List.length_replicate],
    by decide +kernel, by decide +kernel, by decide +kernel⟩

/-- The last entry of a frame is taken with step 5 in the same act. -/
theorem test_frameProcessing_ends_with_its_last_entry :
    (fun t => (t.processing, t.remotes.length, (t.peer 0).horizon))
      (after (.frameProcessing 1) (routing [⟨4052000, 0, 0, 12, .closed, 0, 0, false⟩] false [] none)) =
      (none, 1, 4052000) := by decide +kernel

/-- A row of two entries takes both and step 5; a row of one entry leaves the processing standing with nothing handed over,
and one whose change is late leaves it standing with that change handed over (R81, R85). -/
theorem test_frameProcessing_takes_several_entries :
    (fun t => (t.processing, t.remotes.length, (t.peer 0).horizon))
      (after (.frameProcessing 2) (routing
        [⟨4051000, 0, 0, 12, .closed, 0, 0, false⟩, ⟨4052000, 0, 1, 12, .opened, 0, 0, false⟩] false [] none)) =
      (none, 2, 4052000) := by decide +kernel
theorem witness_ChangeEntriesAreRouted_rows :
    (after (.frameProcessing 1) (routing
        [⟨4051000, 0, 0, 12, .closed, 0, 0, false⟩, ⟨4052000, 0, 1, 12, .opened, 0, 0, false⟩] false [] none)).processing =
      some ⟨tieFrame, [⟨4052000, 0, 1, 12, .opened, 0, 0, false⟩], false, none⟩ ∧
    ((after (.frameProcessing 1) (routing [⟨4052000, 0, 0, 12, .closed, 0, 0, false⟩] false []
        (some ⟨4052001, 0, 0, 0⟩))).processing.map fun pr => pr.handOver.isSome) = some true := by decide +kernel

/-- A change of an EXCLUDED peer is discarded and counted (R92). -/
theorem test_frameProcessing_discards_a_tracked_change :
    (fun t => (t.remotes.length, (t.peer 0).discarded))
      (after (.frameProcessing 1) (routing [⟨4052000, 0, 0, 12, .closed, 0, 0, false⟩] true [] none)) = (0, 1) := by
  decide +kernel

theorem witness_OtherFramesAreTaken :
    ((hearing { tieFrame with epoch := 1, restart := true } (heardPeer 4000000)).settings.follow = true ∧
      (1 + 256 - (hearing { tieFrame with epoch := 1, restart := true } (heardPeer 4000000)).station.epoch) % 256 = 1) ∧
    ((hearing { tieFrame with sequence := 2 } (heardPeer 4000000)).peer 0).expectedSeq = some 1 ∧
    ((hearing { tieFrame with changes := [] } { heardPeer 4000000 with state := .excluded, silence := none }).peer 0).state =
      .excluded ∧
    ((hearing { tieFrame with changes := [] } { heardPeer endTime with state := .ended, silence := none }).peer 0).expectedSeq =
      some tieFrame.sequence ∧
    ((hearing tieFrame { heardPeer 4000000 with state := .desync, silence := none }).peer 0).state = .desync ∧
    (tieFrame.horizon < ((hearing tieFrame { heardPeer 4052001 with state := .excluded }).peer 0).horizon ∧
      tieFrame.changes ≠ []) ∧
    (hearing tieFrame { heardPeer 4052001 with state := .excluded }).engine.apply = none ∧
    ((hearing { tieFrame with sequence := 0 } { heardPeer endTime with state := .ended }).peer 0).expectedSeq =
      some ((0 + 1) % 256) ∧
    ((hearing { tieFrame with sequence := 2 } { heardPeer endTime with state := .ended }).peer 0).state = .ended ∧
    (hearing tieFrame Peer.powerOn).inService = true ∧ (hearing tieFrame Peer.powerOn).processing = none := by
  decide +kernel

end Sys2Proof.Tests
end

section
/-! SUPPORT. The intake of an EVENT (R7): steps 5 to 7 as one write of the source, the reports and the record in
intake. -/

namespace Sys2Proof.Machine

/-! ## Reports (R139) -/

theorem State.report_setSource (s : State) (n : Nat) (r : Source) (k : ErrorKind) (x : Option Nat) :
    (s.setSource n r).report k x = (s.report k x).setSource n r := by
  simp only [State.report, State.setSource_attention]
  cases s.attention.capture.first <;> rfl

theorem State.reportIf_setSource (s : State) (n : Nat) (r : Source) (c : Bool) (k : ErrorKind) (x : Option Nat) :
    (s.setSource n r).reportIf c k x = (s.reportIf c k x).setSource n r := by
  cases c
  · rfl
  · exact s.report_setSource n r k x

/-- A conditional report writes the attention unit alone. -/
theorem State.reportIf_frame (s : State) (c : Bool) (k : ErrorKind) (x : Option Nat) :
    s.reportIf c k x = { s with attention := (s.reportIf c k x).attention } := by
  cases c
  · rfl
  · exact (s.reported_report k x).frame

/-- The reports of an admitted EVENT of source `n`, in their order (R15, R28, R29). -/
def State.eventReports (s : State) (n : Nat) (clamped reordered gap : Bool) : State :=
  ((s.reportIf clamped .clamped (some n)).reportIf reordered .reordered (some n)).reportIf gap .gap (some n)

theorem State.eventReports_frame (s : State) (n : Nat) (clamped reordered gap : Bool) :
    s.eventReports n clamped reordered gap =
      { s with attention := (s.eventReports n clamped reordered gap).attention } := by
  unfold State.eventReports
  rw [State.reportIf_frame, State.reportIf_frame (s.reportIf clamped _ _), State.reportIf_frame s]

/-! ## Steps 5 to 7 -/

/-- Steps 5 to 7 of an admitted EVENT: its reports, the source record, the record in intake, and what is re-formed. -/
theorem State.admitEvent_eq (s : State) (b : EventBody) (p : PointEntry) (position : Position) (c : SequenceClass)
    (ordinal : Nat) :
    s.admitEvent b p position c ordinal =
      ({ (s.eventReports b.source.toNat
          (correctionClamps ((s.source b.source.toNat).promote b.raw.toNat).segment b.raw.toNat)
          (isReordered ((s.source b.source.toNat).promote b.raw.toNat) b.raw.toNat) c.gapCount.isSome).setSource
          b.source.toNat (((s.source b.source.toNat).promote b.raw.toNat).commitEvent b ordinal) with
        feed := { s.feed with
          intake := some (Sys2Proof.Machine.intakeOf s ((s.source b.source.toNat).promote b.raw.toNat) b p position c
            ordinal) } } : State).settle s := by
  simp only [State.admitEvent, State.reportIf_setSource]
  rw [← State.eventReports, State.eventReports_frame]
  rfl

end Sys2Proof.Machine
end

section
/-! SUPPORT. The source counters (R12): the balance of one source, what leaves every source's balance as it is, and the
acts that move it: an EVENT admitted, inserted, merged, replaced and released, and the start of an epoch. -/

namespace Sys2Proof.Machine

/-! ## The balance of one source -/

/-- The counters of a source with `held` entries in the Pending Queue and `waiting` records in intake. -/
structure SourceCounters.Balanced (c : SourceCounters) (held waiting : Nat) : Prop where
  pending : c.pending = held
  taken : c.taken < max32 → c.taken = c.merged + c.pending + c.released + waiting

theorem SourceCounters.balanced_zero : SourceCounters.zero.Balanced 0 0 := ⟨rfl, fun _ => rfl⟩

/-- TAKEN rises as a record enters intake (R12). -/
theorem SourceCounters.Balanced.enterIntake {c : SourceCounters} {held : Nat} (h : c.Balanced held 0) :
    ({ c with taken := satSucc max32 c.taken } : SourceCounters).Balanced held 1 := by
  refine ⟨h.pending, ?_⟩
  have := h.taken
  simp only [satSucc]
  split <;> omega

/-- PENDING rises as the record in intake is inserted (R39). -/
theorem SourceCounters.Balanced.insert {c : SourceCounters} {held : Nat} (h : c.Balanced held 1) :
    ({ c with pending := c.pending + 1 } : SourceCounters).Balanced (held + 1) 0 := by
  obtain ⟨hp, ht⟩ := h
  exact ⟨by simp only; omega, fun hc => by have := ht hc; simp only; omega⟩

/-- MERGED rises as the record in intake merges (R48). -/
theorem SourceCounters.Balanced.merge {c : SourceCounters} {held : Nat} (h : c.Balanced held 1) :
    ({ c with merged := satSucc max32 c.merged } : SourceCounters).Balanced held 0 := by
  refine ⟨h.pending, fun hc => ?_⟩
  have := h.taken hc
  simp only [satSucc] at hc ⊢
  split <;> omega

/-- An entry that a replacement takes from its source counts there as merged (R53). -/
theorem SourceCounters.Balanced.replaced {c : SourceCounters} {held waiting : Nat} (h : c.Balanced (held + 1) waiting) :
    ({ c with pending := c.pending - 1, merged := satSucc max32 c.merged } : SourceCounters).Balanced held waiting := by
  obtain ⟨hp, ht⟩ := h
  refine ⟨by simp only; omega, fun hc => ?_⟩
  have := ht hc
  simp only [satSucc] at hc ⊢
  split <;> omega

/-- An entry released counts as released (R112). -/
theorem SourceCounters.Balanced.release {c : SourceCounters} {held waiting : Nat} (h : c.Balanced (held + 1) waiting) :
    ({ c with released := satSucc max32 c.released, pending := c.pending - 1 } : SourceCounters).Balanced held waiting := by
  obtain ⟨hp, ht⟩ := h
  refine ⟨by simp only; omega, fun hc => ?_⟩
  have := ht hc
  simp only [satSucc] at hc ⊢
  split <;> omega

/-! ## The balance of every source -/

theorem State.heldOf_eq_countP (s : State) (n : Nat) :
    s.heldOf n = s.pendingQueue.countP fun x => x.key.source == n :=
  List.countP_eq_length_filter.symm

theorem State.intakeOf_of_none {s : State} (h : s.feed.intake = none) (n : Nat) : s.intakeOf n = 0 := by
  simp only [State.intakeOf, h]

theorem State.intakeOf_of_some {s : State} {e : Intake} (h : s.feed.intake = some e) (n : Nat) :
    s.intakeOf n = if e.key.source = n then 1 else 0 := by
  simp only [State.intakeOf, h]

theorem State.CountersAgree.balanced {s : State} (h : s.CountersAgree) {n : Nat} (hn : n < 32) :
    (s.source n).counters.Balanced (s.heldOf n) (s.intakeOf n) :=
  ⟨h.pending n hn, h.taken n hn⟩

/-- The invariant from the balance of every source. -/
theorem State.countersAgree_of_balanced {s : State}
    (undeclared : ∀ n, (s.source n).state = .undeclared → (s.source n).counters = SourceCounters.zero)
    (balanced : ∀ n, n < 32 → (s.source n).counters.Balanced (s.heldOf n) (s.intakeOf n))
    (points : s.inService = true → ∀ p ∈ s.points, (s.elementAt p.element).isSome = true)
    (intake : ∀ e, s.feed.intake = some e → (s.elementAt e.element).isSome = true)
    (entries : ∀ x ∈ s.pendingQueue, (s.elementAt x.element).isSome = true) : s.CountersAgree :=
  ⟨undeclared, fun n hn => (balanced n hn).pending, fun n hn => (balanced n hn).taken, points, intake, entries⟩

/-- A source with a record in intake is declared. -/
theorem State.CountersAgree.declared_of_intake {s : State} (h : s.CountersAgree) {e : Intake}
    (he : s.feed.intake = some e) (hn : e.key.source < 32) : (s.source e.key.source).state ≠ .undeclared := by
  intro hu
  have hb := h.balanced hn
  rw [h.undeclared _ hu, State.intakeOf_of_some he, if_pos rfl] at hb
  have := hb.taken (by decide)
  simp only [SourceCounters.zero] at this
  omega

/-- A source with an entry in the Pending Queue is declared. -/
theorem State.CountersAgree.declared_of_mem {s : State} (h : s.CountersAgree) {x : PendingEntry}
    (hx : x ∈ s.pendingQueue) (hn : x.key.source < 32) : (s.source x.key.source).state ≠ .undeclared := by
  intro hu
  have hb := (h.balanced hn).pending
  rw [h.undeclared _ hu, State.heldOf_eq_countP] at hb
  have : 0 < s.pendingQueue.countP fun y => y.key.source == x.key.source :=
    List.countP_pos_iff.2 ⟨x, hx, beq_self_eq_true _⟩
  simp only [SourceCounters.zero] at hb
  omega

/-! ## What leaves every balance as it is -/

/-- A source keeps its counts: TAKEN, MERGED, PENDING and RELEASED, and all counters where it is UNDECLARED. -/
structure Source.CountsKept (r r' : Source) : Prop where
  undeclared : r'.state = .undeclared → r.state = .undeclared ∧ r'.counters = r.counters
  taken : r'.counters.taken = r.counters.taken
  merged : r'.counters.merged = r.counters.merged
  pending : r'.counters.pending = r.counters.pending
  released : r'.counters.released = r.counters.released

theorem Source.CountsKept.refl (r : Source) : r.CountsKept r := ⟨fun h => ⟨h, rfl⟩, rfl, rfl, rfl, rfl⟩

theorem Source.CountsKept.trans {r r' r'' : Source} (h : r.CountsKept r') (h' : r'.CountsKept r'') :
    r.CountsKept r'' where
  undeclared := fun hu =>
    have ⟨hu', hc'⟩ := h'.undeclared hu
    have ⟨hu, hc⟩ := h.undeclared hu'
    ⟨hu, hc'.trans hc⟩
  taken := h'.taken.trans h.taken
  merged := h'.merged.trans h.merged
  pending := h'.pending.trans h.pending
  released := h'.released.trans h.released

/-- A source that stays declared with its counters keeps its counts. -/
theorem Source.countsKept_of_declared {r r' : Source} (h : r'.state ≠ .undeclared) (hc : r'.counters = r.counters) :
    r.CountsKept r' :=
  ⟨fun hu => absurd hu h, by rw [hc], by rw [hc], by rw [hc], by rw [hc]⟩

/-- What the balance sees of an entry. -/
def PendingEntry.account (x : PendingEntry) : Nat × Nat := (x.key.source, x.element)

/-- From `s` to `t` nothing changed that the counters' invariant speaks of: the counts, the entries' sources and elements,
the record in intake and the points; no element went, and the station did not enter service. -/
structure State.CountsKept (s t : State) : Prop where
  sources : ∀ n, (s.source n).CountsKept (t.source n)
  queue : (t.pendingQueue.map PendingEntry.account).Perm (s.pendingQueue.map PendingEntry.account)
  intake : t.feed.intake = s.feed.intake
  elements : ∀ n, (s.elementAt n).isSome = true → (t.elementAt n).isSome = true
  points : t.points = s.points
  service : t.inService = true → s.inService = true

theorem State.CountsKept.refl (s : State) : s.CountsKept s :=
  ⟨fun _ => .refl _, .refl _, rfl, fun _ => id, rfl, id⟩

theorem State.CountsKept.trans {s t u : State} (h : s.CountsKept t) (h' : t.CountsKept u) : s.CountsKept u :=
  ⟨fun n => (h.sources n).trans (h'.sources n), h'.queue.trans h.queue, h'.intake.trans h.intake,
    fun n hn => h'.elements n (h.elements n hn), h'.points.trans h.points, fun hs => h.service (h'.service hs)⟩

theorem State.CountsKept.heldOf {s t : State} (h : s.CountsKept t) (n : Nat) : t.heldOf n = s.heldOf n := by
  have count (u : State) : u.heldOf n = (u.pendingQueue.map PendingEntry.account).countP fun a => a.1 == n := by
    rw [State.heldOf_eq_countP, List.countP_map]
    rfl
  rw [count, count, h.queue.countP_eq]

theorem State.CountsKept.intakeOf {s t : State} (h : s.CountsKept t) (n : Nat) : t.intakeOf n = s.intakeOf n := by
  simp only [State.intakeOf, h.intake]

/-- The counters stay agreed where the counts are kept. -/
theorem State.CountersAgree.kept {s t : State} (h : s.CountersAgree) (k : s.CountsKept t) : t.CountersAgree := by
  refine State.countersAgree_of_balanced (fun n hu => ?_) (fun n hn => ?_) (fun hs p hp => ?_) (fun e he => ?_)
    fun x hx => ?_
  · obtain ⟨hu', hc⟩ := (k.sources n).undeclared hu
    rw [hc, h.undeclared n hu']
  · obtain ⟨hp, ht⟩ := h.balanced hn
    obtain ⟨-, et, em, ep, er⟩ := k.sources n
    rw [k.heldOf, k.intakeOf]
    exact ⟨by rw [ep, hp], by rw [et, em, ep, er]; exact ht⟩
  · exact k.elements _ (h.points (k.service hs) p (k.points ▸ hp))
  · exact k.elements _ (h.intake e (k.intake ▸ he))
  · obtain ⟨y, hy, hxy⟩ := List.mem_map.1 (k.queue.subset (List.mem_map_of_mem hx))
    have : y.element = x.element := congrArg Prod.snd hxy
    exact k.elements _ (this ▸ h.entries y hy)

/-- Nothing of the parts that the invariant speaks of was written. -/
theorem State.countsKept_of_eq {s t : State} (hr : t.sources = s.sources) (hq : t.pendingQueue = s.pendingQueue)
    (hf : t.feed.intake = s.feed.intake) (he : t.elements = s.elements) (hp : t.points = s.points)
    (hs : t.inService = true → s.inService = true) : s.CountsKept t :=
  ⟨fun n => by rw [State.source_congr hr]; exact .refl _, by rw [hq], hf,
    fun n => by rw [State.elementAt_congr he]; exact id, hp, hs⟩

theorem State.inService_congr {s t : State} (h : t.station.state = s.station.state) : t.inService = s.inService := by
  simp only [State.inService, h]

/-- The parts of the state that the invariant speaks of, and the station state. -/
def State.accounts (s : State) : Vector Source 32 × List PendingEntry × Option Intake × Vector (Option Element) 256 ×
    List PointEntry × StationState :=
  (s.sources, s.pendingQueue, s.feed.intake, s.elements, s.points, s.station.state)

/-- Nothing of the parts that the invariant speaks of was written, nor the station state. -/
theorem State.countsKept_of_accounts {s t : State} (h : t.accounts = s.accounts) : s.CountsKept t := by
  simp only [State.accounts, Prod.mk.injEq] at h
  obtain ⟨hr, hq, hf, he, hp, hs⟩ := h
  exact State.countsKept_of_eq hr hq hf he hp fun h => (State.inService_congr hs).symm.trans h

/-! ## The shared operations, after an act `s` to `t` that keeps the counts -/

/-- The completion test moves the station within service alone (R124). -/
theorem State.inService_of_settleComplete {s b : State} (h : (s.settleComplete b).inService = true) :
    s.inService = true := by
  rw [State.settleComplete_eq, State.inService_congr (s := (s.retimed b).testCompletion b) (by simp)] at h
  have hst : (s.retimed b).station = s.station := by rw [State.retimed_spec]
  rcases (State.completionFrame_testCompletion (s.retimed b) b).kept with hk | ⟨hk, -, -⟩
  · rwa [State.inService_congr hk, State.inService_congr (congrArg Station.state hst)] at h
  · rw [hst] at hk
    simp only [State.inService, hk]

theorem State.inService_toLoading (s : State) : s.toLoading.inService = s.inService := by
  simp only [State.inService, State.toLoading]
  cases s.station.state <;> rfl

section
variable {s t : State}

theorem State.CountsKept.settle {b : State} (k : s.CountsKept t) : s.CountsKept (t.settle b) := by
  refine k.trans (State.countsKept_of_accounts ?_)
  simp [State.accounts]

theorem State.CountsKept.settleComplete {b : State} (k : s.CountsKept t) : s.CountsKept (t.settleComplete b) := by
  refine k.trans (State.countsKept_of_eq ?_ ?_ ?_ ?_ ?_ State.inService_of_settleComplete) <;> simp

theorem State.CountsKept.report {e : ErrorKind} {x : Option Nat} (k : s.CountsKept t) :
    s.CountsKept (t.report e x) := by
  refine k.trans (State.countsKept_of_accounts ?_)
  simp [State.accounts]

theorem State.CountsKept.toLoading (k : s.CountsKept t) : s.CountsKept t.toLoading :=
  k.trans (State.countsKept_of_eq rfl rfl rfl rfl rfl fun h => t.inService_toLoading ▸ h)

theorem State.CountsKept.endRelabel {c : RelabelCause} (k : s.CountsKept t) : s.CountsKept (t.endRelabel c) := by
  cases c <;> exact k.trans (State.countsKept_of_accounts rfl)

/-- An answer placed where no record is in intake. -/
theorem State.CountsKept.placeAnswer {a : Answer} (k : s.CountsKept t) (h : s.feed.intake = none) :
    s.CountsKept (t.placeAnswer a) :=
  k.trans (State.countsKept_of_eq rfl rfl (k.intake.trans h).symm rfl rfl id)

/-- An element written leaves no element absent that was present. -/
theorem State.CountsKept.setElement {n : Nat} {e : Element} (k : s.CountsKept t) : s.CountsKept (t.setElement n e) := by
  refine k.trans ⟨fun _ => .refl _, .refl _, rfl, fun m hm => ?_, rfl, id⟩
  rw [State.elementAt_setElement]
  split
  · rfl
  · exact hm

/-- A source written with its counts kept. -/
theorem State.CountsKept.setSource {n : Nat} {r : Source} (k : s.CountsKept t) (h : (t.source n).CountsKept r) :
    s.CountsKept (t.setSource n r) := by
  refine k.trans ⟨fun m => ?_, .refl _, rfl, fun _ => id, rfl, id⟩
  rw [State.source_setSource]
  split
  · rename_i hm
    exact hm.1 ▸ h
  · exact .refl _

/-- A part of the state written that the invariant does not speak of. -/
theorem State.CountsKept.same {u : State} (k : s.CountsKept t) (h : u.accounts = t.accounts) : s.CountsKept u :=
  k.trans (State.countsKept_of_accounts h)

theorem State.CountsKept.reformLink (k : s.CountsKept t) : s.CountsKept t.reformLink := k.same rfl

theorem State.CountsKept.enqueue {b : RecordBody} (k : s.CountsKept t) : s.CountsKept (t.enqueue b) := k.same rfl

theorem State.CountsKept.startRelabel {c : RelabelCause} (k : s.CountsKept t) : s.CountsKept (t.startRelabel c) :=
  k.same rfl

theorem State.CountsKept.setTimer {source n time : Nat} (k : s.CountsKept t) :
    s.CountsKept (t.setTimer source n time) := k.same rfl

theorem State.CountsKept.cancelTimer {source n : Nat} (k : s.CountsKept t) : s.CountsKept (t.cancelTimer source n) :=
  k.same rfl

end

end Sys2Proof.Machine
end

section
/-! SUPPORT. The acts that move a source's counters (R12): each keeps the counters agreed. -/

namespace Sys2Proof.Machine

/-! ## Entries that leave and enter the Pending Queue -/

/-- In a queue without a key twice, an entry and the entries of other keys are the whole queue. -/
theorem KeySorted.perm_cons_filter {xs : List PendingEntry} (h : KeySorted PendingEntry.key xs) {x : PendingEntry}
    (hx : x ∈ xs) : xs.Perm (x :: xs.filter fun y => y.key != x.key) := by
  induction xs with
  | nil => cases hx
  | cons z zs ih =>
    obtain ⟨hz, hzs⟩ := List.pairwise_cons.1 h
    have ne {a b : Key} (lt : a.lt b = true) : a ≠ b := by
      rintro rfl
      rw [Key.lt_irrefl] at lt
      cases lt
    rcases List.mem_cons.1 hx with rfl | hx
    · have rest : zs.filter (fun y => y.key != x.key) = zs :=
        List.filter_eq_self.2 fun y hy => bne_iff_ne.2 (ne (hz y hy)).symm
      rw [List.filter_cons_of_neg (by simp), rest]
    · rw [List.filter_cons_of_pos (by simpa using ne (hz x hx))]
      exact ((ih hzs hx).cons z).trans (.swap x z _)

/-- Insertion in key order adds the entry and keeps the others. -/
theorem perm_insertByKey {α : Type} (key : α → Key) (x : α) (xs : List α) : (insertByKey key x xs).Perm (x :: xs) := by
  induction xs with
  | nil => exact .refl _
  | cons y ys ih =>
    simp only [insertByKey]
    split
    · exact .refl _
    · exact (ih.cons y).trans (.swap x y ys)

/-- `countSource` writes the counters of its source alone. -/
theorem State.source_countSource (s : State) (n m : Nat) (f : SourceCounters → SourceCounters) :
    (s.countSource n f).source m =
      if m = n ∧ n < 32 then { s.source m with counters := f (s.source m).counters } else s.source m := by
  simp only [State.countSource, State.source_setSource]
  split_ifs with h
  · rw [h.1]
  · rfl

/-- Counters that the balance does not speak of, of a declared source. -/
theorem State.countsKept_countSource (s : State) (n : Nat) (f : SourceCounters → SourceCounters)
    (hu : (s.source n).state ≠ .undeclared)
    (hf : ∀ c, (f c).taken = c.taken ∧ (f c).merged = c.merged ∧ (f c).pending = c.pending ∧ (f c).released = c.released) :
    s.CountsKept (s.countSource n f) :=
  have ⟨ht, hm, hp, hr⟩ := hf (s.source n).counters
  .setSource (.refl s) ⟨fun h => absurd h hu, ht, hm, hp, hr⟩

/-- From `s` to `t` the entries and the record in intake of source `n` alone changed, and its counters with them. -/
theorem State.CountersAgree.recount {s t : State} (h : s.CountersAgree) {n : Nat} {f : SourceCounters → SourceCounters}
    (hr : t.sources = (s.countSource n f).sources) (he : t.elements = s.elements) (hp : t.points = s.points)
    (hs : t.station = s.station) (declared : n < 32 → (s.source n).state ≠ .undeclared)
    (here : n < 32 → (f (s.source n).counters).Balanced (t.heldOf n) (t.intakeOf n))
    (held : ∀ m, m ≠ n → t.heldOf m = s.heldOf m) (waiting : ∀ m, m ≠ n → t.intakeOf m = s.intakeOf m)
    (intake : ∀ e, t.feed.intake = some e → (s.elementAt e.element).isSome = true)
    (entries : ∀ x ∈ t.pendingQueue, (s.elementAt x.element).isSome = true) : t.CountersAgree := by
  have src (m : Nat) := (State.source_congr hr m).trans (s.source_countSource n m f)
  have el (m : Nat) : t.elementAt m = s.elementAt m := State.elementAt_congr he m
  refine State.countersAgree_of_balanced (fun m hu => ?_) (fun m hm => ?_) (fun hi p hmem => ?_) (fun e hi => ?_)
    fun x hx => ?_
  · rw [src] at hu ⊢
    by_cases hmn : m = n ∧ n < 32
    · rw [if_pos hmn] at hu
      exact absurd (hmn.1 ▸ hu) (declared hmn.2)
    · rw [if_neg hmn] at hu ⊢
      exact h.undeclared m hu
  · rw [src]
    split
    · rename_i hmn
      exact hmn.1 ▸ here hmn.2
    · have hmn : m ≠ n := fun hmn => ‹¬ (m = n ∧ n < 32)› ⟨hmn, hmn ▸ hm⟩
      rw [held m hmn, waiting m hmn]
      exact h.balanced hm
  · rw [el]
    exact h.points ((State.inService_congr (by rw [hs])).symm.trans hi) p (hp ▸ hmem)
  · rw [el]; exact intake e hi
  · rw [el]; exact entries x hx

/-- The entry `x` has left the queue, and the counters of its source say so. -/
theorem State.CountersAgree.leave {u : State} {x : PendingEntry}
    (h : ({ u with pendingQueue := x :: u.pendingQueue } : State).CountersAgree) {f : SourceCounters → SourceCounters}
    (hf : ∀ c held waiting, SourceCounters.Balanced c (held + 1) waiting → (f c).Balanced held waiting) :
    (u.countSource x.key.source f).CountersAgree := by
  set s : State := { u with pendingQueue := x :: u.pendingQueue } with hs
  have held (m : Nat) : s.heldOf m = u.heldOf m + if x.key.source == m then 1 else 0 := by
    simp only [State.heldOf_eq_countP, hs, List.countP_cons]
  refine h.recount (n := x.key.source) (f := f) rfl rfl rfl rfl (h.declared_of_mem List.mem_cons_self) (fun hn => ?_)
    (fun m hm => ?_) (fun m _ => rfl) h.intake fun y hy => h.entries y (List.mem_cons_of_mem x hy)
  · have hb := h.balanced hn
    rw [held, if_pos (beq_self_eq_true _)] at hb
    exact hf _ _ _ hb
  · rw [held, if_neg (by simpa using hm.symm)]
    rfl

/-- The record in intake is answered: it entered the queue as the entries `q` beyond those before, or merged. -/
theorem State.CountersAgree.answer {s : State} (h : s.CountersAgree) {e : Intake} (he : s.feed.intake = some e)
    (a : Answer) {q : List PendingEntry} {f : SourceCounters → SourceCounters} {more : Nat}
    (here : q.countP (fun x => x.key.source == e.key.source) = s.heldOf e.key.source + more)
    (others : ∀ m, m ≠ e.key.source → q.countP (fun x => x.key.source == m) = s.heldOf m)
    (hf : ∀ c held, SourceCounters.Balanced c held 1 → (f c).Balanced (held + more) 0)
    (entries : ∀ x ∈ q, (s.elementAt x.element).isSome = true) :
    ((({ s with pendingQueue := q } : State).countSource e.key.source f).placeAnswer a).CountersAgree := by
  refine h.recount (n := e.key.source) (f := f) rfl rfl rfl rfl (h.declared_of_intake he) (fun hn => ?_)
    (fun m hm => ?_) (fun m hm => ?_) (fun e' he' => by cases he') entries
  · have hb := h.balanced hn
    rw [State.intakeOf_of_some he, if_pos rfl] at hb
    rw [State.heldOf_eq_countP, State.intakeOf_of_none rfl]
    exact here ▸ hf _ _ hb
  · rw [State.heldOf_eq_countP]
    exact others m hm
  · rw [State.intakeOf_of_none rfl, State.intakeOf_of_some he, if_neg hm.symm]

/-- The record in intake enters the queue as the entry `y` of its source (R39, R53). -/
theorem State.CountersAgree.enter {s : State} (h : s.CountersAgree) {e : Intake} (he : s.feed.intake = some e)
    (a : Answer) {y : PendingEntry} (hy : y.key = e.key) (hel : (s.elementAt y.element).isSome = true) :
    ((({ s with pendingQueue := insertByKey PendingEntry.key y s.pendingQueue } : State).countSource e.key.source
      fun k => { k with pending := k.pending + 1 }).placeAnswer a).CountersAgree := by
  refine h.answer he a (more := 1) ?_ (fun m hm => ?_) (fun c held hc => hc.insert) fun x hx => ?_
  · rw [(perm_insertByKey _ y _).countP_eq, List.countP_cons, if_pos (by rw [hy]; exact beq_self_eq_true _),
      State.heldOf_eq_countP]
  · rw [(perm_insertByKey _ y _).countP_eq, List.countP_cons, if_neg (by rw [hy]; simpa using hm.symm),
      State.heldOf_eq_countP]
    rfl
  · rcases (mem_insertByKey y x _).1 hx with rfl | hx
    · exact hel
    · exact h.entries x hx

/-! ## MERGE_ACT (R55) -/

/-- The nearest of some candidates is one of them (R47). -/
theorem mem_of_nearest {t : Nat} {x : Candidate} {xs : List Candidate} (h : nearest t xs = some x) : x ∈ xs := by
  induction xs with
  | nil => cases h
  | cons y ys ih =>
    simp only [nearest] at h
    split at h
    · cases h; exact List.mem_cons_self
    · rename_i z hz
      split at h
      · cases h; exact List.mem_cons_of_mem y (ih hz)
      · cases h; exact List.mem_cons_self

/-- A match among the pending candidates is an entry of the Pending Queue (R45). -/
theorem State.mem_pendingQueue_of_findMatch {s : State} {e : Intake} {c : Candidate} {x : PendingEntry}
    (h : s.findMatch e = some c) (hx : c.pending = some x) : x ∈ s.pendingQueue := by
  have hc : c ∈ s.candidates e.element := List.mem_of_mem_filter (mem_of_nearest h)
  rcases List.mem_append.1 hc with hr | hp
  · have hr : s.releasedCandidate e.element = some c := Option.mem_toList.1 hr
    simp only [State.releasedCandidate] at hr
    split at hr
    · cases hr; cases hx
    · split at hr
      · split at hr <;> cases hr
        cases hx
      · cases hr
  · obtain ⟨y, hy, rfl⟩ := List.mem_map.1 hp
    cases hx
    exact List.mem_of_mem_filter hy

theorem State.CountersAgree.insertEvent {s : State} (h : s.CountersAgree) {e : Intake} (he : s.feed.intake = some e) :
    (s.insertEvent e).CountersAgree :=
  (h.enter he (answerTaken kindEvent) (y := e.entry) rfl (h.intake e he)).kept
    (State.countsKept_of_accounts rfl)

theorem State.CountersAgree.replaceMatch {s : State} (h : s.CountersAgree) {e : Intake} (he : s.feed.intake = some e)
    {x : PendingEntry} (hs : KeySorted PendingEntry.key s.pendingQueue) (hx : x ∈ s.pendingQueue) :
    ((s.replaceMatch e x).placeAnswer (answerMerged kindEvent)).CountersAgree := by
  have whole := (hs.perm_cons_filter hx).symm.map PendingEntry.account
  have left := State.CountersAgree.leave (u := { s with pendingQueue := s.pendingQueue.filter fun y => y.key != x.key })
    (h.kept ⟨fun _ => .refl _, whole, rfl, fun _ => id, rfl, id⟩) fun c held waiting => SourceCounters.Balanced.replaced
  exact (left.enter he (answerMerged kindEvent) (y := replacement e x) rfl (h.entries x hx)).kept
    (State.countsKept_of_accounts rfl)

/-- A confirmation keeps every entry's source and element (R49). -/
theorem State.countsKept_confirmMatch (s : State) (x : PendingEntry) : s.CountsKept (s.confirmMatch x) := by
  refine ⟨fun _ => .refl _, ?_, rfl, fun _ => id, rfl, id⟩
  simp only [State.confirmMatch, List.map_map]
  refine .of_eq (List.map_congr_left fun y _ => ?_)
  simp only [Function.comp_apply]
  split <;> rfl

theorem State.CountersAgree.countMerge {s : State} (h : s.CountersAgree) {e : Intake} (he : s.feed.intake = some e)
    (quality time : Nat) : ((s.countMerge e quality time).placeAnswer (answerMerged kindEvent)).CountersAgree := by
  have merged := h.answer he (answerMerged kindEvent) (q := s.pendingQueue) (more := 0)
    (State.heldOf_eq_countP s _).symm (fun m _ => (State.heldOf_eq_countP s m).symm) (fun c held hc => hc.merge) h.entries
  refine merged.kept ?_
  simp only [State.countMerge]
  split
  · exact .setSource (.refl _) ⟨fun hu => ⟨hu, rfl⟩, rfl, rfl, rfl, rfl⟩
  · exact .refl _

theorem State.CountersAgree.mergeAct {s : State} (h : s.CountersAgree)
    (hs : KeySorted PendingEntry.key s.pendingQueue) : s.mergeAct.CountersAgree := by
  unfold State.mergeAct
  split
  · rename_i e he
    split
    · exact (h.insertEvent he).kept (.settle (.refl _))
    · rename_i c hc
      refine State.CountersAgree.kept ?_ (.settle (.refl _))
      unfold State.mergeEvent
      split
      · rename_i x hx
        dsimp only
        split
        · exact h.replaceMatch he hs (State.mem_pendingQueue_of_findMatch hc hx)
        · exact (h.kept (s.countsKept_confirmMatch x)).countMerge he c.quality c.time
      · exact h.countMerge he c.quality c.time
  · exact h

/-! ## The feed port -/

/-- A record's write ends: it is refused or ignored, or its work is done with no record in intake (R3, R5). -/
theorem State.CountersAgree.receiveRecord {s : State} (h : s.CountersAgree) (kind : Byte)
    {verdict : Option AnswerReason} {work : State → State}
    (hw : s.feed.intake = none → verdict = none → (work s).CountersAgree) :
    (s.receiveRecord kind verdict work).CountersAgree := by
  unfold State.receiveRecord
  split
  · rename_i ha
    have hi : s.feed.intake = none := by
      simp only [State.recordArrives, Bool.and_eq_true, Option.isNone_iff_eq_none] at ha
      exact ha.2
    split
    · exact h.kept (.placeAnswer (.refl s) hi)
    · exact hw hi rfl
  · exact h

end Sys2Proof.Machine
end

section
/-! SUPPORT. The source counters (R12) over the feed records, the start of an epoch and the commands. -/

namespace Sys2Proof.Machine

/-! ## Records taken -/

theorem State.not_inService_of_acceptsDescription {s : State} (h : s.acceptsDescription = true) :
    s.inService = false := by
  simp only [State.acceptsDescription, Bool.or_eq_true, beq_iff_eq] at h
  rcases h with h | h <;> simp only [State.inService, h]

theorem State.inService_of_acceptsReplay {s : State} (h : s.acceptsReplay = true) : s.inService = true := by
  simp only [State.acceptsReplay, Bool.or_eq_true, beq_iff_eq] at h
  rcases h with h | h <;> simp only [State.inService, h]

/-- A source open at the source-state check (R11). -/
theorem State.isOpen_of_sourceCheck {s : State} {kind : Byte} {n : Nat} (h : s.sourceCheck kind n = none) :
    (s.source n).isOpen = true := by
  unfold State.sourceCheck at h
  unfold Source.isOpen
  split at h
  · rename_i hs; simp [hs]
  · rename_i hs; simp [hs]
  · split at h <;> cases h
  · cases h
  · cases h

theorem Source.declared_of_isOpen {r : Source} (h : r.isOpen = true) : r.state ≠ .undeclared := by
  intro hu
  simp [Source.isOpen, hu] at h

theorem Source.countsKept_promote (r : Source) (raw : Nat) : r.CountsKept (r.promote raw) := by
  unfold Source.promote
  split
  · split
    · exact ⟨fun h => ⟨h, rfl⟩, rfl, rfl, rfl, rfl⟩
    · exact .refl r
  · exact .refl r

theorem State.CountersAgree.takeSettings {s : State} (h : s.CountersAgree) (hi : s.feed.intake = none)
    (b : SettingsBody) : (s.takeSettings b).CountersAgree := by
  refine h.kept ?_
  unfold State.takeSettings
  exact .placeAnswer (.toLoading (.same (.refl s) rfl)) hi

theorem State.CountersAgree.takeDeclare {s : State} (h : s.CountersAgree) (hi : s.feed.intake = none)
    (b : DeclareBody) : (s.takeDeclare b).CountersAgree := by
  unfold State.takeDeclare
  dsimp only
  split
  · exact h.kept (.placeAnswer (.refl s) hi)
  · refine h.kept ?_
    exact .placeAnswer (.toLoading (.setSource (.refl s) (Source.countsKept_of_declared SourceState.noConfusion rfl))) hi

theorem State.CountersAgree.takeElement {s : State} (h : s.CountersAgree) (hi : s.feed.intake = none)
    (b : ElementBody) : (s.takeElement b).CountersAgree := by
  unfold State.takeElement
  split
  · exact h.kept (.placeAnswer (.refl s) hi)
  · refine h.kept ?_
    exact .placeAnswer (.toLoading (.setElement (.refl s))) hi

/-- Before commit no point's element need be present (R13). -/
theorem State.CountersAgree.withPoints {s : State} (h : s.CountersAgree) (hs : s.inService = false)
    (points : List PointEntry) : ({ s with points := points } : State).CountersAgree :=
  { h with points := fun hin => absurd hin (Bool.eq_false_iff.1 hs) }

theorem State.CountersAgree.takePoint {s : State} (h : s.CountersAgree) (hi : s.feed.intake = none)
    (hs : s.inService = false) (b : PointBody) : (s.takePoint b).CountersAgree := by
  unfold State.takePoint
  split
  · exact h.kept (.placeAnswer (.refl s) hi)
  · have described := h.withPoints hs
      (s.points ++ [⟨b.source.toNat, b.point.toNat, b.element.toNat, (yesNo b.invert).getD false⟩])
    refine described.kept ?_
    exact .placeAnswer (.toLoading (.refl _)) hi

theorem State.CountersAgree.takeSegment {s : State} (h : s.CountersAgree) (hi : s.feed.intake = none)
    (b : SegmentBody) : (s.takeSegment b).CountersAgree := by
  unfold State.takeSegment
  dsimp only
  split
  · exact h.kept (.placeAnswer (.refl s) hi)
  · split
    · exact h.kept (.placeAnswer (.refl s) hi)
    · refine h.kept ?_
      exact .placeAnswer (.setSource (.refl s) ⟨fun hu => ⟨hu, rfl⟩, rfl, rfl, rfl, rfl⟩) hi

theorem State.CountersAgree.takeProgress {s : State} (h : s.CountersAgree) (hi : s.feed.intake = none)
    (b : ProgressBody) : (s.takeProgress b).CountersAgree := by
  unfold State.takeProgress
  dsimp only
  split
  · exact h.kept (.placeAnswer (.refl s) hi)
  · have promoted := (s.source b.source.toNat).countsKept_promote b.bound.toNat
    refine h.kept ?_
    exact .settle (.placeAnswer (.setSource (.refl s) (promoted.trans ⟨fun hu => ⟨hu, rfl⟩, rfl, rfl, rfl, rfl⟩))
      hi)

theorem State.CountersAgree.takeEndSource {s : State} (h : s.CountersAgree) (hi : s.feed.intake = none)
    (n : Byte) : (s.takeEndSource n).CountersAgree := by
  unfold State.takeEndSource
  dsimp only
  split
  · exact h.kept (.placeAnswer (.refl s) hi)
  · refine h.kept ?_
    exact .settleComplete (.placeAnswer (.setSource (.refl s)
      (Source.countsKept_of_declared SourceState.noConfusion rfl)) hi)

theorem State.CountersAgree.takeMalformed {s : State} (h : s.CountersAgree) (hi : s.feed.intake = none)
    (kind : Byte) (received : Nat) : (s.takeMalformed kind received).CountersAgree :=
  h.kept (State.countsKept_of_eq rfl rfl hi.symm rfl rfl id)

/-! ## EVENT (R7) -/

/-- A record ended at steps 1 to 4 after its count: the counter written is not one of the balance (R12). -/
theorem State.CountersAgree.discount {s : State} (h : s.CountersAgree) (hi : s.feed.intake = none) {n : Nat}
    (ho : (s.source n).isOpen = true) {f : SourceCounters → SourceCounters} {a : Answer}
    (hf : ∀ c, (f c).taken = c.taken ∧ (f c).merged = c.merged ∧ (f c).pending = c.pending ∧
      (f c).released = c.released) :
    ((s.countSource n f).placeAnswer a).CountersAgree :=
  h.kept (.placeAnswer (s.countsKept_countSource n f (Source.declared_of_isOpen ho) hf) hi)

/-- As `State.CountersAgree.discount`, with a report. -/
theorem State.CountersAgree.discountReported {s : State} (h : s.CountersAgree) (hi : s.feed.intake = none) {n : Nat}
    (ho : (s.source n).isOpen = true) {f : SourceCounters → SourceCounters} {a : Answer} {k : ErrorKind} {x : Option Nat}
    (hf : ∀ c, (f c).taken = c.taken ∧ (f c).merged = c.merged ∧ (f c).pending = c.pending ∧
      (f c).released = c.released) :
    (((s.countSource n f).report k x).placeAnswer a).CountersAgree :=
  h.kept (.placeAnswer (.report (s.countsKept_countSource n f (Source.declared_of_isOpen ho) hf)) hi)

/-- The part of `State.admitEvent` that the balance speaks of: the record counted as taken and in intake. -/
theorem State.CountersAgree.countTaken {s : State} (h : s.CountersAgree) (hi : s.feed.intake = none) {e : Intake}
    (ho : (s.source e.key.source).isOpen = true) (hp : (s.elementAt e.element).isSome = true) :
    ({ s.countSource e.key.source fun k => { k with taken := satSucc max32 k.taken } with
      feed := { s.feed with intake := some e } } : State).CountersAgree := by
  refine h.recount (n := e.key.source) (f := fun k => { k with taken := satSucc max32 k.taken }) rfl rfl rfl rfl
    (fun _ => Source.declared_of_isOpen ho) (fun hn => ?_) (fun _ _ => rfl) (fun m hm => ?_) (fun e' he' => ?_) h.entries
  · have hb := h.balanced hn
    rw [State.intakeOf_of_none hi] at hb
    rw [State.intakeOf_of_some rfl, if_pos rfl]
    exact hb.enterIntake
  · rw [State.intakeOf_of_some rfl, State.intakeOf_of_none hi, if_neg hm.symm]
  · cases he'
    exact hp

/-- An EVENT past step 7 stands in intake, counted as taken (R12). -/
theorem State.CountersAgree.admitEvent {s : State} (h : s.CountersAgree) (hi : s.feed.intake = none) {b : EventBody}
    {p : PointEntry} (ho : (s.source b.source.toNat).isOpen = true) (hp : (s.elementAt p.element).isSome = true)
    (position : Position) (c : SequenceClass) (ordinal : Nat) :
    (s.admitEvent b p position c ordinal).CountersAgree := by
  let r := (s.source b.source.toNat).promote b.raw.toNat
  let e := Sys2Proof.Machine.intakeOf s r b p position c ordinal
  have promoted : (s.source b.source.toNat).CountsKept r := Source.countsKept_promote _ _
  refine (h.countTaken hi (e := e) ho hp).kept ?_
  rw [State.admitEvent_eq, State.eventReports_frame]
  have written (m : Nat) : ((s.countSource b.source.toNat fun k => { k with taken := satSucc max32 k.taken }).source
      m).CountsKept ((s.setSource b.source.toNat (r.commitEvent b ordinal)).source m) := by
    rw [State.source_countSource, State.source_setSource]
    by_cases hm : m = b.source.toNat ∧ b.source.toNat < 32
    · rw [if_pos hm, if_pos hm, hm.1]
      exact ⟨fun hu => (by cases hu), congrArg (satSucc max32) promoted.taken, promoted.merged, promoted.pending,
        promoted.released⟩
    · rw [if_neg hm, if_neg hm]
      exact .refl _
  refine .settle ?_
  exact ⟨written, .refl _, rfl, fun _ => id, rfl, id⟩

/-- The intake of an EVENT past screening, step by step (R7): every end of it keeps the counters agreed. -/
theorem State.CountersAgree.takeEvent {s : State} (h : s.CountersAgree) (hi : s.feed.intake = none)
    (hs : s.inService = true) (b : EventBody) : (s.takeEvent b).CountersAgree := by
  unfold State.takeEvent
  dsimp only
  split
  · exact h.kept (.placeAnswer (.refl s) hi)
  · rename_i hc
    have ho := State.isOpen_of_sourceCheck hc
    split
    · exact h.kept (.placeAnswer (.refl s) hi)
    · rename_i ordinal _
      split
      · exact h.discountReported hi ho fun _ => ⟨rfl, rfl, rfl, rfl⟩
      · rename_i p hpoint
        have hp : (s.elementAt p.element).isSome = true := h.points hs p (List.mem_of_find?_eq_some hpoint)
        have admitted (c : SequenceClass) : (match s.admission b.source.toNat p.element with
            | some a =>
              (s.countSource b.source.toNat fun k => { k with deferred := satSucc max32 k.deferred }).placeAnswer a
            | none => s.admitEvent b p ((Position.ofReport b.position).getD .bad) c ordinal).CountersAgree := by
          split
          · exact h.discount hi ho fun _ => ⟨rfl, rfl, rfl, rfl⟩
          · exact h.admitEvent hi ho hp _ c ordinal
        split
        · exact h.discountReported hi ho fun _ => ⟨rfl, rfl, rfl, rfl⟩
        · exact admitted .inOrder
        · exact admitted (.gap _)

end Sys2Proof.Machine
end

section
/-! SUPPORT. The source counters (R12) over the start of an epoch and the console commands. -/

namespace Sys2Proof.Machine

/-! ## The start of an epoch (R150, R153) -/

theorem State.source_of_mapIdx {s t : State} (h : t.sources = s.sources.mapIdx fun _ (r : Source) => r.epochStart)
    (n : Nat) : t.source n = (s.source n).epochStart := by
  simp only [State.source, h, Vector.getElem?_mapIdx]
  cases s.sources[n]? <;> rfl

theorem State.elementAt_of_mapIdx {s t : State} {f : Element → Element}
    (h : t.elements = s.elements.mapIdx fun _ (e : Option Element) => e.map f) (n : Nat) :
    t.elementAt n = (s.elementAt n).map f := by
  simp only [State.elementAt, h, Vector.getElem?_mapIdx]
  rcases s.elements[n]? with _ | _ | e <;> rfl

/-- Every source starts an epoch with all counters 0 (R12). -/
theorem Source.epochStart_counters {r : Source} (h : r.state = .undeclared → r.counters = SourceCounters.zero) :
    r.epochStart.counters = SourceCounters.zero := by
  unfold Source.epochStart
  split
  · exact h ‹_›
  · rfl

/-- A new epoch: the counters start at 0 with the queue empty and no record in intake. -/
theorem State.CountersAgree.epoch {s t : State} (h : s.CountersAgree) {f : Element → Element}
    (hr : t.sources = s.sources.mapIdx fun _ (r : Source) => r.epochStart)
    (he : t.elements = s.elements.mapIdx fun _ (e : Option Element) => e.map f) (hq : t.pendingQueue = [])
    (hi : t.feed.intake = none) (hp : t.points = s.points)
    (present : ∀ p ∈ s.points, (s.elementAt p.element).isSome = true) : t.CountersAgree := by
  have zero (n : Nat) : (t.source n).counters = SourceCounters.zero := by
    rw [State.source_of_mapIdx hr]
    exact Source.epochStart_counters (h.undeclared n)
  refine State.countersAgree_of_balanced (fun n _ => zero n) (fun n _ => ?_) (fun _ p hm => ?_) (fun e hie => ?_)
    fun x hx => ?_
  · rw [zero, State.intakeOf_of_none hi, State.heldOf_eq_countP, hq]
    exact SourceCounters.balanced_zero
  · rw [State.elementAt_of_mapIdx he, Option.isSome_map]
    exact present p (hp ▸ hm)
  · rw [hi] at hie; cases hie
  · rw [hq] at hx; cases hx

theorem FeedPort.restarted_intake (p : FeedPort) : p.restarted.intake = none := by
  unfold FeedPort.restarted
  split
  · rfl
  · assumption

/-- A restart starts an epoch in service (R151 to R153). -/
theorem State.CountersAgree.restartAct {s : State} (h : s.CountersAgree) (hs : s.inService = true)
    (cause : RestartCause) (epoch : Nat) : (s.restartAct cause epoch).CountersAgree := by
  unfold State.restartAct
  refine State.CountersAgree.kept ?_ (.settle (.refl _))
  exact h.epoch (f := Element.epochStart) rfl rfl rfl (FeedPort.restarted_intake _) rfl (h.points hs)

/-- Check 2 of COMMIT: every point's element is present (R149). -/
theorem State.present_of_checkCommit {s : State} (h : s.checkCommit = none) :
    ∀ p ∈ s.points, (s.elementAt p.element).isSome = true := by
  have all : s.points.all s.pointCommits = true := by
    unfold State.checkCommit at h
    by_contra hn
    split at h
    · cases h
    · rw [if_pos (by simpa using hn)] at h
      cases h
  intro p hp
  have hp := List.all_eq_true.1 all p hp
  unfold State.pointCommits at hp
  split at hp
  · rename_i he; rw [he]; rfl
  · cases hp

theorem State.CountersAgree.commitAct {s : State} (h : s.CountersAgree) (hc : s.checkCommit = none) :
    s.commitAct.CountersAgree := by
  unfold State.commitAct
  refine State.CountersAgree.kept ?_ (.settle (.refl _))
  exact h.epoch (f := fun x => { x.epochStart with watch := .none }) rfl rfl rfl rfl rfl
    (State.present_of_checkCommit hc)

/-! ## Commands (R135) -/

theorem State.accepted_of_commandTest {s : State} {c : Command} (h : s.commandTest c = none) :
    commandAccepted s.station.state c = true := by
  rw [State.commandTest_spec] at h
  by_contra hn
  split at h
  · cases h
  · rw [if_pos (Bool.eq_false_iff.2 hn)] at h
    cases h

/-- START and RESTART are accepted in service alone (R136). -/
theorem State.inService_of_start {s : State} {n : Byte} (h : s.commandTest (.start n) = none) : s.inService = true := by
  have := State.accepted_of_commandTest h
  simp only [commandAccepted, beq_iff_eq] at this
  simp only [State.inService, this]

theorem State.inService_of_restart {s : State} {n b : Byte} (h : s.commandTest (.restart n b) = none) :
    s.inService = true := by
  have := State.accepted_of_commandTest h
  simp only [commandAccepted, Bool.or_eq_true, beq_iff_eq] at this
  rcases this with (h | h) | h <;> simp only [State.inService, h]

theorem State.countsKept_watchAct (s : State) (n : Nat) (m : WatchMark) : s.CountsKept (s.watchAct n m) := by
  unfold State.watchAct
  split
  · exact .setElement (.refl s)
  · exact .refl s

theorem State.CountersAgree.commandEffect {s : State} (h : s.CountersAgree) {c : Command}
    (hc : s.commandTest c = none) : (s.commandEffect c).CountersAgree := by
  cases c with
  | start n =>
    refine h.kept ?_
    refine .settle ?_
    exact State.countsKept_of_eq rfl rfl rfl rfl rfl fun _ => State.inService_of_start hc
  | hold _ => exact h.kept (State.countsKept_of_accounts rfl)
  | resume _ => exact h.kept (State.countsKept_of_accounts rfl)
  | step _ => exact h.kept (State.countsKept_of_accounts rfl)
  | setRate _ _ => exact h.kept (State.countsKept_of_accounts rfl)
  | holdAt _ _ => exact h.kept (State.countsKept_of_accounts rfl)
  | skipOn _ => exact h.kept (State.countsKept_of_accounts rfl)
  | skipOff _ => exact h.kept (State.countsKept_of_accounts rfl)
  | watchSet _ _ _ => exact h.kept (s.countsKept_watchAct _ _)
  | watchClear _ _ => exact h.kept (s.countsKept_watchAct _ _)
  | excludePeer _ _ =>
    refine h.kept ?_
    exact .settleComplete (.same (.refl s) rfl)
  | includePeer _ _ =>
    refine h.kept ?_
    exact .settle (.same (.refl s) rfl)
  | snapshot _ => exact h.kept (State.countsKept_of_accounts rfl)
  | status _ => exact h
  | skew _ => exact h.kept (State.countsKept_of_accounts rfl)
  | restart _ _ => exact h.restartAct (State.inService_of_restart hc) _ _
  | clearFlags _ _ => exact h.kept (State.countsKept_of_accounts rfl)
  | mask _ _ => exact h.kept (State.countsKept_of_accounts rfl)
  | malformed _ => exact h

theorem State.CountersAgree.decideCommand {s : State} (h : s.CountersAgree) (c : Command) :
    (s.decideCommand c).CountersAgree := by
  unfold State.decideCommand
  have idle : ({ s with console := { s.console with inFlight := none } } : State).CountersAgree :=
    h.kept (State.countsKept_of_accounts rfl)
  dsimp only
  split
  · exact idle.kept (State.countsKept_of_accounts rfl)
  · exact (idle.commandEffect ‹_›).kept (State.countsKept_of_accounts rfl)

theorem State.CountersAgree.decideWaiting {s : State} (h : s.CountersAgree) : s.decideWaiting.CountersAgree := by
  unfold State.decideWaiting
  split
  · split
    · exact h.decideCommand _
    · exact h
  · exact h

theorem State.CountersAgree.submit {s : State} (h : s.CountersAgree) (c : Command) : (s.submit c).CountersAgree := by
  unfold State.submit
  split
  · refine State.CountersAgree.decideWaiting ?_
    exact h.kept (State.countsKept_of_accounts rfl)
  · exact h

theorem State.CountersAgree.commandWriteStart {s : State} (h : s.CountersAgree) :
    s.commandWriteStart.CountersAgree := by
  unfold State.commandWriteStart
  split
  · exact h.kept (.report (.refl s))
  · exact h.kept (State.countsKept_of_accounts rfl)

theorem State.CountersAgree.takeCommit {s : State} (h : s.CountersAgree) (hi : s.feed.intake = none) :
    s.takeCommit.CountersAgree := by
  unfold State.takeCommit
  split
  · exact h.kept (.placeAnswer (.refl s) hi)
  · exact (h.commitAct ‹_›).decideWaiting

theorem State.CountersAgree.powerOnAct {s : State} (straps : BitVec 4) : (s.powerOnAct straps).CountersAgree := by
  have source (n : Nat) : (s.powerOnAct straps).source n = Source.powerOn := by
    simp only [State.source, State.powerOnAct, State.powerOn, Vector.getElem?_replicate]
    split <;> rfl
  refine State.countersAgree_of_balanced (fun n _ => by rw [source]; rfl) (fun n _ => ?_) (fun _ p hp => by cases hp)
    (fun e he => by cases he) fun x hx => by cases hx
  rw [source]
  exact SourceCounters.balanced_zero

end Sys2Proof.Machine
end

section
/-! SUPPORT. The source counters (R12) over delivery, link, peer table and release. -/

namespace Sys2Proof.Machine

/-! ## Link (file 04) -/

theorem State.countsKept_failFrame (s : State) (retry : TxState) : s.CountsKept (s.failFrame retry) := by
  unfold State.failFrame
  dsimp only
  split
  · exact .reformLink (.report (.same (.refl s) rfl))
  · exact .same (.refl s) rfl

theorem State.countsKept_collide (s : State) (bit : Nat) : s.CountsKept (s.collide bit) := by
  unfold State.collide
  split
  · split
    · exact s.countsKept_failFrame _
    · exact .refl s
  all_goals exact .refl s

theorem State.countsKept_transmitError (s : State) (bit : Nat) : s.CountsKept (s.transmitError bit) := by
  unfold State.transmitError
  split
  · split
    · exact s.countsKept_failFrame _
    · exact .refl s
  all_goals exact .refl s

theorem State.countsKept_countBackoff (s : State) (quietBits : Nat) : s.CountsKept (s.countBackoff quietBits) := by
  unfold State.countBackoff
  split
  · exact .same (.refl s) rfl
  all_goals exact .refl s

theorem State.countsKept_expireMute (s : State) : s.CountsKept s.expireMute := by
  unfold State.expireMute
  split
  · split
    · exact .same (.refl s) rfl
    · exact .refl s
  all_goals exact .refl s

/-- ANNOUNCED is set on entries whose sources and elements stay (R78). -/
theorem State.countsKept_frameSent (s : State) : s.CountsKept s.frameSent := by
  unfold State.frameSent
  split
  · refine .settleComplete ?_
    refine ⟨fun _ => .refl _, ?_, rfl, fun _ => id, rfl, id⟩
    simp only [announceEntries, List.map_map]
    refine .of_eq (List.map_congr_left fun y _ => ?_)
    simp only [Function.comp_apply]
    split <;> rfl
  all_goals exact .refl s

theorem State.countsKept_heartbeatAct (s : State) : s.CountsKept s.heartbeatAct := by
  unfold State.heartbeatAct
  split
  · exact .same (.refl s) rfl
  · exact .refl s

theorem State.countsKept_buildFrame (s : State) (quietBits : Nat) : s.CountsKept (s.buildFrame quietBits) := by
  unfold State.buildFrame
  split
  · exact .same (.refl s) rfl
  · exact .refl s

theorem State.countsKept_rejectSync (s : State) (p : Preamble) (delimiter : Byte) :
    s.CountsKept (s.rejectSync p delimiter) := by
  unfold State.rejectSync
  split
  · exact .report (.same (.refl s) rfl)
  · exact .refl s

theorem State.countsKept_openFrame (s : State) (p : Preamble) (delimiter : Byte) :
    s.CountsKept (s.openFrame p delimiter) := by
  unfold State.openFrame
  split
  · exact .same (.refl s) rfl
  · exact .refl s

theorem State.countsKept_discardFrame (s : State) (phase : RxPhase) : s.CountsKept (s.discardFrame phase) :=
  .report (.same (.refl s) rfl)

theorem State.countsKept_duplicateStation (s : State) : s.CountsKept s.duplicateStation :=
  .reformLink (.report (.same (.refl s) rfl))

theorem State.countsKept_placeFrame (s : State) (f : Frame) : s.CountsKept (s.placeFrame f) := by
  unfold State.placeFrame
  split
  · exact .same (.refl s) rfl
  · split
    · exact .same (.refl s) rfl
    · exact .report (.same (.refl s) rfl)

theorem State.countsKept_receiveFrame (s : State) (bits : Bits) (own : Bool) :
    s.CountsKept (s.receiveFrame bits own) := by
  unfold State.receiveFrame
  split
  · split
    · exact s.countsKept_discardFrame _
    · exact s.countsKept_discardFrame _
    · rename_i f _
      have searching : s.CountsKept { s with rx := { s.rx with phase := .searching } } := .same (.refl s) rfl
      dsimp only
      split
      · exact searching
      · split
        · exact searching.trans (State.countsKept_duplicateStation _)
        · exact searching.trans (State.countsKept_placeFrame _ f)
  all_goals exact .refl s

/-! ## Peer table (file 05) -/

section
variable {s t : State}

theorem State.CountsKept.updatePeer {n : Nat} {f : Peer → Peer} (k : s.CountsKept t) :
    s.CountsKept (t.updatePeer n f) :=
  k.same rfl

theorem State.CountsKept.countChange {n : Nat} (k : s.CountsKept t) : s.CountsKept (t.countChange n) := .updatePeer k

theorem State.CountsKept.endProcessing (k : s.CountsKept t) : s.CountsKept t.endProcessing := k.same rfl

theorem State.CountsKept.chargePeer {n : Nat} {e : ErrorKind} {x : Nat} (k : s.CountsKept t) :
    s.CountsKept (t.chargePeer n e x) :=
  .updatePeer (.report k)

end

theorem State.countsKept_takeHorizon (s : State) (f : Frame) : s.CountsKept (s.takeHorizon f) := by
  unfold State.takeHorizon
  split
  · exact .same (.refl s) rfl
  · exact .chargePeer (.refl s)

theorem State.countsKept_finishFrame (s : State) (f : Frame) (tracked : Bool) :
    s.CountsKept (s.finishFrame f tracked) :=
  .endProcessing (.updatePeer (s.countsKept_takeHorizon f))

theorem State.countsKept_refuseChanges (p : Nat) (cs : List ChangeEntry) (s : State) :
    s.CountsKept (State.refuseChanges p cs s) := by
  induction cs generalizing s with
  | nil => exact .refl s
  | cons c cs ih => exact .trans (.chargePeer (.refl s)) (ih _)

/-- The state that one change entry leaves, however the processing goes on. -/
def ChangeStep.state : ChangeStep → State
  | .goesOn s => s
  | .waits s _ => s
  | .overflowed s => s

theorem State.countsKept_takeRouted (s : State) (f : Frame) (c : ChangeEntry) (n : Nat) :
    s.CountsKept (s.takeRouted f c n).state := by
  unfold State.takeRouted
  dsimp only
  split
  · exact .refl s
  · split
    · show s.CountsKept (State.countChange _ _)
      exact .countChange (.chargePeer (.refl s))
    · split
      · exact .refl s
      · split
        · exact .chargePeer (.same (.refl s) rfl)
        · show s.CountsKept (State.countChange _ _)
          exact .countChange (.same (.refl s) rfl)

theorem State.countsKept_discardRouted (s : State) (p : Nat) (c : ChangeEntry) :
    s.CountsKept (s.discardRouted p c) := by
  unfold State.discardRouted
  split
  · exact .refl s
  · exact .same (.refl s) rfl

theorem State.countsKept_takeChange (s : State) (f : Frame) (tracked : Bool) (c : ChangeEntry) :
    s.CountsKept (s.takeChange f tracked c).state := by
  unfold State.takeChange
  split
  · exact .refl s
  · split
    · exact .refl s
    · exact .chargePeer (.refl s)
    · split
      · exact .chargePeer (.refl s)
      · split
        · exact s.countsKept_discardRouted f.sender c
        · exact s.countsKept_takeRouted f c _

theorem State.countsKept_takeChanges (f : Frame) (tracked : Bool) (n : Nat) (cs : List ChangeEntry) (s : State) :
    s.CountsKept (State.takeChanges f tracked n cs s) := by
  induction n, cs, s using State.takeChanges.induct (f := f) (tracked := tracked) with
  | case1 n s =>
    simp only [State.takeChanges]
    exact s.countsKept_finishFrame f tracked
  | case2 c cs s =>
    exact .same (.refl s) rfl
  | case3 n c cs s t ht ih =>
    have step := s.countsKept_takeChange f tracked c
    rw [ht] at step
    simp only [State.takeChanges, ht]
    exact step.trans ih
  | case4 n c cs s t r ht =>
    have step := s.countsKept_takeChange f tracked c
    rw [ht] at step
    simp only [State.takeChanges, ht]
    exact .same step rfl
  | case5 n c cs s t ht =>
    have step := s.countsKept_takeChange f tracked c
    rw [ht] at step
    simp only [State.takeChanges, ht]
    exact .same step rfl

theorem State.countsKept_acceptFrame (s : State) (f : Frame) (entries : Nat) :
    s.CountsKept (s.acceptFrame f entries) := by
  have gapped (u : Peer → Peer) : s.CountsKept
      (((s.updatePeer f.sender u).chargePeer f.sender .frameGap f.sender).endProcessing) :=
    .endProcessing (.chargePeer (.updatePeer (.refl s)))
  have taken (tracked : Bool) (u : Peer → Peer) : s.CountsKept
      (State.takeChanges f tracked entries f.changes (s.updatePeer f.sender u)) :=
    .trans (.updatePeer (.refl s)) (State.countsKept_takeChanges f tracked entries f.changes _)
  have written (u : Peer → Peer) : s.CountsKept (s.updatePeer f.sender u) := .updatePeer (.refl s)
  unfold State.acceptFrame
  dsimp only
  split
  · exact .endProcessing (written _)
  iterate 4
    split
    · exact gapped _
    · exact taken false _
  · exact .endProcessing (written _)
  · exact taken true _
  · split
    · exact .endProcessing ((written _).trans (State.countsKept_refuseChanges _ _ _))
    · exact .endProcessing (written _)

theorem State.CountersAgree.beginFrame {s : State} (h : s.CountersAgree) (hs : s.inService = true) (f : Frame)
    (entries : Nat) : (s.beginFrame f entries).CountersAgree := by
  have counted : s.CountsKept (s.countFrame f.sender) := .updatePeer (.refl s)
  unfold State.beginFrame
  dsimp only
  split
  · exact (h.kept (.settleComplete (counted.trans (State.countsKept_acceptFrame _ f entries)))).decideWaiting
  · split
    · exact ((h.kept counted).restartAct hs _ _).decideWaiting
    · exact (h.kept (.settleComplete (.endProcessing (.updatePeer counted)))).decideWaiting

theorem State.CountersAgree.processFrame {s : State} (h : s.CountersAgree) (entries : Nat) :
    (s.processFrame entries).CountersAgree := by
  unfold State.processFrame
  split
  · split
    · exact (h.kept (.settleComplete (State.countsKept_takeChanges _ _ _ _ s))).decideWaiting
    · exact h
  · split
    · exact h
    · split
      · exact h.beginFrame ‹_› _ entries
      · exact h

theorem State.countsKept_silencePeer (s : State) (n : Nat) : s.CountsKept (s.silencePeer n) := by
  unfold State.silencePeer
  split
  · split
    · exact .same (.refl s) rfl
    · exact .refl s
  · exact .refl s

/-! ## Delivery (R133) -/

theorem State.CountersAgree.beginRecord {s : State} (h : s.CountersAgree) : s.beginRecord.CountersAgree := by
  unfold State.beginRecord
  split
  · exact h
  · split
    · refine State.CountersAgree.decideWaiting ?_
      exact h.kept (State.countsKept_of_accounts rfl)
    · exact h

theorem State.countsKept_queueHoldState (s : State) : s.CountsKept s.queueHoldState := by
  unfold State.queueHoldState
  split
  · exact .same (.refl s) rfl
  · exact .refl s

theorem State.countsKept_queueComplete (s : State) : s.CountsKept s.queueComplete := by
  unfold State.queueComplete
  split
  · exact .same (.refl s) rfl
  · exact .refl s

theorem State.countsKept_emitSkew (s : State) : s.CountsKept s.emitSkew := by
  unfold State.emitSkew
  split
  · exact .refl s
  · split
    · exact .refl s
    · split
      · exact .same (.refl s) rfl
      · exact .refl s

/-! ## Islands (file 08) and SNAPSHOT (R122) -/

theorem State.countsKept_computeRelabel (s : State) : s.CountsKept s.computeRelabel := by
  unfold State.computeRelabel
  split
  · exact .refl s
  · split
    · exact .refl s
    · dsimp only
      split
      · exact .settleComplete (.endRelabel (.same (.refl s) rfl))
      · exact .same (.refl s) rfl

theorem State.countsKept_emitIslands (s : State) : s.CountsKept s.emitIslands := by
  unfold State.emitIslands
  split
  · exact .refl s
  · split
    · exact .refl s
    · split
      · exact .settleComplete (.endRelabel (.enqueue (.refl s)))
      · exact .refl s

theorem State.countsKept_beginEmission (s : State) : s.CountsKept s.beginEmission := by
  unfold State.beginEmission
  split
  · exact .same (.refl s) rfl
  · exact .refl s

theorem State.countsKept_emitElement (s : State) : s.CountsKept s.emitElement := by
  unfold State.emitElement
  split
  · exact .refl s
  · exact .refl s
  · split
    · exact .refl s
    · split
      · exact .same (.refl s) rfl
      · exact .refl s

theorem State.countsKept_emitLabels (s : State) : s.CountsKept s.emitLabels := by
  unfold State.emitLabels
  split
  · exact .refl s
  · exact .refl s
  · split
    · exact .same (.refl s) rfl
    · exact .refl s

/-! ## The clock (R95) -/

theorem State.countsKept_jumpTo (s : State) (target : Nat) : s.CountsKept (s.jumpTo target) := by
  unfold State.jumpTo
  dsimp only
  split
  · split
    · exact .same (.refl s) rfl
    · exact .same (.refl s) rfl
  · exact .same (.refl s) rfl

theorem State.countsKept_advanceClock (s : State) : s.CountsKept s.advanceClock := by
  unfold State.advanceClock
  split
  · exact .refl s
  · split
    · split
      · exact .same (.refl s) rfl
      · exact .same (.refl s) rfl
    · exact .same (.refl s) rfl

theorem State.countsKept_skipTest (s : State) : s.CountsKept s.skipTest := by
  unfold State.skipTest
  split
  · split
    · exact s.countsKept_jumpTo _
    · exact .refl s
  · exact .refl s

theorem State.countsKept_clockAct (s : State) : s.CountsKept s.clockAct := by
  unfold State.clockAct
  split
  · exact s.countsKept_advanceClock.trans (State.countsKept_skipTest _)
  · exact .refl s

theorem State.countsKept_tick (s : State) : s.CountsKept s.tick := by
  have counted : s.CountsKept s.countTime := .same (.refl s) rfl
  refine (counted.trans (State.countsKept_clockAct _)).same ?_
  simp [State.accounts, State.tick]

theorem State.countsKept_stallAct (s : State) : s.CountsKept s.stallAct := by
  unfold State.stallAct
  split
  · split
    · exact .same (.refl s) rfl
    · exact .refl s
  · exact .refl s

end Sys2Proof.Machine
end

section
/-! SUPPORT. The source counters (R12) over the release engine, and over every step. -/

namespace Sys2Proof.Machine

/-! ## Release (R110 to R121) -/

/-- The least head that is an own event stands first in the Pending Queue (R109). -/
theorem State.head_of_leastHead_own {s : State} {x : PendingEntry} (h : s.leastHead = some (.own x)) :
    s.pendingQueue = x :: s.pendingQueue.tail := by
  rcases (lesserHead_spec h).1 with hq | hrest
  · cases hp : s.pendingQueue with
    | nil => rw [hp] at hq; cases hq
    | cons y ys => rw [hp] at hq; cases hq; rfl
  · rcases (lesserHead_spec hrest).1 with hr | ht
    · obtain ⟨y, -, hy⟩ := Option.map_eq_some_iff.1 hr
      cases hy
    · obtain ⟨y, -, hy⟩ := Option.map_eq_some_iff.1 ht
      cases hy

theorem State.countsKept_handleTravel (s : State) (n : Nat) (e : Element) (prev : Position) (t : Nat) :
    s.CountsKept (s.handleTravel n e prev t).1 := by
  unfold State.handleTravel
  split
  · exact .refl s
  · split
    · split
      · exact .setTimer (.setElement (.refl s))
      · exact .refl s
    · split
      · split
        · exact .cancelTimer (.setElement (.refl s))
        · exact .setElement (.refl s)
      · split
        · exact .cancelTimer (.setElement (.refl s))
        · exact .refl s

theorem State.countsKept_handleChatter (s : State) (n : Nat) (e : Element) (t : Nat) :
    s.CountsKept (s.handleChatter n e t).1 := by
  have counted (x : Element) : s.CountsKept
      (if x.windowCount = s.settings.chatterN then
        ((s.setElement n { x with chatter := .chattering }).setTimer quietSource n
          (t + s.settings.chatterQ * 1000), true, false)
      else (s.setElement n x, false, false)).1 := by
    split
    · exact .setTimer (.setElement (.refl s))
    · exact .setElement (.refl s)
  unfold State.handleChatter
  split
  · exact .setTimer (.setElement (.refl s))
  · split
    · exact .refl s
    · exact counted _

theorem State.countsKept_finishRecords (s : State) (r : ReleaseInFlight) : s.CountsKept (s.finishRecords r) :=
  .same (.refl s) rfl

theorem State.countsKept_afterRecord (s : State) (r : ReleaseInFlight) : s.CountsKept (s.afterRecord r) := by
  unfold State.afterRecord
  split
  · exact s.countsKept_finishRecords r
  · exact .same (.refl s) rfl

theorem State.countsKept_enterFlight (s : State) (i : Item) (record : Option RecordBody) (relabels : Bool) :
    s.CountsKept (s.enterFlight i record relabels) := by
  have started : s.CountsKept (if relabels = true then s.startRelabel (.item i.key) else s) := by
    split
    · exact .startRelabel (.refl s)
    · exact .refl s
  unfold State.enterFlight
  dsimp only
  split
  · exact .same started rfl
  · exact started.trans (State.countsKept_afterRecord _ _)

/-- After its count an own event's release keeps the counts: steps 1 to 5 on the element (R112). -/
theorem State.countsKept_applyOwn (s : State) (x : PendingEntry) (e : Element) :
    ((s.setElement x.element
        { e with current := x.position, lastRelease := some ⟨x.key.time, x.key.source, x.position⟩ }).countSource
      x.key.source fun k => { k with released := satSucc max32 k.released, pending := k.pending - 1 }).CountsKept
      (s.applyOwn x e).state := by
  unfold State.applyOwn
  dsimp only
  split
  · exact .refl _
  · exact (State.countsKept_handleTravel _ _ _ _ _).trans (State.countsKept_handleChatter _ _ _ _)

/-- The own event `x`, just removed from the queue, is released and counted (R112). -/
theorem State.CountersAgree.releaseOwn {u : State} {x : PendingEntry}
    (h : ({ u with pendingQueue := x :: u.pendingQueue } : State).CountersAgree) : (u.releaseOwn x).CountersAgree := by
  have present : (u.elementAt x.element).isSome = true := h.entries x List.mem_cons_self
  unfold State.releaseOwn
  split
  · rename_i he
    rw [he] at present
    cases present
  · rename_i e _
    have written : ({ u.setElement x.element { e with
          current := x.position, lastRelease := some ⟨x.key.time, x.key.source, x.position⟩ } with
        pendingQueue := x :: u.pendingQueue } : State).CountersAgree := h.kept (.setElement (.refl _))
    have counted := State.CountersAgree.leave (u := u.setElement x.element _) written
      fun c held waiting => SourceCounters.Balanced.release
    exact counted.kept ((u.countsKept_applyOwn x e).trans (State.countsKept_enterFlight _ _ _ _))

theorem State.countsKept_releaseRemote (s : State) (r : RemoteEntry) : s.CountsKept (s.releaseRemote r) := by
  unfold State.releaseRemote
  split
  · exact .refl s
  · exact .trans (.setElement (.refl s)) (State.countsKept_enterFlight _ _ _ _)

theorem State.countsKept_releaseTimer (s : State) (k : Key) : s.CountsKept (s.releaseItem (.timer k)) := by
  unfold State.releaseItem
  dsimp only
  split
  · unfold State.releaseTravel
    split
    · exact .refl s
    · exact .trans (.setElement (.refl s)) (State.countsKept_enterFlight _ _ _ _)
  · unfold State.releaseQuiet
    split
    · exact .refl s
    · exact .trans (.setElement (.refl s)) (State.countsKept_enterFlight _ _ _ _)

theorem State.countsKept_completeStep (s : State) (t : Nat) : s.CountsKept (s.completeStep t) := by
  rw [State.completeStep_eq, State.steppedTo_frame]
  exact .same (.refl s) rfl

theorem State.CountersAgree.releaseAct {s : State} (h : s.CountersAgree) : s.releaseAct.CountersAgree := by
  unfold State.releaseAct
  split
  · exact h
  · rename_i i hi
    split
    · refine State.CountersAgree.kept ?_ (.settleComplete (.refl _))
      cases i with
      | own x =>
        have queue := State.head_of_leastHead_own hi
        refine State.CountersAgree.releaseOwn (h.kept ?_)
        rw [State.completeStep_eq, State.steppedTo_frame]
        exact State.countsKept_of_eq rfl queue.symm rfl rfl rfl id
      | remote r =>
        refine h.kept (.trans ?_ (State.countsKept_releaseRemote _ r))
        refine .trans ?_ (State.countsKept_completeStep _ _)
        exact .same (.refl s) rfl
      | timer k =>
        refine h.kept (.trans ?_ (State.countsKept_releaseTimer _ k))
        refine .trans ?_ (State.countsKept_completeStep _ _)
        exact .same (.refl s) rfl
    · exact h

theorem State.countsKept_queueReleaseRecord (s : State) : s.CountsKept s.queueReleaseRecord := by
  unfold State.queueReleaseRecord
  split
  · exact .refl s
  · split
    · split
      · exact .settleComplete (.trans (.enqueue (.refl s)) (State.countsKept_afterRecord _ _))
      · refine .settleComplete (.trans ?_ (State.countsKept_finishRecords _ _))
        exact .same (.refl s) rfl
      · exact .refl s
    · exact .refl s

theorem State.countsKept_lateApply (s : State) : s.CountsKept s.lateApply := by
  unfold State.lateApply
  split
  · exact .refl s
  · rename_i r _
    split
    · have taken : s.CountsKept s.takeHandOver := .same (.refl s) rfl
      split
      · exact taken
      · rename_i e _
        have written : s.CountsKept (s.takeHandOver.writeRemote r e) := .setElement taken
        dsimp only
        split
        · exact .settleComplete (.startRelabel (.same written rfl))
        · exact .settleComplete (.enqueue written)
    · exact .refl s

/-! ## Every step -/

theorem State.CountersAgree.feedWriteStart {s : State} (h : s.CountersAgree) : s.feedWriteStart.CountersAgree := by
  unfold State.feedWriteStart
  split
  · exact h.kept (State.countsKept_of_accounts rfl)
  · exact h.kept (.report (.refl s))

/-- What `screen` passed was accepted in the station's state (R5). -/
theorem accepted_of_screen {form accepted inRange : Bool} (h : screen form accepted inRange = none) :
    accepted = true :=
  (screen_eq_none.1 h).2.1

/-- Every command keeps the counters agreed. -/
theorem State.CountersAgree.exec {s t : State} (h : s.CountersAgree) (hs : KeySorted PendingEntry.key s.pendingQueue)
    {i : Instr} (he : Machine.exec i s = .next t) : t.CountersAgree := by
  have next {u : State} (hu : Machine.exec i s = .next u) (agree : u.CountersAgree) : t.CountersAgree := by
    rw [hu] at he
    cases he
    exact agree
  have kept {u : State} (hu : Machine.exec i s = .next u) (k : s.CountsKept u) : t.CountersAgree := next hu (h.kept k)
  cases i with
  | powerOnReset straps => exact next rfl (.powerOnAct straps)
  | feedWriteStart => exact next rfl h.feedWriteStart
  | stationSettings f b => exact next rfl (h.receiveRecord kindSettings fun hi _ => h.takeSettings hi b)
  | declareSource f b => exact next rfl (h.receiveRecord kindDeclare fun hi _ => h.takeDeclare hi b)
  | element f b => exact next rfl (h.receiveRecord kindElement fun hi _ => h.takeElement hi b)
  | point f b =>
    exact next rfl (h.receiveRecord kindPoint fun hi hv =>
      h.takePoint hi (State.not_inService_of_acceptsDescription (accepted_of_screen hv)) b)
  | commit f => exact next rfl (h.receiveRecord kindCommit fun hi _ => h.takeCommit hi)
  | segment f b => exact next rfl (h.receiveRecord kindSegment fun hi _ => h.takeSegment hi b)
  | event f b =>
    exact next rfl (h.receiveRecord kindEvent fun hi hv =>
      h.takeEvent hi (State.inService_of_acceptsReplay (accepted_of_screen hv)) b)
  | progress f b => exact next rfl (h.receiveRecord kindProgress fun hi _ => h.takeProgress hi b)
  | endSource f n => exact next rfl (h.receiveRecord kindEndSource fun hi _ => h.takeEndSource hi n)
  | malformedFeedRecord kind n => exact next rfl (h.receiveRecord kind fun hi _ => h.takeMalformed hi kind n)
  | mergeAct => exact next rfl (h.mergeAct hs)
  | commandWriteStart => exact next rfl h.commandWriteStart
  | start n => exact next rfl (h.submit _)
  | hold n => exact next rfl (h.submit _)
  | resume n => exact next rfl (h.submit _)
  | step n => exact next rfl (h.submit _)
  | setRate n r => exact next rfl (h.submit _)
  | holdAt n w => exact next rfl (h.submit _)
  | skipOn n => exact next rfl (h.submit _)
  | skipOff n => exact next rfl (h.submit _)
  | watchSet n e k => exact next rfl (h.submit _)
  | watchClear n e => exact next rfl (h.submit _)
  | excludePeer n p => exact next rfl (h.submit _)
  | includePeer n p => exact next rfl (h.submit _)
  | snapshot n => exact next rfl (h.submit _)
  | status n => exact next rfl (h.submit _)
  | skew n => exact next rfl (h.submit _)
  | restart n b => exact next rfl (h.submit _)
  | clearFlags n f => exact next rfl (h.submit _)
  | mask n m => exact next rfl (h.submit _)
  | malformedCommand k => exact next rfl (h.submit _)
  | consoleReadyAssert => exact kept rfl (.same (.refl s) rfl)
  | consoleReadyWithdraw => exact kept rfl (.same (.refl s) rfl)
  | deliveryRecordBegin => exact next rfl h.beginRecord
  | deliveryRecordEnd => exact kept rfl (.same (.refl s) rfl)
  | heartbeat => exact kept rfl s.countsKept_heartbeatAct
  | frameBuild q => exact kept rfl (s.countsKept_buildFrame q)
  | collision bit => exact kept rfl (s.countsKept_collide bit)
  | transmitError bit => exact kept rfl (s.countsKept_transmitError bit)
  | frameSentWhole => exact kept rfl s.countsKept_frameSent
  | backoffDone q => exact kept rfl (s.countsKept_countBackoff q)
  | muteExpiry => exact kept rfl s.countsKept_expireMute
  | syncReject p d => exact kept rfl (s.countsKept_rejectSync p d)
  | frameOpened p d => exact kept rfl (s.countsKept_openFrame p d)
  | frameReceive bits own => exact kept rfl (s.countsKept_receiveFrame bits own)
  | frameProcessing n => exact next rfl (h.processFrame n)
  | peerSilenceTimeout p => exact kept rfl (s.countsKept_silencePeer p.toNat)
  | release => exact next rfl h.releaseAct
  | releaseRecordQueue => exact kept rfl s.countsKept_queueReleaseRecord
  | lateApply => exact kept rfl s.countsKept_lateApply
  | relabelComputed => exact kept rfl s.countsKept_computeRelabel
  | islandsEmit => exact kept rfl s.countsKept_emitIslands
  | snapshotEmitting => exact kept rfl s.countsKept_beginEmission
  | elementState => exact kept rfl s.countsKept_emitElement
  | nodeLabels => exact kept rfl s.countsKept_emitLabels
  | skewRecord => exact kept rfl s.countsKept_emitSkew
  | holdState => exact kept rfl s.countsKept_queueHoldState
  | completeRecord => exact kept rfl s.countsKept_queueComplete
  | clockAdvance => exact kept rfl s.countsKept_tick
  | stallTimeout => exact kept rfl s.countsKept_stallAct

/-- Settles O13: each act that moves an entry or the record in intake moves the counters of its source with it, and
everything else keeps them. -/
theorem countersStayAgreed : Obligations.CountersStayAgreed := by
  intro s t h hs _ hstep
  rcases step_next hstep with ⟨-, rfl⟩ | ⟨i, rest, -, hi⟩
  · exact h
  · have popped : ({ s with pending := rest } : State).CountersAgree := h.kept (.same (.refl s) rfl)
    exact popped.exec hs.pendingQueue hi

end Sys2Proof.Machine
end

section
/-! SUPPORT. The form, state and range tests of the feed records (R5, R155), each as what it says of the record, and the
answers of a record refused. -/

namespace Sys2Proof.Machine

/-! ## The rows -/

theorem exec_stationSettings (f : RecordForm) (b : SettingsBody) (s : State) :
    exec (.stationSettings f b) s =
      .next (s.receiveRecord kindSettings (s.screenSettings f b) fun s => s.takeSettings b) := rfl

theorem exec_declareSource (f : RecordForm) (b : DeclareBody) (s : State) :
    exec (.declareSource f b) s =
      .next (s.receiveRecord kindDeclare (s.screenDeclare f b) fun s => s.takeDeclare b) := rfl

theorem exec_element (f : RecordForm) (b : ElementBody) (s : State) :
    exec (.element f b) s = .next (s.receiveRecord kindElement (s.screenElement f b) fun s => s.takeElement b) := rfl

theorem exec_point (f : RecordForm) (b : PointBody) (s : State) :
    exec (.point f b) s = .next (s.receiveRecord kindPoint (s.screenPoint f b) fun s => s.takePoint b) := rfl

theorem exec_segment (f : RecordForm) (b : SegmentBody) (s : State) :
    exec (.segment f b) s = .next (s.receiveRecord kindSegment
      (screen (formHolds kindSegment f) s.acceptsReplay
        (decide (b.source.toNat ≤ 31) && (segmentOf b.segment).inRange)) fun s => s.takeSegment b) := rfl

theorem exec_event (f : RecordForm) (b : EventBody) (s : State) :
    exec (.event f b) s = .next (s.receiveRecord kindEvent (s.screenEvent f b) fun s => s.takeEvent b) := rfl

theorem exec_progress (f : RecordForm) (b : ProgressBody) (s : State) :
    exec (.progress f b) s = .next (s.receiveRecord kindProgress
      (screen (formHolds kindProgress f) s.acceptsReplay (decide (b.source.toNat ≤ 31))) fun s => s.takeProgress b) :=
  rfl

theorem exec_endSource (f : RecordForm) (n : Byte) (s : State) :
    exec (.endSource f n) s = .next (s.receiveRecord kindEndSource
      (screen (formHolds kindEndSource f) s.acceptsEndSource (decide (n.toNat ≤ 31))) fun s => s.takeEndSource n) := rfl

/-! ## The tests -/

/-- The form test of a record kind (R155): the length byte is `len`, and 2 plus that many bytes came. -/
theorem formHolds_iff {kind : Byte} {n : Nat} (h : feedLength kind = some n) (len : Byte) (hl : len.toNat = n)
    (f : RecordForm) : formHolds kind f = true ↔ f.lengthByte = len ∧ f.received = 2 + n := by
  simp only [formHolds, h, Bool.and_eq_true, beq_iff_eq, ← hl, BitVec.toNat_inj]

theorem yesNo_isSome_iff (b : Byte) : (yesNo b).isSome = true ↔ b.toNat ≤ 1 := by
  unfold yesNo
  split
  · simp only [Option.isSome_some, true_iff]; omega
  · split <;> simp <;> omega

/-- A byte that names yes or no, read as one. -/
theorem yesNo_getD (b : Byte) : (yesNo b).getD false = (b.toNat == 1) := by
  unfold yesNo
  split
  · rename_i h; simp [h]
  · split
    · rename_i h; simp [h]
    · rename_i h; simp [h]

theorem Position.ofReport_of_le {b : Byte} (h : b.toNat ≤ 3) : Position.ofReport b = Position.ofCode b.toNat := by
  simp only [Position.ofReport, if_pos h]

/-- A code of at most 4 names a position (POSITION CODE TABLE). -/
theorem Position.ofCode_isSome {n : Nat} (h : n ≤ 4) : (Position.ofCode n).isSome = true := by
  interval_cases n <;> rfl

theorem Position.ofReport_isSome_iff (b : Byte) : (Position.ofReport b).isSome = true ↔ b.toNat ≤ 3 := by
  by_cases h : b.toNat ≤ 3
  · simp only [Position.ofReport_of_le h, Position.ofCode_isSome (Nat.le_succ_of_le h), h]
  · simp [Position.ofReport, h]

theorem State.beforeCommit_iff (s : State) :
    s.beforeCommit = true ↔ s.station.state = .unconfigured ∨ s.station.state = .loading := by
  simp only [State.beforeCommit, Bool.or_eq_true, beq_iff_eq]

theorem State.acceptsReplay_iff (s : State) :
    s.acceptsReplay = true ↔ s.station.state = .ready ∨ s.station.state = .replaying := by
  simp only [State.acceptsReplay, Bool.or_eq_true, beq_iff_eq]

theorem State.acceptsEndSource_eq (s : State) : s.acceptsEndSource = s.inService := by
  simp only [State.acceptsEndSource, State.inService]
  cases s.station.state <;> rfl

theorem Segment.inRange_iff (g : Segment) : g.inRange = true ↔ -500000 ≤ g.drift ∧ g.drift ≤ 500000 := by
  simp only [Segment.inRange, Bool.and_eq_true, decide_eq_true_eq]
  rfl

theorem settingsInRange_iff (b : SettingsBody) : settingsInRange b = true ↔
    b.startTime.toNat ≤ maxTime ∧ 1 ≤ b.lagLimit.toNat ∧ 1 ≤ b.skipThreshold.toNat ∧ 1 ≤ b.chatterW.toNat ∧
      2 ≤ b.chatterN.toNat ∧ 1 ≤ b.chatterQ.toNat := by
  simp only [settingsInRange, Bool.and_eq_true, decide_eq_true_eq, and_assoc]

theorem elementNamed_iff (b : ElementBody) : elementNamed b = true ↔
    b.nodesPresent.toNat ≤ 1 ∧ b.ownership.toNat ≤ 2 ∧ b.initial.toNat ≤ 4 ∧ b.chatter.toNat ≤ 1 := by
  simp only [elementNamed, Bool.and_eq_true, decide_eq_true_eq, yesNo_isSome_iff, and_assoc]

/-- The range tests of an ELEMENT body whose bytes name values (R148). -/
theorem not_elementInRange_iff {b : ElementBody} (h : elementNamed b = true) : ¬ elementInRange b = true ↔
    127 < b.nodeA.toNat ∨ 127 < b.nodeB.toNat ∨ 1023 < b.tie.toNat ∨ 15 < b.owner.toNat ∨
      (b.ownership.toNat = 0 ∧ b.tie.toNat ≠ 0) ∨ (b.ownership.toNat ≠ 2 ∧ b.owner.toNat ≠ 0) ∨
      (b.nodesPresent.toNat = 0 ∧ (b.nodeA.toNat ≠ 0 ∨ b.nodeB.toNat ≠ 0)) ∨
      (b.ownership.toNat = 2 ∧ (b.travelLimit.toNat ≠ 0 ∨ b.chatter.toNat = 1)) := by
  obtain ⟨hn, -, -, hc⟩ := (elementNamed_iff b).1 h
  simp only [elementInRange, yesNo_getD, Bool.and_eq_true, Bool.or_eq_true, decide_eq_true_eq, bne_iff_ne, ne_eq,
    beq_iff_eq, Bool.not_eq_true', beq_eq_false_iff_ne]
  omega

/-! ## Refused and taken -/

/-- A record refused by its screening: the first test that fails gives the reason (R5). -/
theorem State.receiveRecord_screened {s : State} (h : s.RecordEnds) (kind : Byte) (form accepted inRange : Bool)
    (work : State → State) :
    (¬ form = true → s.receiveRecord kind (screen form accepted inRange) work =
      s.withAnswer kind .refused (some .malformed) none) ∧
    (form = true → ¬ accepted = true → s.receiveRecord kind (screen form accepted inRange) work =
      s.withAnswer kind .refused (some .wrongState) none) ∧
    (form = true → accepted = true → ¬ inRange = true → s.receiveRecord kind (screen form accepted inRange) work =
      s.withAnswer kind .refused (some .outOfRange) none) := by
  rw [State.receiveRecord_ends h]
  refine ⟨fun hf => ?_, fun hf ha => ?_, fun hf ha hr => ?_⟩
  · rw [Bool.eq_false_iff.2 hf, screen_malformed]
  · rw [hf, Bool.eq_false_iff.2 ha, screen_wrongState]
  · rw [hf, ha, Bool.eq_false_iff.2 hr, screen_outOfRange]

/-- A record that passes its screening is handed to its own work (R5). -/
theorem State.receiveRecord_passed {s : State} (h : s.RecordEnds) (kind : Byte) {form accepted inRange : Bool}
    (hf : form = true) (ha : accepted = true) (hr : inRange = true) (work : State → State) :
    s.receiveRecord kind (screen form accepted inRange) work = work s := by
  rw [State.receiveRecord_ends h, screen_eq_none.2 ⟨hf, ha, hr⟩]

end Sys2Proof.Machine
end

section
/-! SUPPORT. The obligations on screening (O22, O23), on the source-state check (O27) and on writes ignored (O21). -/

namespace Sys2Proof.Machine

/-! ## Screening, record by record -/

theorem settingsForm_iff (f : RecordForm) (b : SettingsBody) :
    (formHolds kindSettings f && (yesNo b.follow).isSome) = true ↔
      f.lengthByte = 20 ∧ f.received = 22 ∧ b.follow.toNat ≤ 1 := by
  rw [Bool.and_eq_true, formHolds_iff rfl 20 rfl, yesNo_isSome_iff, and_assoc]
  rfl

theorem elementForm_iff (f : RecordForm) (b : ElementBody) :
    (formHolds kindElement f && elementNamed b) = true ↔
      f.lengthByte = 12 ∧ f.received = 14 ∧ b.nodesPresent.toNat ≤ 1 ∧ b.ownership.toNat ≤ 2 ∧ b.initial.toNat ≤ 4 ∧
        b.chatter.toNat ≤ 1 := by
  rw [Bool.and_eq_true, formHolds_iff rfl 12 rfl, elementNamed_iff, and_assoc]
  rfl

theorem pointForm_iff (f : RecordForm) (b : PointBody) :
    (formHolds kindPoint f && (yesNo b.invert).isSome) = true ↔
      f.lengthByte = 5 ∧ f.received = 7 ∧ b.invert.toNat ≤ 1 := by
  rw [Bool.and_eq_true, formHolds_iff rfl 5 rfl, yesNo_isSome_iff, and_assoc]
  rfl

theorem eventForm_iff (f : RecordForm) (b : EventBody) :
    (formHolds kindEvent f && (Position.ofReport b.position).isSome) = true ↔
      f.lengthByte = 14 ∧ f.received = 16 ∧ b.position.toNat ≤ 3 := by
  rw [Bool.and_eq_true, formHolds_iff rfl 14 rfl, Position.ofReport_isSome_iff, and_assoc]
  rfl

theorem declareRange_iff (b : DeclareBody) :
    (decide (b.source.toNat ≤ 31) && decide (b.quality.toNat ≤ 3) && decide (b.window.toNat ≤ maxWindow) &&
      (segmentOf b.segment).inRange) = true ↔
      b.source.toNat ≤ 31 ∧ b.quality.toNat ≤ 3 ∧ b.window.toNat ≤ 1000000 ∧
        -500000 ≤ b.segment.drift.toInt ∧ b.segment.drift.toInt ≤ 500000 := by
  rw [Bool.and_eq_true, Segment.inRange_iff]
  simp only [Bool.and_eq_true, decide_eq_true_eq, and_assoc]
  rfl

theorem segmentRange_iff (b : SegmentBody) :
    (decide (b.source.toNat ≤ 31) && (segmentOf b.segment).inRange) = true ↔
      b.source.toNat ≤ 31 ∧ -500000 ≤ b.segment.drift.toInt ∧ b.segment.drift.toInt ≤ 500000 := by
  rw [Bool.and_eq_true, Segment.inRange_iff, decide_eq_true_iff]
  rfl

theorem eventRange_iff (b : EventBody) :
    (decide (b.source.toNat ≤ 31) && decide (b.quality.toNat ≤ 3)) = true ↔
      b.source.toNat ≤ 31 ∧ b.quality.toNat ≤ 3 := by
  simp only [Bool.and_eq_true, decide_eq_true_eq]

/-- Settles O22: the screening tests in their order, each read as what it says of the record. -/
theorem descriptionRecordsAreScreened : Obligations.DescriptionRecordsAreScreened := by
  intro s h
  have accepted : s.acceptsDescription = true ↔ s.beforeCommit = true := Iff.rfl
  refine ⟨fun f b => ?_, fun f b => ?_, fun f b => ?_, fun f b => ?_, fun f => ?_⟩
  · obtain ⟨malformed, wrongState, outOfRange⟩ := s.receiveRecord_screened h kindSettings
      (formHolds kindSettings f && (yesNo b.follow).isSome) s.acceptsDescription (settingsInRange b)
      fun s => s.takeSettings b
    have form := settingsForm_iff f b
    rw [exec_stationSettings]
    refine ⟨fun hf => congrArg _ (malformed (mt form.1 hf)), fun h1 h2 h3 hu hl => congrArg _ (wrongState
      (form.2 ⟨h1, h2, h3⟩) fun ha => ?_), fun h1 h2 h3 hb hr => congrArg _ (outOfRange (form.2 ⟨h1, h2, h3⟩)
      (accepted.2 hb) (mt (settingsInRange_iff b).1 hr))⟩
    exact (s.beforeCommit_iff.1 (accepted.1 ha)).elim hu hl
  · obtain ⟨malformed, wrongState, outOfRange⟩ := s.receiveRecord_screened h kindDeclare
      (formHolds kindDeclare f) s.acceptsDescription _ fun s => s.takeDeclare b
    have form : formHolds kindDeclare f = true ↔ f.lengthByte = 26 ∧ f.received = 28 := formHolds_iff rfl 26 rfl f
    rw [exec_declareSource]
    exact ⟨fun hf => congrArg _ (malformed (mt form.1 hf)), fun h1 h2 hb => congrArg _ (wrongState (form.2 ⟨h1, h2⟩)
      fun ha => Bool.eq_false_iff.1 hb (accepted.1 ha)), fun h1 h2 hb hr => congrArg _ (outOfRange (form.2 ⟨h1, h2⟩)
      (accepted.2 hb) (mt (declareRange_iff b).1 hr))⟩
  · obtain ⟨malformed, wrongState, outOfRange⟩ := s.receiveRecord_screened h kindElement
      (formHolds kindElement f && elementNamed b) s.acceptsDescription (elementInRange b) fun s => s.takeElement b
    have form := elementForm_iff f b
    rw [exec_element]
    exact ⟨fun hf => congrArg _ (malformed (mt form.1 hf)), fun h1 h2 h3 h4 h5 h6 hb => congrArg _ (wrongState
      (form.2 ⟨h1, h2, h3, h4, h5, h6⟩) fun ha => Bool.eq_false_iff.1 hb (accepted.1 ha)),
      fun h1 h2 h3 h4 h5 h6 hb hr => congrArg _ (outOfRange (form.2 ⟨h1, h2, h3, h4, h5, h6⟩) (accepted.2 hb)
        ((not_elementInRange_iff ((elementNamed_iff b).2 ⟨h3, h4, h5, h6⟩)).2 hr))⟩
  · obtain ⟨malformed, wrongState, outOfRange⟩ := s.receiveRecord_screened h kindPoint
      (formHolds kindPoint f && (yesNo b.invert).isSome) s.acceptsDescription (decide (b.source.toNat ≤ 31))
      fun s => s.takePoint b
    have form := pointForm_iff f b
    rw [exec_point]
    exact ⟨fun hf => congrArg _ (malformed (mt form.1 hf)), fun h1 h2 h3 hb => congrArg _ (wrongState
      (form.2 ⟨h1, h2, h3⟩) fun ha => Bool.eq_false_iff.1 hb (accepted.1 ha)), fun h1 h2 h3 hb hr => congrArg _
      (outOfRange (form.2 ⟨h1, h2, h3⟩) (accepted.2 hb) (by simpa using hr))⟩
  · obtain ⟨malformed, wrongState, -⟩ := s.receiveRecord_screened h kindCommit (formHolds kindCommit f)
      s.acceptsCommit true State.takeCommit
    have form : formHolds kindCommit f = true ↔ f.lengthByte = 0 ∧ f.received = 2 := formHolds_iff rfl 0 rfl f
    exact ⟨fun hf => congrArg _ (malformed (mt form.1 hf)), fun h1 h2 hl => congrArg _ (wrongState (form.2 ⟨h1, h2⟩)
      (mt beq_iff_eq.1 hl))⟩

/-- Settles O23: as O22 for the records of a source, and the answer to a record of no known kind. -/
theorem sourceRecordsAreScreened : Obligations.SourceRecordsAreScreened := by
  intro s h
  have refused : s.station.state ≠ .ready → s.station.state ≠ .replaying → ¬ s.acceptsReplay = true :=
    fun h1 h2 ha => (s.acceptsReplay_iff.1 ha).elim h1 h2
  refine ⟨fun f b => ?_, fun f b => ?_, fun f b => ?_, fun kind received => ?_, fun f n => ?_⟩
  · obtain ⟨malformed, wrongState, outOfRange⟩ := s.receiveRecord_screened h kindSegment (formHolds kindSegment f)
      s.acceptsReplay _ fun s => s.takeSegment b
    have form : formHolds kindSegment f = true ↔ f.lengthByte = 16 ∧ f.received = 18 := formHolds_iff rfl 16 rfl f
    rw [exec_segment]
    refine ⟨fun hf => congrArg _ (malformed (mt form.1 hf)), fun h1 h2 hr hp => congrArg _ (wrongState
      (form.2 ⟨h1, h2⟩) (refused hr hp)), fun h1 h2 hs hr => congrArg _ (outOfRange (form.2 ⟨h1, h2⟩)
      (s.acceptsReplay_iff.2 hs) fun hi => ?_)⟩
    obtain ⟨hn, hl, hu⟩ := (segmentRange_iff b).1 hi
    omega
  · obtain ⟨malformed, wrongState, outOfRange⟩ := s.receiveRecord_screened h kindEvent
      (formHolds kindEvent f && (Position.ofReport b.position).isSome) s.acceptsReplay _ fun s => s.takeEvent b
    have form := eventForm_iff f b
    rw [exec_event]
    refine ⟨fun hf => congrArg _ (malformed (mt form.1 hf)), fun h1 h2 h3 hr hp => congrArg _ (wrongState
      (form.2 ⟨h1, h2, h3⟩) (refused hr hp)), fun h1 h2 h3 hs hr => congrArg _ (outOfRange (form.2 ⟨h1, h2, h3⟩)
      (s.acceptsReplay_iff.2 hs) fun hi => ?_)⟩
    obtain ⟨hn, hq⟩ := (eventRange_iff b).1 hi
    omega
  · obtain ⟨malformed, wrongState, outOfRange⟩ := s.receiveRecord_screened h kindProgress (formHolds kindProgress f)
      s.acceptsReplay (decide (b.source.toNat ≤ 31)) fun s => s.takeProgress b
    have form : formHolds kindProgress f = true ↔ f.lengthByte = 7 ∧ f.received = 9 := formHolds_iff rfl 7 rfl f
    rw [exec_progress]
    exact ⟨fun hf => congrArg _ (malformed (mt form.1 hf)), fun h1 h2 hr hp => congrArg _ (wrongState
      (form.2 ⟨h1, h2⟩) (refused hr hp)), fun h1 h2 hs hr => congrArg _ (outOfRange (form.2 ⟨h1, h2⟩)
      (s.acceptsReplay_iff.2 hs) (by simpa using hr))⟩
  · have taken : exec (.malformedFeedRecord kind received) s = .next (s.takeMalformed kind received) :=
      congrArg Host.Outcome.next (s.receiveRecord_ends h kind none fun s => s.takeMalformed kind received)
    rw [taken]
    refine ⟨fun hr => ?_, fun hr => ⟨echoedKind s kind received, ?_⟩⟩
    · simp only [State.takeMalformed, echoedKind, if_neg hr]
      rfl
    · simp only [State.takeMalformed, if_pos hr]
      rfl
  · obtain ⟨malformed, wrongState, outOfRange⟩ := s.receiveRecord_screened h kindEndSource (formHolds kindEndSource f)
      s.acceptsEndSource (decide (n.toNat ≤ 31)) fun s => s.takeEndSource n
    have form : formHolds kindEndSource f = true ↔ f.lengthByte = 1 ∧ f.received = 3 := formHolds_iff rfl 1 rfl f
    rw [exec_endSource]
    rw [State.acceptsEndSource_eq] at *
    exact ⟨fun hf => congrArg _ (malformed (mt form.1 hf)), fun h1 h2 hi => congrArg _ (wrongState (form.2 ⟨h1, h2⟩)
      (Bool.eq_false_iff.1 hi)), fun h1 h2 hi hr => congrArg _ (outOfRange (form.2 ⟨h1, h2⟩) hi (by simpa using hr))⟩

/-! ## Records handed to their own work -/

section
variable {s : State} (h : s.RecordEnds)
include h

theorem exec_stationSettings_passed (hb : s.beforeCommit = true) {b : SettingsBody} (hf : b.follow.toNat ≤ 1)
    (hr : settingsInRange b = true) : exec (.stationSettings ⟨20, 22⟩ b) s = .next (s.takeSettings b) :=
  congrArg _ (State.receiveRecord_passed h kindSettings ((settingsForm_iff _ b).2 ⟨rfl, rfl, hf⟩) hb hr _)

theorem exec_declareSource_passed (hb : s.beforeCommit = true) {b : DeclareBody} (hs : b.source.toNat ≤ 31)
    (hq : b.quality.toNat ≤ 3) (hw : b.window.toNat ≤ 1000000) (hl : -500000 ≤ b.segment.drift.toInt)
    (hu : b.segment.drift.toInt ≤ 500000) : exec (.declareSource ⟨26, 28⟩ b) s = .next (s.takeDeclare b) :=
  congrArg _ (State.receiveRecord_passed h kindDeclare rfl hb ((declareRange_iff b).2 ⟨hs, hq, hw, hl, hu⟩) _)

theorem exec_element_passed (hb : s.beforeCommit = true) {b : ElementBody} (hn : elementNamed b = true)
    (hr : elementInRange b = true) : exec (.element ⟨12, 14⟩ b) s = .next (s.takeElement b) :=
  congrArg _ (State.receiveRecord_passed h kindElement (Bool.and_eq_true_iff.2 ⟨rfl, hn⟩) hb hr _)

theorem exec_point_passed (hb : s.beforeCommit = true) {b : PointBody} (hn : b.source.toNat ≤ 31)
    (hi : b.invert.toNat ≤ 1) : exec (.point ⟨5, 7⟩ b) s = .next (s.takePoint b) :=
  congrArg _ (State.receiveRecord_passed h kindPoint ((pointForm_iff _ b).2 ⟨rfl, rfl, hi⟩) hb (decide_eq_true hn) _)

theorem exec_segment_passed (hs : s.station.state = .ready ∨ s.station.state = .replaying) {b : SegmentBody}
    (hn : b.source.toNat ≤ 31) (hl : -500000 ≤ b.segment.drift.toInt) (hu : b.segment.drift.toInt ≤ 500000) :
    exec (.segment ⟨16, 18⟩ b) s = .next (s.takeSegment b) :=
  congrArg _ (State.receiveRecord_passed h kindSegment rfl (s.acceptsReplay_iff.2 hs)
    ((segmentRange_iff b).2 ⟨hn, hl, hu⟩) _)

theorem exec_event_passed (hs : s.station.state = .ready ∨ s.station.state = .replaying) {b : EventBody}
    (hp : b.position.toNat ≤ 3) (hq : b.quality.toNat ≤ 3) (hn : b.source.toNat ≤ 31) :
    exec (.event ⟨14, 16⟩ b) s = .next (s.takeEvent b) :=
  congrArg _ (State.receiveRecord_passed h kindEvent ((eventForm_iff _ b).2 ⟨rfl, rfl, hp⟩) (s.acceptsReplay_iff.2 hs)
    ((eventRange_iff b).2 ⟨hn, hq⟩) _)

theorem exec_progress_passed (hs : s.station.state = .ready ∨ s.station.state = .replaying) {b : ProgressBody}
    (hn : b.source.toNat ≤ 31) : exec (.progress ⟨7, 9⟩ b) s = .next (s.takeProgress b) :=
  congrArg _ (State.receiveRecord_passed h kindProgress rfl (s.acceptsReplay_iff.2 hs) (decide_eq_true hn) _)

theorem exec_endSource_passed (hs : s.inService = true) {n : Byte} (hn : n.toNat ≤ 31) :
    exec (.endSource ⟨1, 3⟩ n) s = .next (s.takeEndSource n) :=
  congrArg _ (State.receiveRecord_passed h kindEndSource rfl (s.acceptsEndSource_eq ▸ hs) (decide_eq_true hn) _)

end

/-! ## The source-state check (R11) -/

theorem State.sourceCheck_undeclared {s : State} {n : Nat} (h : (s.source n).state = .undeclared) (kind : Byte) :
    s.sourceCheck kind n = some (answerDiscarded kind .undeclared) := by
  simp only [State.sourceCheck, h]

theorem State.sourceCheck_ended {s : State} {n : Nat} (h : (s.source n).state = .ended) (kind : Byte) :
    s.sourceCheck kind n = if kind = kindProgress ∨ kind = kindEndSource then some (answerTaken kind)
      else some (answerDiscarded kind .sourceEnded) := by
  simp only [State.sourceCheck, h]

theorem Source.isOpen_iff (r : Source) : r.isOpen = true ↔ r.state = .opened ∨ r.state = .live := by
  simp only [Source.isOpen, Bool.or_eq_true, beq_iff_eq]

theorem State.sourceCheck_open {s : State} {n : Nat} (h : (s.source n).isOpen = true) (kind : Byte) :
    s.sourceCheck kind n = none := by
  rcases (Source.isOpen_iff _).1 h with h | h <;> simp only [State.sourceCheck, h]

/-- The source-state check ends a record with its answer, whatever the record's work. -/
theorem State.takeEvent_checked {s : State} {b : EventBody} {a : Answer}
    (h : s.sourceCheck kindEvent b.source.toNat = some a) : s.takeEvent b = s.placeAnswer a := by
  simp only [State.takeEvent, h]

theorem State.takeProgress_checked {s : State} {b : ProgressBody} {a : Answer}
    (h : s.sourceCheck kindProgress b.source.toNat = some a) : s.takeProgress b = s.placeAnswer a := by
  simp only [State.takeProgress, h]

theorem State.takeSegment_checked {s : State} {b : SegmentBody} {a : Answer}
    (h : s.sourceCheck kindSegment b.source.toNat = some a) : s.takeSegment b = s.placeAnswer a := by
  simp only [State.takeSegment, h]

theorem State.takeEndSource_checked {s : State} {n : Byte} {a : Answer}
    (h : s.sourceCheck kindEndSource n.toNat = some a) : s.takeEndSource n = s.placeAnswer a := by
  simp only [State.takeEndSource, h]

/-- An EVENT of an open source whose ordinals are used up (R11, R16). -/
theorem State.takeEvent_exhausted {s : State} {b : EventBody} (ho : (s.source b.source.toNat).isOpen = true)
    (hx : (s.source b.source.toNat).nextOrdinal = none) :
    s.takeEvent b = s.withAnswer 7 .refused (some .outOfRange) none := by
  simp only [State.takeEvent, State.sourceCheck_open ho, hx]
  rfl

/-- Settles O27: the answers of the source-state check, and of an EVENT with no ordinal left. -/
theorem sourceStatesAreChecked : Obligations.SourceStatesAreChecked := by
  intro s h
  refine ⟨fun hs n hn => ?_, fun hs => ⟨fun b hp hq hn => ?_, fun b hn => ?_, fun b hn hl hu => ?_⟩⟩
  · rw [exec_endSource_passed h hs hn]
    exact ⟨fun hc => congrArg _ (State.takeEndSource_checked (State.sourceCheck_undeclared hc _)),
      fun hc => congrArg _ (State.takeEndSource_checked (State.sourceCheck_ended hc _))⟩
  · rw [exec_event_passed h hs hp hq hn]
    exact ⟨fun hc => congrArg _ (State.takeEvent_checked (State.sourceCheck_undeclared hc _)),
      fun hc => congrArg _ (State.takeEvent_checked (State.sourceCheck_ended hc _)),
      fun ho hx => congrArg _ (State.takeEvent_exhausted ho hx)⟩
  · rw [exec_progress_passed h hs hn]
    exact ⟨fun hc => congrArg _ (State.takeProgress_checked (State.sourceCheck_undeclared hc _)),
      fun hc => congrArg _ (State.takeProgress_checked (State.sourceCheck_ended hc _))⟩
  · rw [exec_segment_passed h hs hn hl hu]
    exact ⟨fun hc => congrArg _ (State.takeSegment_checked (State.sourceCheck_undeclared hc _)),
      fun hc => congrArg _ (State.takeSegment_checked (State.sourceCheck_ended hc _))⟩

/-! ## Writes that start or are ignored (R3, R135) -/

theorem State.recordArrives_eq_false {s : State} (h : s.feed.port = .ready ∨ s.feed.intake.isSome = true) :
    s.recordArrives = false := by
  unfold State.recordArrives
  rcases h with h | h
  · simp [h]
  · simp [Option.isNone_eq_false_iff.2 h]

/-- The end of a record's write that the port ignored (R3). -/
theorem exec_ignored_record {s : State} (h : s.recordArrives = false) {c : Instr} (hc : EndsRecordWrite c) :
    exec c s = .next s := by
  cases hc <;> exact congrArg _ (State.receiveRecord_ignored h _ _ _)

theorem State.submit_ignored {s : State} (h : s.console.writing = false) (c : Command) : s.submit c = s := by
  simp [State.submit, h]

theorem exec_commandRow (c : Command) (s : State) : exec (commandRow c) s = .next (s.submit c) := by
  cases c <;> rfl

/-- Settles O21: the two starts by their port's state, and the ends of ignored writes. -/
theorem writesStartOrAreIgnored : Obligations.WritesStartOrAreIgnored := by
  refine ⟨fun s h => ?_, fun s h => ⟨s.feedWriteStart, rfl, ?_⟩, fun s h => ?_, fun s h => ⟨s.commandWriteStart, rfl, ?_⟩,
    fun s c hc h => exec_ignored_record (State.recordArrives_eq_false h) hc, fun s c h => ?_⟩
  · show Host.Outcome.next s.feedWriteStart = _
    simp only [State.feedWriteStart, h]
  · simp only [State.feedWriteStart, h]
    exact s.reported_report _ _
  · show Host.Outcome.next s.commandWriteStart = _
    simp only [State.commandWriteStart, h]
  · obtain ⟨c, hc⟩ := Option.isSome_iff_exists.1 h
    simp only [State.commandWriteStart, hc]
    exact s.reported_report _ _
  · rw [exec_commandRow, State.submit_ignored h]

end Sys2Proof.Machine
end

section
/-! SUPPORT. The description taken before commit (O24); what is re-formed after an act, sequence classification and
admission, and the ways of an EVENT past its screening (R7). -/

namespace Sys2Proof.Machine

/-! ## The description before commit (R10, R13, R147, R148) -/

theorem State.toLoading_eq {s : State} (h : s.beforeCommit = true) :
    s.toLoading = { s with station := { s.station with state := .loading } } := by
  rcases s.beforeCommit_iff.1 h with hs | hs <;> simp only [State.toLoading, hs] <;> rfl

theorem State.takeSettings_eq {s : State} (h : s.beforeCommit = true) (b : SettingsBody) :
    s.takeSettings b = { s.withAnswer 1 .taken none none with
      station := { s.station with state := .loading }, settings := settingsOf b } := by
  rw [State.takeSettings, State.toLoading_eq (s := { s with settings := settingsOf b }) h]
  rfl

theorem State.takeElement_absent {s : State} (h : s.beforeCommit = true) {b : ElementBody}
    (hn : s.elementAt b.number.toNat = none) :
    s.takeElement b = { s.withAnswer 3 .taken none none with
      station := { s.station with state := .loading }
      elements := (s.setElement b.number.toNat (elementOf b)).elements } := by
  rw [State.takeElement, hn, State.toLoading_eq (s := s.setElement b.number.toNat (elementOf b)) h]
  rfl

theorem State.takeDeclare_new {s : State} (h : s.beforeCommit = true) {b : DeclareBody}
    (hn : (s.source b.source.toNat).state ≠ .declared) :
    s.takeDeclare b = { s.withAnswer 2 .taken none none with
      station := { s.station with state := .loading }
      sources := (s.setSource b.source.toNat { s.source b.source.toNat with
        state := .declared
        startBound := some b.startBound.toNat
        quality := some b.quality.toNat
        window := some b.window.toNat
        firstSegment := some (segmentOf b.segment) }).sources } := by
  simp only [State.takeDeclare, if_neg hn]
  rw [State.toLoading_eq (by exact h)]
  rfl

/-- The point map holds an entry of the source and point (R13). -/
theorem State.pointEntry_isSome_iff (s : State) (source point : Nat) :
    (s.pointEntry source point).isSome = true ↔ ∃ p ∈ s.points, p.source = source ∧ p.point = point := by
  simp only [State.pointEntry, List.find?_isSome, Bool.and_eq_true, beq_iff_eq]

/-- The checks on a POINT record in their order (R13). -/
theorem State.checkPoint_conflict {s : State} {b : PointBody} (h : (s.source b.source.toNat).state ≠ .declared ∨
    ∃ p ∈ s.points, p.source = b.source.toNat ∧ p.point = b.point.toNat) : s.checkPoint b = some .conflict := by
  rw [← State.pointEntry_isSome_iff] at h
  unfold State.checkPoint
  split
  · rfl
  · rename_i hd
    rw [if_pos (h.resolve_left hd)]

theorem State.checkPoint_new {s : State} {b : PointBody} (hd : (s.source b.source.toNat).state = .declared)
    (hn : ∀ p ∈ s.points, ¬ (p.source = b.source.toNat ∧ p.point = b.point.toNat)) :
    s.checkPoint b = if 2048 ≤ s.points.length then some .outOfRange else none := by
  have fresh : ¬ (s.pointEntry b.source.toNat b.point.toNat).isSome = true := by
    rw [State.pointEntry_isSome_iff]
    rintro ⟨p, hp, hh⟩
    exact hn p hp hh
  simp only [State.checkPoint, hd, ne_eq, not_true_eq_false, if_false, fresh]
  rfl

theorem State.takePoint_refused {s : State} {b : PointBody} {r : AnswerReason} (h : s.checkPoint b = some r) :
    s.takePoint b = s.withAnswer 4 .refused (some r) none := by
  simp only [State.takePoint, h]
  rfl

theorem State.takePoint_taken {s : State} (hb : s.beforeCommit = true) {b : PointBody} (h : s.checkPoint b = none) :
    s.takePoint b = { s.withAnswer 4 .taken none none with
      station := { s.station with state := .loading }
      points := s.points ++ [⟨b.source.toNat, b.point.toNat, b.element.toNat, b.invert.toNat == 1⟩] } := by
  simp only [State.takePoint, h, yesNo_getD]
  rw [State.toLoading_eq (by exact hb)]
  rfl

theorem settingsOf_eq (b : SettingsBody) : settingsOf b = {
    expectedMask := b.expectedMask
    startTime := b.startTime.toNat
    lagLimit := b.lagLimit.toNat
    skipThreshold := b.skipThreshold.toNat
    skipLead := b.skipLead.toNat
    chatterW := b.chatterW.toNat
    chatterN := b.chatterN.toNat
    chatterQ := b.chatterQ.toNat
    follow := b.follow.toNat == 1
    initialMask := ⟨b.initialMask.getLsbD 0, b.initialMask.getLsbD 1, b.initialMask.getLsbD 2,
      b.initialMask.getLsbD 3, b.initialMask.getLsbD 4, b.initialMask.getLsbD 5⟩ } := by
  simp only [settingsOf, yesNo_getD]
  rfl

theorem elementOf_nodes (b : ElementBody) :
    (elementOf b).nodes = if b.nodesPresent.toNat = 1 then some (b.nodeA.toNat, b.nodeB.toNat) else none := by
  simp only [elementOf, yesNo_getD, beq_iff_eq]

theorem elementOf_initial {b : ElementBody} (h : b.initial.toNat ≤ 4) :
    some (elementOf b).initial = Position.ofCode b.initial.toNat := by
  obtain ⟨p, hp⟩ := Option.isSome_iff_exists.1 (Position.ofCode_isSome h)
  simp only [elementOf, hp, Option.getD_some]

theorem elementOf_chatterEnable (b : ElementBody) : (elementOf b).chatterEnable = (b.chatter.toNat == 1) :=
  yesNo_getD b.chatter

/-- The ownership codes (log entry 7). -/
theorem ownershipOf_spec (b : ElementBody) :
    (b.ownership.toNat = 0 → ownershipOf b = .localOnly) ∧
    (b.ownership.toNat = 1 → ownershipOf b = .localTie b.tie.toNat) ∧
    (b.ownership.toNat = 2 → ownershipOf b = .mirror b.tie.toNat b.owner.toNat) := by
  refine ⟨fun h => ?_, fun h => ?_, fun h => ?_⟩ <;> simp [ownershipOf, h]

/-- Settles O24: each description record past its screening, by the test that its work takes. -/
theorem descriptionRecordsAreTaken : Obligations.DescriptionRecordsAreTaken := by
  intro s h hb
  refine ⟨fun b hf h1 h2 h3 h4 h5 h6 => ?_, fun b hn hr => ⟨fun ha => ?_, fun hp => ?_⟩,
    fun b hs hq hw hl hu => ⟨fun hd => ?_, fun hd => ?_⟩,
    fun b hs hi => ⟨fun hd hfresh => ⟨fun hroom => ?_, fun hfull => ?_⟩,
    fun hc => ?_⟩⟩
  · rw [exec_stationSettings_passed h hb hf ((settingsInRange_iff b).2 ⟨h1, h2, h3, h4, h5, h6⟩),
      State.takeSettings_eq hb, settingsOf_eq]
  · have ownership := ownershipOf_spec b
    refine ⟨_, elementOf b, (exec_element_passed h hb hn hr).trans (congrArg _ (State.takeElement_absent hb ha)), rfl,
      s.elementAt_setElement_self _ b.number.isLt, fun n hne => s.elementAt_setElement_of_ne _ hne, elementOf_nodes b,
      ownership.1, ownership.2.1, ownership.2.2, elementOf_initial ((elementNamed_iff b).1 hn).2.2.1, rfl, rfl,
      elementOf_chatterEnable b, rfl, rfl, rfl, rfl, rfl, rfl, rfl, rfl⟩
  · rw [exec_element_passed h hb hn hr, State.takeElement, if_pos hp]
    rfl
  · refine ⟨_, (exec_declareSource_passed h hb hs hq hw hl hu).trans (congrArg _ (State.takeDeclare_new hb hd)), rfl,
      s.source_setSource_self _ (Nat.lt_succ_of_le hs), fun n hne => s.source_setSource_of_ne _ hne⟩
  · rw [exec_declareSource_passed h hb hs hq hw hl hu]
    simp only [State.takeDeclare, if_pos hd]
    rfl
  · rw [exec_point_passed h hb hs hi, State.takePoint_taken hb]
    rw [State.checkPoint_new hd hfresh, if_neg (Nat.not_le.2 hroom)]
  · rw [exec_point_passed h hb hs hi, State.takePoint_refused]
    rw [State.checkPoint_new hd hfresh, if_pos hfull]
  · rw [exec_point_passed h hb hs hi, State.takePoint_refused (State.checkPoint_conflict hc)]

/-! ## What is re-formed after an act -/

/-- `settle` writes the horizon unit, the clock, the attention unit and the transmitter alone. -/
theorem State.settle_frame (s b : State) : s.settle b = { s with
    horizon := (s.settle b).horizon, clock := (s.settle b).clock, attention := (s.settle b).attention
    tx := (s.settle b).tx } := by
  simp only [State.settle_eq, State.wantFrame, State.reformLink]
  rw [State.retimed_spec]

/-- `settleComplete` writes besides these the station state and the COMPLETE record owed. -/
theorem State.settleComplete_frame (s b : State) : s.settleComplete b = { s with
    station := (s.settleComplete b).station
    engine := { s.engine with completeOwed := (s.settleComplete b).engine.completeOwed }
    horizon := (s.settleComplete b).horizon, clock := (s.settleComplete b).clock
    attention := (s.settleComplete b).attention, tx := (s.settleComplete b).tx } := by
  simp only [State.settleComplete_eq, State.wantFrame, State.reformLink, State.testCompletion_spec]
  split <;> rw [State.retimed_spec]

/-! ## Sequence classification (R15) -/

theorem Source.classify_opened {r : Source} (h : r.state = .opened) (sequence : Nat) :
    r.classify sequence = .inOrder := by
  simp only [Source.classify, h]

theorem Source.classify_live {r : Source} (h : r.state = .live) (he : r.expectedSeq < 65536) {sequence d : Nat}
    (hd : d = (sequence + 65536 - r.expectedSeq) % 65536) :
    r.classify sequence = if d = 0 then .inOrder else if d ≤ 32767 then .gap d else .repetition := by
  have : sequenceDistance sequence r.expectedSeq = d := by
    rw [hd, sequenceDistance, Nat.mod_eq_of_lt he]
  simp only [Source.classify, h, this]

/-! ## Admission (R19, R20) -/

/-- Source `m` is a laggard: OPEN or LIVE, its watermark at LW (R19). -/
def State.Lagging (s : State) (m : Nat) : Prop :=
  m < 32 ∧ ((s.source m).state = .opened ∨ (s.source m).state = .live) ∧ (s.source m).watermark = some s.horizon.lw

theorem Source.bound_eq_some_iff (r : Source) (t : Nat) :
    r.bound = some t ↔ (r.state = .opened ∨ r.state = .live) ∧ r.watermark = some t := by
  rw [← Source.isOpen_iff]
  unfold Source.bound
  split
  · rename_i h; simp [h]
  · rename_i h; simp [h]

/-- The laggard named is the lowest-numbered one, and none where there is none (R19). -/
theorem State.laggard_spec (s : State) :
    (∀ m, s.laggard = some m → s.Lagging m ∧ ∀ k < m, ¬ s.Lagging k) ∧
      (s.laggard = none → ∀ m, ¬ s.Lagging m) := by
  have at_iff (m : Nat) (hm : m < s.sources.toList.length) :
      ((s.sources.toList[m]).bound == some s.horizon.lw) = true ↔ s.Lagging m := by
    have hm' : m < 32 := by simpa using hm
    have : s.sources.toList[m] = s.source m := by simp [State.source, hm']
    rw [this, beq_iff_eq, Source.bound_eq_some_iff]
    exact ⟨fun h => ⟨hm', h⟩, fun h => h.2⟩
  refine ⟨fun m h => ?_, fun h m hl => ?_⟩
  · obtain ⟨hm, here, before⟩ := List.findIdx?_eq_some_iff_getElem.1 h
    refine ⟨(at_iff m hm).1 here, fun k hk hl => ?_⟩
    exact before k hk ((at_iff k (hk.trans hm)).2 hl)
  · have hm : m < s.sources.toList.length := by simpa using hl.1
    have := List.findIdx?_eq_none_iff.1 h _ (List.getElem_mem hm)
    rw [(at_iff m hm).2 hl] at this
    cases this

/-- What names the lowest-numbered laggard is `State.laggard`. -/
theorem State.eq_laggard {s : State} {l : Option Nat}
    (some_spec : ∀ m, l = some m → s.Lagging m ∧ ∀ k < m, ¬ s.Lagging k) (none_spec : l = none → ∀ m, ¬ s.Lagging m) :
    l = s.laggard := by
  obtain ⟨first, absent⟩ := s.laggard_spec
  cases hl : s.laggard with
  | none => cases l with
    | none => rfl
    | some m => exact absurd (some_spec m rfl).1 (absent hl m)
  | some k =>
    obtain ⟨hk, least⟩ := first k hl
    cases l with
    | none => exact absurd hk (none_spec rfl k)
    | some m =>
      obtain ⟨hm, least'⟩ := some_spec m rfl
      rcases Nat.lt_trichotomy m k with h | h | h
      · exact absurd hm (least m h)
      · rw [h]
      · exact absurd hk (least' k h)

theorem State.isLaggard_iff {s : State} {n : Nat} (h : (s.source n).isOpen = true) :
    s.isLaggard n = true ↔ (s.source n).watermark = some s.horizon.lw := by
  rw [State.isLaggard, beq_iff_eq, Source.bound_eq_some_iff, ← Source.isOpen_iff]
  exact ⟨fun hh => hh.2, fun hh => ⟨h, hh⟩⟩

theorem State.localTieOf_eq_some_iff (s : State) (n tie : Nat) :
    s.localTieOf n = some tie ↔ ∃ e, s.elementAt n = some e ∧ e.ownership = .localTie tie := by
  unfold State.localTieOf
  cases s.elementAt n with
  | none => simp
  | some e => cases h : e.ownership <;> simp [h]

theorem State.localTieOf_isSome_iff (s : State) (n : Nat) : (s.localTieOf n).isSome = true ↔
    ∃ e t, s.elementAt n = some e ∧ e.ownership = .localTie t := by
  simp only [Option.isSome_iff_exists, State.localTieOf_eq_some_iff]
  exact exists_comm

section
variable {s : State} {n element : Nat}

theorem State.admission_full (h : 4096 - s.pendingQueue.length = 0) :
    s.admission n element = some ⟨7, .deferred, some .full, s.laggard⟩ :=
  if_pos h

theorem State.admission_reserve (ho : (s.source n).isOpen = true) (h : 4096 - s.pendingQueue.length ≠ 0)
    (hr : 4096 - s.pendingQueue.length ≤ 256) (hl : (s.source n).watermark ≠ some s.horizon.lw) :
    s.admission n element = some ⟨7, .deferred, some .reserve, s.laggard⟩ :=
  (if_neg h).trans (if_pos ⟨hr, Bool.eq_false_iff.2 (mt (s.isLaggard_iff ho).1 hl)⟩)

/-- Past the room tests the element's outgoing copy decides (R20, R40). -/
theorem State.admission_room (ho : (s.source n).isOpen = true) (h : 4096 - s.pendingQueue.length ≠ 0)
    (hr : 256 < 4096 - s.pendingQueue.length ∨ (s.source n).watermark = some s.horizon.lw) :
    s.admission n element = if (s.localTieOf element).isSome = true ∧ 64 ≤ s.outgoing.length then
      some ⟨7, .deferred, some .outgoingFull, none⟩ else none := by
  refine (if_neg h).trans (if_neg ?_)
  rintro ⟨hle, hlag⟩
  rcases hr with hr | hr
  · exact absurd hle (Nat.not_le.2 hr)
  · rw [(s.isLaggard_iff ho).2 hr] at hlag
    cases hlag

end

/-! ## The ways of an EVENT (R7) -/

section
variable {s : State} {b : EventBody} {o : Nat} (ho : (s.source b.source.toNat).isOpen = true)
  (hx : (s.source b.source.toNat).nextOrdinal = some o)
include ho hx

theorem State.takeEvent_unmapped (hp : s.pointEntry b.source.toNat b.point.toNat = none) :
    s.takeEvent b = ((s.countSource b.source.toNat fun k => { k with unmapped := satSucc max32 k.unmapped }).report
      .unmapped (some b.source.toNat)).placeAnswer (answerDiscarded kindEvent .unmapped) := by
  simp only [State.takeEvent, State.sourceCheck_open ho, hx, hp]

variable {p : PointEntry} (hp : s.pointEntry b.source.toNat b.point.toNat = some p)
include hp

theorem State.takeEvent_repeated (hc : (s.source b.source.toNat).classify b.sequence.toNat = .repetition) :
    s.takeEvent b = ((s.countSource b.source.toNat fun k => { k with repeated := satSucc max32 k.repeated }).report
      .repeated (some b.source.toNat)).placeAnswer (answerDiscarded kindEvent .repeated) := by
  simp only [State.takeEvent, State.sourceCheck_open ho, hx, hp, hc]

variable (hc : (s.source b.source.toNat).classify b.sequence.toNat ≠ .repetition)
include hc

theorem State.takeEvent_deferred {a : Answer} (ha : s.admission b.source.toNat p.element = some a) :
    s.takeEvent b =
      (s.countSource b.source.toNat fun k => { k with deferred := satSucc max32 k.deferred }).placeAnswer a := by
  simp only [State.takeEvent, State.sourceCheck_open ho, hx, hp, ha]
  split
  · exact absurd ‹_› hc
  · rfl
  · rfl

theorem State.takeEvent_admitted {position : Position} (hpos : Position.ofReport b.position = some position)
    (ha : s.admission b.source.toNat p.element = none) :
    s.takeEvent b =
      s.admitEvent b p position ((s.source b.source.toNat).classify b.sequence.toNat) o := by
  simp only [State.takeEvent, State.sourceCheck_open ho, hx, hp, ha, hpos, Option.getD_some]
  split
  · exact absurd ‹_› hc
  · rename_i h; rw [h]
  · rename_i h; rw [h]

end

end Sys2Proof.Machine
end

section
/-! SUPPORT. The ways of an EVENT through steps 1 to 7 (O30, O29), PROGRESS and END_SOURCE (O31), and the insertion of
MERGE_ACT (O32). -/

namespace Sys2Proof.Machine

/-! ## An EVENT that ends at steps 1 to 4 -/

/-- A record counted at its source and answered: `u` is the state with the reports of the record's end. -/
theorem State.countedAnswer_spec {s u : State} {n : Nat} (hn : n < 32) (hu : u = { s with attention := u.attention })
    (c : SourceCounters) (a : Answer) :
    let t := (u.setSource n { s.source n with counters := c }).placeAnswer a
    t.feed = ⟨.ready, some a, none⟩ ∧
    (t.source n = { s.source n with counters := c } ∧ (∀ m, m ≠ n → t.source m = s.source m) ∧
      t = { s with feed := t.feed, sources := t.sources, attention := t.attention }) ∧
    t.attention = u.attention := by
  generalize u.attention = attention at hu
  subst hu
  exact ⟨rfl, ⟨State.source_setSource_self _ _ hn, fun m hm => State.source_setSource_of_ne _ _ hm, rfl⟩, rfl⟩

/-- An EVENT is a repetition of a LIVE source alone, at a distance of 32768 or more (R15). -/
theorem Source.classify_eq_repetition_iff {r : Source} (ho : r.state = .opened ∨ r.state = .live)
    (he : r.expectedSeq < 65536) (sequence : Nat) : r.classify sequence = .repetition ↔
      r.state = .live ∧ 32768 ≤ (sequence + 65536 - r.expectedSeq) % 65536 := by
  rcases ho with h | h
  · simp [Source.classify_opened h, h]
  · rw [Source.classify_live h he rfl]
    split_ifs <;> simp [h] <;> omega

/-- What defers an EVENT in the three cases of R20. -/
theorem State.admission_deferred {s : State} {n element : Nat} (ho : (s.source n).isOpen = true) {a : Answer}
    (h : (4096 - s.pendingQueue.length = 0 ∧ a = ⟨7, .deferred, some .full, s.laggard⟩) ∨
      (4096 - s.pendingQueue.length ≠ 0 ∧ 4096 - s.pendingQueue.length ≤ 256 ∧
        (s.source n).watermark ≠ some s.horizon.lw ∧ a = ⟨7, .deferred, some .reserve, s.laggard⟩) ∨
      (4096 - s.pendingQueue.length ≠ 0 ∧
        (256 < 4096 - s.pendingQueue.length ∨ (s.source n).watermark = some s.horizon.lw) ∧
        (∃ e t, s.elementAt element = some e ∧ e.ownership = .localTie t) ∧ 64 ≤ s.outgoing.length ∧
        a = ⟨7, .deferred, some .outgoingFull, none⟩)) : s.admission n element = some a := by
  rcases h with ⟨hf, rfl⟩ | ⟨hf, hr, hl, rfl⟩ | ⟨hf, hr, ht, hc, rfl⟩
  · exact State.admission_full hf
  · exact State.admission_reserve ho hf hr hl
  · rw [State.admission_room ho hf hr, if_pos ⟨(s.localTieOf_isSome_iff element).2 ht, hc⟩]

/-- Settles O30: the four ends of an EVENT before intake, in the order of its steps. -/
theorem eventEndsBeforeIntake : Obligations.EventEndsBeforeIntake := by
  intro s b h hs hp hq hb n d keeps free lagging named ho he
  have hn : n < 32 := Nat.lt_succ_of_le hb
  have isOpen : (s.source n).isOpen = true := (Source.isOpen_iff _).2 ho
  have repetition := Source.classify_eq_repetition_iff ho he b.sequence.toNat
  rw [exec_event_passed h hs hp hq hb]
  refine ⟨fun hx => congrArg _ (State.takeEvent_exhausted isOpen hx), fun hx => ?_⟩
  obtain ⟨o, hx⟩ := Option.isSome_iff_exists.1 hx
  refine ⟨fun hpoint => ⟨_, congrArg _ (State.takeEvent_unmapped isOpen hx hpoint), ?_⟩,
    fun p hpoint => ⟨fun hlive hd => ?_, fun hd a l hl ha => ?_⟩⟩
  · rw [State.countSource, State.report_setSource]
    exact State.countedAnswer_spec hn (s.reported_report _ _).frame _ _
  · refine ⟨_, congrArg _ (State.takeEvent_repeated isOpen hx hpoint (repetition.2 ⟨hlive, hd⟩)), ?_⟩
    rw [State.countSource, State.report_setSource]
    exact State.countedAnswer_spec hn (s.reported_report _ _).frame _ _
  · have fresh : (s.source n).classify b.sequence.toNat ≠ .repetition := by
      rw [ne_eq, repetition]
      rintro ⟨hlive, far⟩
      rcases hd with hd | hd
      · rw [hlive] at hd
        cases hd
      · exact absurd far (Nat.not_le.2 (Nat.lt_succ_of_le hd))
    obtain rfl : l = s.laggard := State.eq_laggard hl.1 hl.2
    exact ⟨_, congrArg _ (State.takeEvent_deferred isOpen hx hpoint fresh (State.admission_deferred isOpen ha)),
      State.countedAnswer_spec hn rfl _ _⟩

/-! ## An EVENT that is admitted -/

/-- The gap count of an EVENT in order or after a gap (R15). -/
theorem Source.gapCount_classify {r : Source} {sequence d : Nat} (hd : d = (sequence + 65536 - r.expectedSeq) % 65536)
    (h : r.state = .opened ∨ (r.state = .live ∧ d ≤ 32767 ∧ r.expectedSeq < 65536)) :
    r.classify sequence ≠ .repetition ∧
    (r.state = .live ∧ d ≠ 0 → (r.classify sequence).gapCount = some d) ∧
    (¬ (r.state = .live ∧ d ≠ 0) → (r.classify sequence).gapCount = none) := by
  rcases h with h | ⟨h, hle, he⟩
  · rw [Source.classify_opened h]
    simp [h, SequenceClass.gapCount]
  · rw [Source.classify_live h he hd, if_pos hle]
    by_cases hz : d = 0 <;> simp [hz, h, SequenceClass.gapCount]

theorem State.admission_eq_none {s : State} {n element : Nat} (ho : (s.source n).isOpen = true)
    (hroom : 256 < 4096 - s.pendingQueue.length ∨
      (0 < 4096 - s.pendingQueue.length ∧ (s.source n).watermark = some s.horizon.lw))
    (hcopy : (∀ el tie, s.elementAt element = some el → el.ownership ≠ .localTie tie) ∨ s.outgoing.length < 64) :
    s.admission n element = none := by
  have free : 4096 - s.pendingQueue.length ≠ 0 := by omega
  rw [State.admission_room ho free (hroom.imp_right And.right), if_neg]
  rintro ⟨htie, hfull⟩
  rcases hcopy with hcopy | hcopy
  · obtain ⟨el, tie, hel, how⟩ := (s.localTieOf_isSome_iff element).1 htie
    exact hcopy el tie hel how
  · exact absurd hfull (Nat.not_le.2 hcopy)

theorem correctionClamps_iff (g : Segment) (raw : Nat) : correctionClamps g raw = true ↔
    correctionSum g raw < 0 ∨ (maxTime : Int) < correctionSum g raw := by
  simp only [correctionClamps, Bool.or_eq_true, decide_eq_true_eq]

/-- What steps 5 to 7 leave, `u` being the state with their reports, `r` the source record and `e` the record in
intake. -/
theorem State.settledIntake_spec {s u : State} {n : Nat} (hn : n < 32) (hu : u = { s with attention := u.attention })
    (r : Source) (e : Intake) :
    let t := ({ u.setSource n r with feed := { s.feed with intake := some e } } : State).settle s
    t = { s with
      feed := t.feed, sources := t.sources, horizon := t.horizon, clock := t.clock, attention := t.attention
      tx := t.tx } ∧
    t.feed = { s.feed with intake := some e } ∧ t.source n = r ∧ (∀ m, m ≠ n → t.source m = s.source m) ∧
    t.BoundsAgree ∧ u.OnlyReformed t := by
  generalize u.attention = attention at hu
  subst hu
  dsimp only
  refine ⟨?_, State.settle_feed _ _, ?_, fun m hm => ?_, (State.settle_agrees _ _).1, State.settle_onlyReformed ?_⟩
  · rw [State.settle_feed, State.settle_sources]
    exact State.settle_frame _ _
  · exact (State.source_congr (State.settle_sources _ _) n).trans (State.source_setSource_self _ _ hn)
  · exact (State.source_congr (State.settle_sources _ _) m).trans (State.source_setSource_of_ne _ _ hm)
  · exact ⟨rfl, rfl, rfl, rfl, rfl, ⟨rfl, rfl⟩, rfl, rfl, rfl, id⟩

/-- Settles O29: the record in intake and its source as steps 5 to 7 write them; the rest is re-formed. -/
theorem eventIsAdmitted : Obligations.EventIsAdmitted := by
  intro s b p pos o h hs hq hb hp hpos n r d gapped held hstate hx hpoint free hroom hcopy
  have isOpen : (s.source n).isOpen = true := (Source.isOpen_iff _).2 (hstate.imp_right And.left)
  obtain ⟨fresh, hgap, hnogap⟩ := Source.gapCount_classify (r := s.source n) rfl hstate
  have taken := State.takeEvent_admitted isOpen hx hpoint fresh ((Position.ofReport_of_le hp).trans hpos)
    (State.admission_eq_none isOpen hroom hcopy)
  rw [State.admitEvent_eq] at taken
  let e := Sys2Proof.Machine.intakeOf s r b p pos ((s.source n).classify b.sequence.toNat) o
  obtain ⟨frame, feed, source, others, bounds, reformed⟩ := State.settledIntake_spec (n := n) (Nat.lt_succ_of_le hb)
    (State.eventReports_frame s n e.clamped e.reordered e.gap.isSome) (r.commitEvent b o) e
  exact ⟨_, e, (exec_event_passed h hs hp hq hb).trans (congrArg _ taken), frame, feed, source, others, bounds, rfl, rfl,
    State.localTieOf_eq_some_iff s p.element, rfl, rfl, rfl, rfl, rfl, hgap, hnogap, correctionClamps_iff _ _,
    decide_eq_true_iff, reformed⟩

/-! ## PROGRESS and END_SOURCE (R17, R18, R25) -/

theorem Source.promote_reached {r : Source} {x : Segment} (hx : r.next = some x) {raw : Nat} (h : x.anchor ≤ raw) :
    r.promote raw = { r with current := some x, next := none } := by
  simp only [Source.promote, hx, if_pos h]

theorem Source.promote_ahead {r : Source} {x : Segment} (hx : r.next = some x) {raw : Nat} (h : raw < x.anchor) :
    r.promote raw = r := by
  simp only [Source.promote, hx, if_neg (Nat.not_le.2 h)]

theorem Source.promote_none {r : Source} (hx : r.next = none) (raw : Nat) : r.promote raw = r := by
  simp only [Source.promote, hx]

theorem Source.promote_watermark (r : Source) (raw : Nat) : (r.promote raw).watermark = r.watermark := by
  unfold Source.promote
  split
  · split <;> rfl
  · rfl

theorem State.takeProgress_open {s : State} {b : ProgressBody} (ho : (s.source b.source.toNat).isOpen = true) {w : Nat}
    {g : Segment} (hw : (s.source b.source.toNat).watermark = some w)
    (hg : ((s.source b.source.toNat).promote b.bound.toNat).current = some g) :
    s.takeProgress b = ((s.setSource b.source.toNat { (s.source b.source.toNat).promote b.bound.toNat with
      watermark := some (max w (corrected g b.bound.toNat)) }).withAnswer 8 .taken none none).settle s := by
  simp only [State.takeProgress, State.sourceCheck_open ho, Source.segment, hg, Source.promote_watermark, hw,
    Option.getD_some]
  rfl

theorem State.takeEndSource_open {s : State} {n : Byte} (ho : (s.source n.toNat).isOpen = true) :
    s.takeEndSource n = ((s.setSource n.toNat { s.source n.toNat with
      watermark := some endTime, state := .ended, next := none }).withAnswer 9 .taken none none).settleComplete s := by
  simp only [State.takeEndSource, State.sourceCheck_open ho]
  rfl

/-- Settles O31: the two records of an open source; each writes its source and leaves the rest re-formed. -/
theorem progressAndEndMoveTheWatermark : Obligations.ProgressAndEndMoveTheWatermark := by
  intro s h
  refine ⟨fun b hs hb ho w g hw hg => ⟨fun x hx => ⟨Source.promote_reached hx, Source.promote_ahead hx⟩,
    fun hx => Source.promote_none hx _, _, (exec_progress_passed h hs hb).trans
      (congrArg _ (State.takeProgress_open ho hw hg)), ?_, ?_, fun n hn => ?_, State.settle_onlyReformed ?_⟩,
    fun n hs hn ho => ⟨_, (exec_endSource_passed h hs hn).trans (congrArg _ (State.takeEndSource_open ho)), ?_, ?_,
      fun m hm => ?_, State.settleComplete_reformedWith (b := s) (w := s) ?_ rfl rfl rfl rfl⟩⟩
  · rw [State.settle_sources]
    exact State.settle_frame _ _
  · exact (State.source_congr (State.settle_sources _ _) _).trans (s.source_setSource_self _ (Nat.lt_succ_of_le hb))
  · exact (State.source_congr (State.settle_sources _ _) _).trans (s.source_setSource_of_ne _ hn)
  · exact ⟨rfl, rfl, rfl, rfl, rfl, ⟨rfl, rfl⟩, rfl, rfl, rfl, id⟩
  · rw [State.settleComplete_sources]
    exact State.settleComplete_frame _ _
  · exact (State.source_congr (State.settleComplete_sources _ _) _).trans
      (s.source_setSource_self _ (Nat.lt_succ_of_le hn))
  · exact (State.source_congr (State.settleComplete_sources _ _) _).trans (s.source_setSource_of_ne _ hm)
  · exact ⟨rfl, rfl, rfl, rfl, rfl, ⟨rfl, rfl⟩, rfl, rfl, rfl, id⟩

/-! ## The merge act with no match (R39, R40, R55) -/

theorem exec_mergeAct (s : State) : exec .mergeAct s = .next s.mergeAct := rfl

theorem State.mergeAct_idle {s : State} (h : s.feed.intake = none) : s.mergeAct = s := by
  simp only [State.mergeAct, h]

theorem State.mergeAct_unmatched {s : State} {e : Intake} (h : s.feed.intake = some e) (hm : s.findMatch e = none) :
    s.mergeAct = (s.insertEvent e).settle s := by
  simp only [State.mergeAct, h, hm]

/-- Settles O32: the insertion, list by list. -/
theorem mergeActInserts : Obligations.MergeActInserts := by
  refine ⟨fun s h => congrArg _ (State.mergeAct_idle h), ?_⟩
  intro s e h hm hn entry
  have queue : ((s.insertEvent e).settle s).pendingQueue = insertByKey PendingEntry.key entry s.pendingQueue :=
    State.settle_pendingQueue _ _
  have copies : ((s.insertEvent e).settle s).outgoing = _ := State.settle_outgoing _ _
  have sources : ((s.insertEvent e).settle s).sources = _ := State.settle_sources _ _
  refine ⟨_, (exec_mergeAct s).trans (congrArg _ (State.mergeAct_unmatched h hm)), ?_, queue, fun x => ?_, ?_,
    fun ht => ?_, fun tie ht => ?_, ?_, fun n hne => ?_, State.settle_onlyReformed ?_⟩
  · rw [queue, copies, sources]
    exact State.settle_frame _ _
  · rw [queue, mem_insertByKey]
  · rw [queue, length_insertByKey]
  · rw [copies]
    simp only [State.insertEvent, ht]
    rfl
  · rw [copies]
    simp only [State.insertEvent, ht]
    rfl
  · exact (State.source_congr sources _).trans (State.source_setSource_self _ _ hn)
  · exact (State.source_congr sources _).trans (State.source_setSource_of_ne _ _ hne)
  · exact ⟨rfl, rfl, rfl, rfl, rfl, ⟨rfl, rfl⟩, rfl, rfl, rfl, id⟩

end Sys2Proof.Machine
end

section
/-! SUPPORT. The correction (R26 to R28): the clamped difference, the rounded quotient and the clamped sum, with their
bounds and how they move with the raw time; and the correction's statement (O19). -/

namespace Sys2Proof.Machine

/-! ## The clamped difference (R26) -/

theorem clampMagnitude_of_within {m x : Int} (hl : -m ≤ x) (hu : x ≤ m) : clampMagnitude m x = x := by
  rw [clampMagnitude, if_neg (by omega), if_neg (by omega)]

theorem clampMagnitude_of_above {m x : Int} (h : m < x) : clampMagnitude m x = m :=
  if_pos h

theorem clampMagnitude_of_below {m x : Int} (hm : 0 ≤ m) (h : x < -m) : clampMagnitude m x = -m := by
  rw [clampMagnitude, if_neg (by omega), if_pos h]

theorem natAbs_clampMagnitude_le {m : Int} (hm : 0 ≤ m) (x : Int) : (clampMagnitude m x).natAbs ≤ m.natAbs := by
  unfold clampMagnitude
  split_ifs <;> omega

/-- A clamped value rises with the value clamped, and by no more. -/
theorem clampMagnitude_rises {m x y : Int} (hm : 0 ≤ m) (h : x ≤ y) :
    clampMagnitude m x ≤ clampMagnitude m y ∧ clampMagnitude m y - clampMagnitude m x ≤ y - x := by
  unfold clampMagnitude
  split_ifs <;> omega

/-! ## The rounded quotient (R27) -/

/-- The quotient is the nearest integer, and of two equally near ones that of the greater magnitude. -/
theorem roundedQuotient_nearest (p : Int) :
    2 * (p - roundedQuotient p * 1000000000).natAbs ≤ 1000000000 ∧
    (2 * (p - roundedQuotient p * 1000000000).natAbs = 1000000000 →
      p.natAbs < (roundedQuotient p * 1000000000).natAbs) := by
  simp only [roundedQuotient]
  split <;> omega

theorem natAbs_roundedQuotient (p : Int) : (roundedQuotient p).natAbs = (p.natAbs + 500000000) / 1000000000 := by
  simp only [roundedQuotient]
  split <;> omega

/-- Where the product falls by at most half a million for each of `k` steps, the quotient falls by at most `k`. -/
theorem roundedQuotient_le_add {p q k : Int} (hk : 0 ≤ k) (h : p ≤ q + 500000 * k) :
    roundedQuotient p ≤ roundedQuotient q + k := by
  have hp := (roundedQuotient_nearest p).1
  have hq := (roundedQuotient_nearest q).1
  by_contra hlt
  obtain rfl : p = q := by omega
  omega

/-- The drift of a segment in range bounds what the product changes by over a difference of `d` (R22). -/
theorem mul_drift_le {g : Segment} (hg : g.inRange = true) {d : Int} (hd : 0 ≤ d) : -(d * g.drift) ≤ 500000 * d := by
  have hl := ((Segment.inRange_iff g).1 hg).1
  have := mul_le_mul_of_nonneg_left hl hd
  omega

/-- The product and the quotient of a segment in range keep their magnitudes (R27). -/
theorem natAbs_product_le {g : Segment} (hg : g.inRange = true) (raw : Nat) :
    (difference g raw * g.drift).natAbs ≤ 549755813887500000 := by
  obtain ⟨hl, hu⟩ := (Segment.inRange_iff g).1 hg
  have hd : (difference g raw).natAbs ≤ 1099511627775 := natAbs_clampMagnitude_le (m := maxDifference) (by decide) _
  have hdrift : g.drift.natAbs ≤ 500000 := by omega
  rw [Int.natAbs_mul]
  exact Nat.mul_le_mul hd hdrift

/-! ## The clamped sum (R28) -/

/-- The sum rises with the raw time: the difference rises by no more than the raw time, and the drift term falls by no
more than the difference rises. -/
theorem correctionSum_mono {g : Segment} (hg : g.inRange = true) {r r' : Nat} (h : r ≤ r') :
    correctionSum g r ≤ correctionSum g r' := by
  obtain ⟨rises, within⟩ := clampMagnitude_rises (m := maxDifference) (by decide)
    (show (r : Int) - g.anchor ≤ (r' : Int) - g.anchor by omega)
  have product := mul_drift_le hg (Int.sub_nonneg.2 rises)
  have quotient : driftTerm g r ≤ driftTerm g r' + (difference g r' - difference g r) := by
    refine roundedQuotient_le_add (Int.sub_nonneg.2 rises) ?_
    rw [Int.sub_mul] at product
    simp only [difference] at product ⊢
    omega
  simp only [correctionSum]
  simp only [difference] at quotient
  omega

theorem corrected_le_maxTime (g : Segment) (raw : Nat) : corrected g raw ≤ maxTime := by
  simp only [corrected]
  split_ifs <;> omega

theorem corrected_of_neg {g : Segment} {raw : Nat} (h : correctionSum g raw < 0) : corrected g raw = 0 :=
  if_pos h

theorem corrected_of_above {g : Segment} {raw : Nat} (h : (maxTime : Int) < correctionSum g raw) :
    corrected g raw = maxTime := by
  rw [corrected, if_neg (by omega), if_pos h]

theorem corrected_of_within {g : Segment} {raw : Nat} (hl : 0 ≤ correctionSum g raw)
    (hu : correctionSum g raw ≤ (maxTime : Int)) : (corrected g raw : Int) = correctionSum g raw := by
  rw [corrected, if_neg (by omega), if_neg (by omega)]
  exact Int.toNat_of_nonneg hl

theorem corrected_mono {g : Segment} (hg : g.inRange = true) {r r' : Nat} (h : r ≤ r') :
    corrected g r ≤ corrected g r' := by
  have sum := correctionSum_mono hg h
  simp only [corrected]
  split_ifs <;> omega

/-- Settles O19: each step of the correction by its own lemma; the corrected time rises with the raw time since a drift
of at most half a thousandth never outweighs it. -/
theorem correctionFollowsItsSteps : Obligations.CorrectionFollowsItsSteps := by
  refine ⟨fun g raw => ?_, roundedQuotient_nearest, fun g r r' hg h => corrected_mono hg h⟩
  refine ⟨clampMagnitude_of_within, clampMagnitude_of_above, clampMagnitude_of_below (by decide), fun hg => ?_, rfl,
    corrected_of_neg, corrected_of_within, corrected_of_above⟩
  have product := natAbs_product_le hg raw
  refine ⟨product, ?_⟩
  rw [natAbs_roundedQuotient]
  omega

end Sys2Proof.Machine
end

section
/-! SUPPORT. A SEGMENT past its source-state check (R24), and its statement (O28). -/

namespace Sys2Proof.Machine

/-- The reference of the staleness test: the last raw time of a LIVE source, the start bound of an OPEN one (R24). -/
theorem Source.reference_eq {r : Source} {t : Nat}
    (h : r.state = .live ∧ r.lastRaw = some t ∨ r.state = .opened ∧ r.startBound = some t) : r.reference = t := by
  rcases h with ⟨hs, ht⟩ | ⟨hs, ht⟩ <;> simp only [Source.reference, hs, ht, Option.getD_some]

theorem State.takeSegment_stale {s : State} {b : SegmentBody} (ho : (s.source b.source.toNat).isOpen = true)
    (h : b.segment.anchor.toNat ≤ (s.source b.source.toNat).reference) :
    s.takeSegment b = s.withAnswer 6 .refused (some .staleSegment) none := by
  rw [State.takeSegment, State.sourceCheck_open ho]
  exact if_pos h

theorem State.takeSegment_taken {s : State} {b : SegmentBody} (ho : (s.source b.source.toNat).isOpen = true)
    (h : (s.source b.source.toNat).reference < b.segment.anchor.toNat) :
    s.takeSegment b = (s.setSource b.source.toNat { s.source b.source.toNat with
      next := some (segmentOf b.segment) }).withAnswer 6 .taken none none := by
  rw [State.takeSegment, State.sourceCheck_open ho]
  exact if_neg (Nat.not_le.2 h)

/-- Settles O28: the source-state check answers for a source not open, the staleness test for an open one. -/
theorem segmentIsTakenOrStale : Obligations.SegmentIsTakenOrStale := by
  intro s b h hs hn hl hu
  rw [exec_segment_passed h hs hn hl hu]
  refine ⟨fun hc => congrArg _ (State.takeSegment_checked (State.sourceCheck_undeclared hc _)),
    fun hc => congrArg _ (State.takeSegment_checked (State.sourceCheck_ended hc _)), fun reference hr => ?_⟩
  have ho : (s.source b.source.toNat).isOpen = true :=
    (Source.isOpen_iff _).2 (hr.symm.imp And.left And.left)
  obtain rfl := Source.reference_eq hr
  exact ⟨fun hle => congrArg _ (State.takeSegment_stale ho hle),
    fun hlt => ⟨_, congrArg _ (State.takeSegment_taken ho hlt), rfl,
      s.source_setSource_self _ (Nat.lt_succ_of_le hn), fun n hne => s.source_setSource_of_ne _ hne⟩⟩

end Sys2Proof.Machine
end

section
/-! SUPPORT. The merge act with a match (R48 to R54): what a match is, when it is replaced, what replacement and
confirmation write, and the statement (O34). -/

namespace Sys2Proof.Machine

/-! ## The match (R45, R46) -/

/-- A match of the record in intake is of another source (R46). -/
theorem State.source_ne_of_findMatch {s : State} {e : Intake} {x : Candidate} (h : s.findMatch e = some x) :
    x.source ≠ e.key.source := by
  have := List.of_mem_filter (mem_of_nearest h)
  simp only [State.candidateMatches, Bool.and_eq_true, bne_iff_ne] at this
  exact this.1.2

/-- The released candidate is not pending (R45). -/
theorem State.pending_of_releasedCandidate {s : State} {n : Nat} {x : Candidate}
    (h : s.releasedCandidate n = some x) : x.pending = none := by
  unfold State.releasedCandidate at h
  split at h
  · cases h; rfl
  · split at h
    · split at h <;> cases h
      rfl
    · cases h

/-- A pending match has the values of its entry (R45). -/
theorem State.eq_pendingCandidate_of_findMatch {s : State} {e : Intake} {x : Candidate} {p : PendingEntry}
    (h : s.findMatch e = some x) (hp : x.pending = some p) : x = s.pendingCandidate p := by
  rcases List.mem_append.1 (List.mem_of_mem_filter (mem_of_nearest h)) with hr | hq
  · rw [State.pending_of_releasedCandidate (Option.mem_toList.1 hr)] at hp
    cases hp
  · obtain ⟨y, -, rfl⟩ := List.mem_map.1 hq
    cases hp
    rfl

/-! ## Replacement (R50 to R53) -/

/-- The merge replaces an entry not announced, with no copy held or carried, and of worse quality (R50). -/
theorem State.replaces_iff (s : State) (e : Intake) (p : PendingEntry) : s.replaces e p = true ↔
    p.announced = false ∧ e.quality < p.quality ∧
      ∀ c ∈ s.outgoing, c.key = p.key → c.held = false ∧ c.carried = false := by
  simp only [State.replaces, State.copyBars, Bool.and_eq_true, Bool.not_eq_true', decide_eq_true_eq, List.any_eq_false,
    beq_iff_eq, not_and, Bool.or_eq_true, not_or, Bool.not_eq_true]
  exact ⟨fun ⟨⟨ha, hc⟩, hq⟩ => ⟨ha, hq, hc⟩, fun ⟨ha, hq, hc⟩ => ⟨⟨ha, hc⟩, hq⟩⟩

theorem movedCopies_of_absent (e : Intake) {old : Key} {cs : List OutgoingCopy} (h : ∀ c ∈ cs, c.key ≠ old) :
    movedCopies e old cs = cs := by
  have : cs.find? (fun c => c.key == old) = none := List.find?_eq_none.2 fun c hc => by simpa using h c hc
  simp only [movedCopies, this]

/-- The entries of other keys, by either spelling of the test. -/
theorem filter_key_bne {α : Type} (key : α → Key) (k : Key) (xs : List α) :
    (xs.filter fun y => key y != k) = xs.filter fun y => key y ≠ k :=
  List.filter_congr fun y _ => by simp [bne, Bool.beq_eq_decide_eq]

theorem movedCopies_of_found (e : Intake) {old : Key} {cs : List OutgoingCopy} {c : OutgoingCopy}
    (h : cs.find? (fun y => y.key == old) = some c) : movedCopies e old cs =
      insertByKey OutgoingCopy.key { c with key := e.key, quality := e.quality, cause := e.cause }
        (cs.filter fun y => y.key ≠ old) := by
  simp only [movedCopies, h]
  rw [filter_key_bne]

section
variable (s : State) {e : Intake} {p : PendingEntry}

/-- A replacement moves PENDING from the source of the match to that of the record (R53). -/
theorem State.source_replaceMatch_record (he : e.key.source < 32) (hne : p.key.source ≠ e.key.source) :
    (s.replaceMatch e p).source e.key.source = { s.source e.key.source with
      counters := { (s.source e.key.source).counters with
        pending := (s.source e.key.source).counters.pending + 1 } } := by
  simp only [State.replaceMatch, State.source_countSource, he, hne.symm, and_true, if_true, false_and, if_false]
  rfl

theorem State.source_replaceMatch_match (hp : p.key.source < 32) (hne : p.key.source ≠ e.key.source) :
    (s.replaceMatch e p).source p.key.source = { s.source p.key.source with
      counters := { (s.source p.key.source).counters with
        pending := (s.source p.key.source).counters.pending - 1
        merged := satSucc max32 (s.source p.key.source).counters.merged } } := by
  simp only [State.replaceMatch, State.source_countSource, hp, hne, and_true, if_true, false_and, if_false]
  rfl

theorem State.source_replaceMatch_other {n : Nat} (he : n ≠ e.key.source) (hp : n ≠ p.key.source) :
    (s.replaceMatch e p).source n = s.source n := by
  simp only [State.replaceMatch, State.source_countSource, he, hp, false_and, if_false]
  rfl

/-! ## Confirmation and the skew sample (R34, R35, R48, R49, R54) -/

/-- A sample moves the four statistics (R35). -/
theorem SkewStats.record_eq (k : SkewStats) (v : Int) : k.record v = {
    count := if k.count < 65535 then k.count + 1 else k.count
    minimum := if k.count = 0 ∨ v < k.minimum then v else k.minimum
    maximum := if k.count = 0 ∨ k.maximum < v then v else k.maximum
    sum := clampMagnitude maxSkewSum (k.sum + v) } := by
  simp only [SkewStats.record, SkewStats.mk.injEq]
  refine ⟨rfl, ?_, ?_, trivial⟩
  · split_ifs <;> omega
  · split_ifs <;> omega

/-- MERGED of the record's source, and the sample where the match is at least as well kept (R48, R54). -/
theorem State.source_countMerge_record (he : e.key.source < 32) (quality time : Nat) :
    (s.countMerge e quality time).source e.key.source = { s.source e.key.source with
      counters := { (s.source e.key.source).counters with
        merged := satSucc max32 (s.source e.key.source).counters.merged }
      skew := if quality ≤ e.quality then (s.source e.key.source).skew.record (skewSample e.key.time time)
        else (s.source e.key.source).skew } := by
  simp only [State.countMerge]
  split <;> simp only [State.source_setSource, State.source_countSource, he, and_self, if_true]

theorem State.source_countMerge_other {n : Nat} (hn : n ≠ e.key.source) (quality time : Nat) :
    (s.countMerge e quality time).source n = s.source n := by
  simp only [State.countMerge]
  split <;> simp only [State.source_setSource, State.source_countSource, hn, false_and, if_false]

/-- The Pending Queue with the confirmation of a pending match; a released match has none (R48, R49). -/
def Candidate.confirm (x : Candidate) (queue : List PendingEntry) : List PendingEntry :=
  match x.pending with
  | some p => queue.map fun y => if y.key = p.key then { y with confirmations := confirmed y.confirmations } else y
  | none => queue

theorem Candidate.confirm_released {x : Candidate} (h : x.pending = none) (queue : List PendingEntry) :
    x.confirm queue = queue := by
  simp only [Candidate.confirm, h]

theorem Candidate.confirm_pending {x : Candidate} {p : PendingEntry} (h : x.pending = some p)
    (queue : List PendingEntry) : x.confirm queue =
      queue.map fun y => if y.key = p.key then { y with confirmations := confirmed y.confirmations } else y := by
  simp only [Candidate.confirm, h]

/-! ## The merge of the record into its match (R48) -/

variable {x : Candidate}

theorem State.mergeEvent_replaced (hp : x.pending = some p) (hr : s.replaces e p = true) :
    s.mergeEvent e x = (s.replaceMatch e p).placeAnswer (answerMerged kindEvent) := by
  simp only [State.mergeEvent, hp, hr, if_true]

/-- A merge that does not replace confirms the match and counts at the record's source alone. -/
theorem State.mergeEvent_confirmed (h : ∀ p, x.pending = some p → s.replaces e p = false) :
    s.mergeEvent e x = ({ s with
      pendingQueue := x.confirm s.pendingQueue
      sources := (s.countMerge e x.quality x.time).sources } : State).placeAnswer (answerMerged kindEvent) := by
  unfold State.mergeEvent
  cases hp : x.pending with
  | none =>
    simp only [Candidate.confirm_released hp, State.countMerge]
    split <;> rfl
  | some p =>
    simp only [h p hp, Bool.false_eq_true, if_false, Candidate.confirm_pending hp, State.countMerge]
    split <;> rfl

theorem State.mergeAct_matched (h : s.feed.intake = some e) (hm : s.findMatch e = some x) :
    s.mergeAct = (s.mergeEvent e x).settle s := by
  simp only [State.mergeAct, h, hm]

end

/-- After a merge that wrote the two lists and the source table to give `v`, the rest is re-formed. -/
theorem State.settledMerge_spec {s v : State} (hv : v = { s with
      pendingQueue := v.pendingQueue, outgoing := v.outgoing, sources := v.sources }) :
    let t := (v.placeAnswer (answerMerged kindEvent)).settle s
    t = { s.withAnswer 7 .merged none none with
      pendingQueue := t.pendingQueue, outgoing := t.outgoing, sources := t.sources, horizon := t.horizon
      clock := t.clock, attention := t.attention, tx := t.tx } ∧ s.OnlyReformed t := by
  generalize v.pendingQueue = queue, v.outgoing = copies, v.sources = sources at hv
  subst hv
  refine ⟨?_, State.settle_onlyReformed ⟨rfl, rfl, rfl, rfl, rfl, ⟨rfl, rfl⟩, rfl, rfl, rfl, id⟩⟩
  rw [State.settle_pendingQueue, State.settle_outgoing, State.settle_sources]
  exact State.settle_frame _ _

/-- Settles O34: a merge act with a match either replaces it or confirms it; each writes its lists and sources, and the
rest is re-formed. -/
theorem mergeActMerges : Obligations.MergeActMerges := by
  intro s e x hi hm he hx
  have hne := State.source_ne_of_findMatch hm
  let t := (s.mergeEvent e x).settle s
  have act : exec .mergeAct s = .next t := congrArg _ (s.mergeAct_matched hi hm)
  have sources (n : Nat) : t.source n = (s.mergeEvent e x).source n :=
    State.source_congr (State.settle_sources _ _) n
  have queue : t.pendingQueue = (s.mergeEvent e x).pendingQueue := State.settle_pendingQueue _ _
  have copies : t.outgoing = (s.mergeEvent e x).outgoing := State.settle_outgoing _ _
  refine ⟨t, act, ?_⟩
  by_cases hr : ∃ p, x.pending = some p ∧ s.replaces e p = true
  · obtain ⟨p, hp, hr⟩ := hr
    have merged := s.mergeEvent_replaced hp hr
    have hxp := State.eq_pendingCandidate_of_findMatch hm hp
    have hsource : x.source = p.key.source := by rw [hxp]; rfl
    obtain ⟨frame, reformed⟩ := State.settledMerge_spec (s := s) (v := s.replaceMatch e p) rfl
    rw [← merged] at frame reformed
    rw [merged] at sources queue copies
    rw [hsource] at hne hx ⊢
    refine ⟨frame, fun n hn hn' => (sources n).trans (s.source_replaceMatch_other hn hn'), reformed, ?_⟩
    dsimp only
    refine ⟨fun _ q hq => ?_, fun hnot => absurd ⟨p, hp, (s.replaces_iff e p).1 hr⟩ hnot⟩
    obtain rfl : p = q := Option.some.inj (hp.symm.trans hq)
    refine ⟨fun absent => copies.trans (movedCopies_of_absent e absent),
      fun c hc => copies.trans (movedCopies_of_found e hc), queue.trans ?_,
      (sources _).trans (s.source_replaceMatch_record he hne), (sources _).trans (s.source_replaceMatch_match hx hne)⟩
    rw [← filter_key_bne]
    rfl
  · have hnot : ∀ p, x.pending = some p → s.replaces e p = false := fun p hp =>
      Bool.eq_false_iff.2 fun h => hr ⟨p, hp, h⟩
    have merged := s.mergeEvent_confirmed hnot
    obtain ⟨frame, reformed⟩ := State.settledMerge_spec (s := s) (v := { s with
      pendingQueue := x.confirm s.pendingQueue, sources := (s.countMerge e x.quality x.time).sources }) rfl
    rw [← merged] at frame reformed
    rw [merged] at sources queue copies
    have other (n : Nat) (hn : n ≠ e.key.source) : t.source n = s.source n :=
      (sources n).trans (s.source_countMerge_other hn _ _)
    refine ⟨frame, fun n hn _ => other n hn, reformed, ?_⟩
    dsimp only
    refine ⟨fun ⟨p, hp, hrep⟩ => absurd ⟨p, hp, (s.replaces_iff e p).2 hrep⟩ hr,
      fun _ => ⟨copies, fun hn => other _ hn, fun hp => queue.trans (Candidate.confirm_released hp _),
        fun p hp => queue.trans (Candidate.confirm_pending hp _), ?_⟩⟩
    refine (sources _).trans ((s.source_countMerge_record he _ _).trans ?_)
    rw [SkewStats.record_eq]
    rfl

end Sys2Proof.Machine
end

section
/-! SUPPORT. The times a station holds (R33, R94, R95): an act keeps them in range, and within one epoch neither the clock
nor a watermark falls (R30, R95). Here: what that says of an act, and the writes that acts share. -/

namespace Sys2Proof.Machine

/-! ## What the invariant asks of one record -/

/-- An open source's watermark lies in range. -/
def Source.TimesInRange (r : Source) : Prop :=
  ∀ w, r.isOpen = true → r.watermark = some w → w ≤ maxTime

/-- The times that an element keeps lie in range. -/
def Element.TimesInRange (e : Element) : Prop :=
  (∀ l, e.lastRelease = some l → l.time ≤ maxTime) ∧ (∀ w, e.travelStart = some w → w ≤ maxTime) ∧
    ∀ w, e.windowStart = some w → w ≤ maxTime

/-- The change entries that a frame carries lie in range. -/
def Frame.TimesInRange (f : Frame) : Prop := ∀ c ∈ f.changes, c.time ≤ maxTime

/-- The item that started a relabel lies in range. -/
def RelabelCause.TimesInRange (c : RelabelCause) : Prop := ∀ k, c = .item k ∨ c = .late k → k.time ≤ maxTime

/-- The watermark of a source does not fall; END is its highest value (R18, R30). -/
def Source.Rises (r r' : Source) : Prop :=
  ∀ w, r.watermark = some w → w ≤ endTime → ∃ w', r'.watermark = some w' ∧ w ≤ w' ∧ w' ≤ endTime

theorem Source.Rises.of_eq {r r' : Source} (h : r'.watermark = r.watermark) : r.Rises r' :=
  fun w hw hle => ⟨w, h.trans hw, le_rfl, hle⟩

theorem Source.Rises.trans {r r' r'' : Source} (h : r.Rises r') (h' : r'.Rises r'') : r.Rises r'' := by
  intro w hw hle
  obtain ⟨w', hw', le', hle'⟩ := h w hw hle
  obtain ⟨w'', hw'', le'', hle''⟩ := h' w' hw' hle'
  exact ⟨w'', hw'', le'.trans le'', hle''⟩

/-- A source whose watermark is raised to a time (R17, R29, R30). -/
theorem Source.Rises.of_max {r r' : Source} {t : Nat} (h : r'.watermark = some (max (r.watermark.getD 0) t))
    (ht : t ≤ maxTime) : r.Rises r' := by
  intro w hw hle
  refine ⟨_, h, ?_⟩
  simp only [hw, Option.getD_some, maxTime, endTime] at *
  omega

theorem Source.TimesInRange.getD_le {r : Source} (h : r.TimesInRange) (ho : r.isOpen = true) :
    r.watermark.getD 0 ≤ maxTime := by
  cases hw : r.watermark with
  | none => exact Nat.zero_le _
  | some w => exact h w ho hw

theorem State.TimesInRange.source {s : State} (h : s.TimesInRange) (n : Nat) : (s.source n).TimesInRange :=
  h.watermarks n

theorem State.TimesInRange.element {s : State} (h : s.TimesInRange) {n : Nat} {e : Element}
    (he : s.elementAt n = some e) : e.TimesInRange :=
  h.elements n e he

theorem State.TimesInRange.relabelCause {s : State} (h : s.TimesInRange) {r : Relabel}
    (hr : s.islands.relabel = some r) : r.cause.TimesInRange := by
  rintro k (hk | hk)
  · exact h.relabel k r.stage (.inl (by rw [hr, ← hk]))
  · exact h.relabel k r.stage (.inr (by rw [hr, ← hk]))

/-- The least head is an item of one of the lists, so its time lies in range (R109). -/
theorem State.TimesInRange.leastHead {s : State} (h : s.TimesInRange) {i : Item} (hi : s.leastHead = some i) :
    i.key.time ≤ maxTime := by
  rcases (lesserHead_spec hi).1 with hq | hrest
  · obtain ⟨x, hx, rfl⟩ := Option.map_eq_some_iff.1 hq
    exact h.pendingQueue x (List.mem_of_head? hx)
  · rcases (lesserHead_spec hrest).1 with hr | ht
    · obtain ⟨x, hx, rfl⟩ := Option.map_eq_some_iff.1 hr
      exact h.remotes x (List.mem_of_head? hx)
    · obtain ⟨x, hx, rfl⟩ := Option.map_eq_some_iff.1 ht
      exact h.timers x (List.mem_of_head? hx)

/-! ## What an act within one epoch keeps -/

/-- From `s` to `t` neither the clock's integer part nor a watermark falls (R30, R95). -/
structure State.Advances (s t : State) : Prop where
  integer : s.clock.integer ≤ t.clock.integer
  sources : ∀ n, (s.source n).Rises (t.source n)

/-- From `s`, with its times in range, to `t` the epoch stays, the times stay in range, and clock and watermarks do not
fall. -/
structure State.KeepsTime (s t : State) : Prop extends s.Advances t where
  epoch : t.station.epoch = s.station.epoch
  inRange : t.TimesInRange

theorem State.KeepsTime.refl {s : State} (h : s.TimesInRange) : s.KeepsTime s :=
  ⟨⟨le_rfl, fun _ => .of_eq rfl⟩, rfl, h⟩

theorem State.KeepsTime.trans {s t u : State} (k : s.KeepsTime t) (k' : t.KeepsTime u) : s.KeepsTime u :=
  ⟨⟨k.integer.trans k'.integer, fun n => (k.sources n).trans (k'.sources n)⟩, k'.epoch.trans k.epoch, k'.inRange⟩

/-- What `State.KeepsTime` speaks of beside the invariant: the epoch, the clock's integer part and the sources. -/
def State.progress (s : State) : Nat × Nat × Vector Source 32 := (s.station.epoch, s.clock.integer, s.sources)

/-- The parts of the state that the times' invariant speaks of. -/
def State.timeParts (s : State) :=
  (s.progress, s.settings.startTime, s.feed.intake, (s.pendingQueue, s.outgoing, s.remotes, s.timers), s.tx.state,
    s.rx.buffers, s.processing, (s.engine.releasePoint, s.engine.inFlight, s.engine.apply), s.islands.relabel, s.elements,
    s.clock.fraction, s.clock.rate, s.clock.holdAt)

theorem State.TimesInRange.congr {s t : State} (h : s.TimesInRange) (he : t.timeParts = s.timeParts) :
    t.TimesInRange := by
  simp only [State.timeParts, State.progress, Prod.mk.injEq] at he
  obtain ⟨⟨-, integer, sources⟩, startTime, intake, ⟨queue, outgoing, remotes, timers⟩, tx, buffers, processing,
    ⟨point, inFlight, apply⟩, relabel, elements, fraction, rate, holdAt⟩ := he
  constructor
  · rw [startTime]; exact h.startTime
  · intro n; rw [State.source_congr sources]; exact h.watermarks n
  · rw [intake]; exact h.intake
  · rw [queue]; exact h.pendingQueue
  · rw [outgoing]; exact h.outgoing
  · rw [remotes]; exact h.remotes
  · rw [timers]; exact h.timers
  · rw [tx]; exact h.sending
  · rw [buffers]; exact h.buffers
  · rw [processing]; exact h.processing
  · rw [point]; exact h.releasePoint
  · rw [inFlight]; exact h.inFlight
  · rw [apply]; exact h.apply
  · rw [relabel]; exact h.relabel
  · intro n; rw [State.elementAt_congr elements]; exact h.elements n
  · rw [integer]; exact h.integer
  · rw [fraction]; exact h.fraction
  · rw [rate]; exact h.rate
  · rw [holdAt, integer]; exact h.holdAt

/-! ## The writes that acts share, after an act `s` to `t` that keeps the times -/

section
variable {s t u : State}

/-- A write of parts that leaves clock, epoch and sources, and the times in range. -/
theorem State.KeepsTime.write (k : s.KeepsTime t) (h : u.progress = t.progress) (hr : u.TimesInRange) :
    s.KeepsTime u := by
  simp only [State.progress, Prod.mk.injEq] at h
  obtain ⟨epoch, integer, sources⟩ := h
  exact k.trans ⟨⟨integer.ge, fun n => .of_eq (by rw [State.source_congr sources])⟩, epoch, hr⟩

/-- A write of a part that the invariant does not speak of. -/
theorem State.KeepsTime.same (k : s.KeepsTime t) (h : u.timeParts = t.timeParts) : s.KeepsTime u :=
  k.write (congrArg Prod.fst h) (k.inRange.congr h)

theorem State.KeepsTime.report {e : ErrorKind} {x : Option Nat} (k : s.KeepsTime t) : s.KeepsTime (t.report e x) := by
  rw [(t.reported_report e x).frame]
  exact k.same rfl

theorem State.KeepsTime.enqueue {b : RecordBody} (k : s.KeepsTime t) : s.KeepsTime (t.enqueue b) := k.same rfl

theorem State.KeepsTime.toLoading (k : s.KeepsTime t) : s.KeepsTime t.toLoading := k.same rfl

theorem State.KeepsTime.reformLink (k : s.KeepsTime t) : s.KeepsTime t.reformLink := k.same rfl

theorem State.KeepsTime.setPeer {n : Nat} {p : Peer} (k : s.KeepsTime t) : s.KeepsTime (t.setPeer n p) := k.same rfl

theorem State.KeepsTime.updatePeer {n : Nat} {f : Peer → Peer} (k : s.KeepsTime t) : s.KeepsTime (t.updatePeer n f) :=
  k.same rfl

theorem State.KeepsTime.countChange {n : Nat} (k : s.KeepsTime t) : s.KeepsTime (t.countChange n) := k.same rfl

theorem State.KeepsTime.chargePeer {n : Nat} {e : ErrorKind} {x : Nat} (k : s.KeepsTime t) :
    s.KeepsTime (t.chargePeer n e x) :=
  .updatePeer (.report k)

/-- The intake ends with its answer. -/
theorem State.KeepsTime.placeAnswer {a : Answer} (k : s.KeepsTime t) : s.KeepsTime (t.placeAnswer a) :=
  k.write rfl { k.inRange with intake := nofun }

/-- The transmitter stands in a state that carries no frame. -/
theorem State.KeepsTime.transmit {tx : Transmitter} (k : s.KeepsTime t) (h : ∀ f, tx.state ≠ .sending f) :
    s.KeepsTime { t with tx := tx } :=
  k.write rfl { k.inRange with sending := fun f hf => absurd hf (h f) }

theorem State.KeepsTime.wantFrame (k : s.KeepsTime t) : s.KeepsTime t.wantFrame := by
  have frame : t.wantFrame = { t with tx := t.wantFrame.tx } := rfl
  rcases t.wantFrame_tx with h | ⟨-, h⟩ <;> rw [frame, h]
  · exact k
  · exact k.transmit nofun

theorem State.KeepsTime.retimed {b : State} (k : s.KeepsTime t) : s.KeepsTime (t.retimed b) := by
  rw [State.retimed_spec]
  exact k.same rfl

theorem State.KeepsTime.testCompletion {b : State} (k : s.KeepsTime t) : s.KeepsTime (t.testCompletion b) := by
  rw [State.testCompletion_spec]
  split
  · exact k.same rfl
  · exact k

theorem State.KeepsTime.settle {b : State} (k : s.KeepsTime t) : s.KeepsTime (t.settle b) := by
  rw [State.settle_eq]
  exact k.retimed.reformLink.wantFrame

theorem State.KeepsTime.settleComplete {b : State} (k : s.KeepsTime t) : s.KeepsTime (t.settleComplete b) := by
  rw [State.settleComplete_eq]
  exact k.retimed.testCompletion.reformLink.wantFrame

/-- A source written whose watermark does not fall and, where it is open, lies in range. -/
theorem State.KeepsTime.setSource {n : Nat} {r : Source} (k : s.KeepsTime t) (hr : r.TimesInRange)
    (rises : (t.source n).Rises r) : s.KeepsTime (t.setSource n r) := by
  refine k.trans ⟨⟨le_rfl, fun m => ?_⟩, rfl, { k.inRange with watermarks := fun m => ?_ }⟩
  · rw [State.source_setSource]
    split
    · rename_i hm
      exact hm.1 ▸ rises
    · exact .of_eq rfl
  · rw [State.source_setSource]
    split
    · exact hr
    · exact k.inRange.watermarks m

theorem State.KeepsTime.countSource {n : Nat} {f : SourceCounters → SourceCounters} (k : s.KeepsTime t) :
    s.KeepsTime (t.countSource n f) :=
  k.setSource (k.inRange.source n) (.of_eq rfl)

theorem State.KeepsTime.setElement {n : Nat} {e : Element} (k : s.KeepsTime t) (he : e.TimesInRange) :
    s.KeepsTime (t.setElement n e) := by
  refine k.write rfl { k.inRange with elements := fun m x hx => ?_ }
  rw [State.elementAt_setElement] at hx
  split at hx
  · cases hx; exact he
  · exact k.inRange.elements m x hx

theorem mem_of_mem_removeTimer {source n : Nat} {ts : List Key} {k : Key} (h : k ∈ removeTimer source n ts) : k ∈ ts :=
  List.mem_of_mem_filter h

/-- A timer is set in range or not at all (R119). -/
theorem State.KeepsTime.setTimer {source n time : Nat} (k : s.KeepsTime t) : s.KeepsTime (t.setTimer source n time) := by
  have rest (x : Key) (hx : x ∈ removeTimer source n t.timers) : x.time ≤ maxTime :=
    k.inRange.timers x (mem_of_mem_removeTimer hx)
  refine k.write rfl { k.inRange with timers := fun x hx => ?_ }
  simp only [State.setTimer] at hx
  split at hx
  · rcases (mem_insertByKey _ x _).1 hx with rfl | hx
    · assumption
    · exact rest x hx
  · exact rest x hx

theorem State.KeepsTime.cancelTimer {source n : Nat} (k : s.KeepsTime t) : s.KeepsTime (t.cancelTimer source n) :=
  k.write rfl { k.inRange with timers := fun x hx => k.inRange.timers x (mem_of_mem_removeTimer hx) }

/-- The island unit written, with a relabel that an item in range started. -/
theorem State.KeepsTime.setIslands {u : IslandUnit} (k : s.KeepsTime t)
    (hu : ∀ r, u.relabel = some r → r.cause.TimesInRange) : s.KeepsTime { t with islands := u } := by
  refine k.write rfl { k.inRange with relabel := fun x st hx => ?_ }
  rcases hx with hx | hx
  · exact hu _ hx x (.inl rfl)
  · exact hu _ hx x (.inr rfl)

theorem State.KeepsTime.startRelabel {c : RelabelCause} (k : s.KeepsTime t) (hc : c.TimesInRange) :
    s.KeepsTime (t.startRelabel c) :=
  k.setIslands fun r hr => by cases hr; exact hc

/-- A relabel ends, and may end the release or the apply that started it. -/
theorem State.KeepsTime.endRelabel {c : RelabelCause} (k : s.KeepsTime t) : s.KeepsTime (t.endRelabel c) := by
  have ended : s.KeepsTime { t with islands := { t.islands with relabel := none } } :=
    k.setIslands nofun
  cases c with
  | commit => exact ended
  | restart => exact ended
  | late x => exact ended.write rfl { ended.inRange with apply := nofun }
  | item x =>
    refine ended.write rfl { ended.inRange with inFlight := fun r hr => ?_ }
    simp only [State.endRelabel] at hr
    split at hr
    · cases hr
    · exact k.inRange.inFlight r hr

/-- The two lists that merges and frames write. -/
theorem State.KeepsTime.lists {queue : List PendingEntry} {copies : List OutgoingCopy} (k : s.KeepsTime t)
    (hq : ∀ x ∈ queue, x.key.time ≤ maxTime) (hc : ∀ c ∈ copies, c.key.time ≤ maxTime) :
    s.KeepsTime { t with pendingQueue := queue, outgoing := copies } :=
  k.write rfl { k.inRange with pendingQueue := hq, outgoing := hc }

end

end Sys2Proof.Machine
end

section
/-! SUPPORT. The times over the feed records, the start of an epoch and the commands. -/

namespace Sys2Proof.Machine

/-! ## Every act: the times stay in range, and within one epoch they do not fall -/

/-- From `s` to `t` the times stay in range; in service and within one epoch clock and watermarks do not fall. -/
structure State.TimesFollow (s t : State) : Prop where
  inRange : t.TimesInRange
  advances : s.inService = true → t.inService = true → t.station.epoch = s.station.epoch → s.Advances t

theorem State.KeepsTime.follow {s t : State} (k : s.KeepsTime t) : s.TimesFollow t :=
  ⟨k.inRange, fun _ _ _ => k.toAdvances⟩

theorem State.timesFollow_of_not_inService {s t : State} (h : t.TimesInRange) (hs : s.inService = false) :
    s.TimesFollow t :=
  ⟨h, fun hi => absurd hi (Bool.eq_false_iff.1 hs)⟩

/-! ## Settings and description (R10, R13, R147, R148) -/

theorem State.TimesInRange.takeSettings {s : State} (h : s.TimesInRange) {b : SettingsBody}
    (hb : settingsInRange b = true) : (s.takeSettings b).TimesInRange := by
  have startTime := ((settingsInRange_iff b).1 hb).1
  unfold State.takeSettings
  exact { h with startTime := startTime, intake := nofun }

theorem State.TimesInRange.takeDeclare {s : State} (h : s.TimesInRange) (b : DeclareBody) :
    s.KeepsTime (s.takeDeclare b) := by
  unfold State.takeDeclare
  dsimp only
  split
  · exact .placeAnswer (.refl h)
  · exact .placeAnswer (.toLoading (.setSource (.refl h) (fun w ho => by cases ho) (.of_eq rfl)))

theorem State.TimesInRange.takeElement {s : State} (h : s.TimesInRange) (b : ElementBody) :
    s.KeepsTime (s.takeElement b) := by
  unfold State.takeElement
  split
  · exact .placeAnswer (.refl h)
  · exact .placeAnswer (.toLoading (.setElement (.refl h) ⟨nofun, nofun, nofun⟩))

theorem State.TimesInRange.takePoint {s : State} (h : s.TimesInRange) (b : PointBody) :
    s.KeepsTime (s.takePoint b) := by
  unfold State.takePoint
  split
  · exact .placeAnswer (.refl h)
  · exact .placeAnswer (.toLoading (.same (.refl h) rfl))

/-! ## SEGMENT, PROGRESS, END_SOURCE (R17, R18, R24) -/

theorem State.TimesInRange.takeSegment {s : State} (h : s.TimesInRange) (b : SegmentBody) :
    s.KeepsTime (s.takeSegment b) := by
  unfold State.takeSegment
  dsimp only
  split
  · exact .placeAnswer (.refl h)
  · split
    · exact .placeAnswer (.refl h)
    · exact .placeAnswer (.setSource (.refl h) (h.source b.source.toNat) (.of_eq rfl))

theorem State.TimesInRange.takeProgress {s : State} (h : s.TimesInRange) (b : ProgressBody) :
    s.KeepsTime (s.takeProgress b) := by
  unfold State.takeProgress
  dsimp only
  split
  · exact .placeAnswer (.refl h)
  · rename_i hc
    have bound := corrected_le_maxTime (((s.source b.source.toNat).promote b.bound.toNat).segment) b.bound.toNat
    have held := (h.source b.source.toNat).getD_le (State.isOpen_of_sourceCheck hc)
    rw [Source.promote_watermark]
    refine .settle (.placeAnswer (.setSource (.refl h) (fun w _ hw => ?_) (.of_max rfl bound)))
    cases hw
    exact max_le held bound

theorem State.TimesInRange.takeEndSource {s : State} (h : s.TimesInRange) (n : Byte) :
    s.KeepsTime (s.takeEndSource n) := by
  unfold State.takeEndSource
  dsimp only
  split
  · exact .placeAnswer (.refl h)
  · exact .settleComplete (.placeAnswer (.setSource (.refl h) (fun w ho => by cases ho)
      fun w _ hle => ⟨endTime, rfl, hle, le_rfl⟩))

theorem State.TimesInRange.takeMalformed {s : State} (h : s.TimesInRange) (kind : Byte) (received : Nat) :
    s.KeepsTime (s.takeMalformed kind received) :=
  .placeAnswer (.same (.refl h) rfl)

/-! ## EVENT (R7) -/

theorem heldTime_le {r : Source} (h : r.watermark.getD 0 ≤ maxTime) (raw : Nat) : heldTime r raw ≤ maxTime :=
  max_le (corrected_le_maxTime _ _) h

/-- The watermark of an admitted EVENT's source becomes its held time (R29, R30). -/
theorem Source.rises_commitEvent (r : Source) (b : EventBody) (ordinal : Nat) :
    r.Rises ((r.promote b.raw.toNat).commitEvent b ordinal) := by
  refine .of_max (t := corrected (r.promote b.raw.toNat).segment b.raw.toNat) ?_ (corrected_le_maxTime _ _)
  simp only [Source.commitEvent, heldTime, Source.promote_watermark, Nat.max_comm]

theorem State.TimesInRange.admitEvent {s : State} (h : s.TimesInRange) {b : EventBody}
    (ho : (s.source b.source.toNat).isOpen = true) (p : PointEntry) (position : Position) (c : SequenceClass)
    (ordinal : Nat) : s.KeepsTime (s.admitEvent b p position c ordinal) := by
  rw [State.admitEvent_eq, State.eventReports_frame]
  have held : heldTime ((s.source b.source.toNat).promote b.raw.toNat) b.raw.toNat ≤ maxTime := by
    refine heldTime_le ?_ _
    rw [Source.promote_watermark]
    exact (h.source _).getD_le ho
  have written : s.KeepsTime (s.setSource b.source.toNat
      (((s.source b.source.toNat).promote b.raw.toNat).commitEvent b ordinal)) := by
    refine .setSource (.refl h) (fun w _ hw => ?_) (Source.rises_commitEvent _ b ordinal)
    cases hw
    exact held
  refine .settle (written.write rfl { written.inRange with intake := fun e he => ?_ })
  cases he
  exact held

theorem State.TimesInRange.takeEvent {s : State} (h : s.TimesInRange) (b : EventBody) :
    s.KeepsTime (s.takeEvent b) := by
  unfold State.takeEvent
  dsimp only
  split
  · exact .placeAnswer (.refl h)
  · rename_i hc
    have ho := State.isOpen_of_sourceCheck hc
    split
    · exact .placeAnswer (.refl h)
    · rename_i ordinal _
      split
      · exact .placeAnswer (.report (.countSource (.refl h)))
      · rename_i p _
        have admitted (c : SequenceClass) : s.KeepsTime (match s.admission b.source.toNat p.element with
            | some a =>
              (s.countSource b.source.toNat fun k => { k with deferred := satSucc max32 k.deferred }).placeAnswer a
            | none => s.admitEvent b p ((Position.ofReport b.position).getD .bad) c ordinal) := by
          split
          · exact .placeAnswer (.countSource (.refl h))
          · exact h.admitEvent ho p _ c ordinal
        split
        · exact .placeAnswer (.report (.countSource (.refl h)))
        · exact admitted .inOrder
        · exact admitted (.gap _)

/-! ## MERGE_ACT (R55) -/

theorem mem_movedCopies {e : Intake} {old : Key} {cs : List OutgoingCopy} {c : OutgoingCopy}
    (h : c ∈ movedCopies e old cs) : c.key = e.key ∨ c ∈ cs := by
  unfold movedCopies at h
  split at h
  · rcases (mem_insertByKey _ c _).1 h with rfl | h
    · exact .inl rfl
    · exact .inr (List.mem_of_mem_filter h)
  · exact .inr h

theorem State.KeepsTime.countMerge {s t : State} (k : s.KeepsTime t) (e : Intake) (quality time : Nat) :
    s.KeepsTime (t.countMerge e quality time) := by
  have counted : s.KeepsTime (t.countSource e.key.source fun c => { c with merged := satSucc max32 c.merged }) :=
    .countSource k
  simp only [State.countMerge]
  split
  · exact counted.setSource (counted.inRange.source _) (.of_eq rfl)
  · exact counted

section
variable {s : State} (h : s.TimesInRange) {e : Intake} (he : s.feed.intake = some e)
include h

theorem State.TimesInRange.confirmMatch (p : PendingEntry) : s.KeepsTime (s.confirmMatch p) := by
  refine .lists (.refl h) (fun x hx => ?_) h.outgoing
  obtain ⟨y, hy, rfl⟩ := List.mem_map.1 hx
  split <;> exact h.pendingQueue y hy

include he

theorem State.TimesInRange.insertEvent : s.KeepsTime (s.insertEvent e) := by
  have time := h.intake e he
  have lists : s.KeepsTime { s with
      pendingQueue := insertByKey PendingEntry.key e.entry s.pendingQueue
      outgoing := match e.tie with
        | some tie => insertByKey OutgoingCopy.key (e.copy tie) s.outgoing
        | none => s.outgoing } := by
    refine .lists (.refl h) (fun x hx => ?_) fun c hc => ?_
    · rcases (mem_insertByKey _ x _).1 hx with rfl | hx
      · exact time
      · exact h.pendingQueue x hx
    · split at hc
      · rcases (mem_insertByKey _ c _).1 hc with rfl | hc
        · exact time
        · exact h.outgoing c hc
      · exact h.outgoing c hc
  exact .placeAnswer (.countSource lists)

theorem State.TimesInRange.replaceMatch (p : PendingEntry) : s.KeepsTime (s.replaceMatch e p) := by
  have time := h.intake e he
  unfold State.replaceMatch
  refine .countSource (.countSource (.lists (.refl h) (fun x hx => ?_) fun c hc => ?_))
  · rcases (mem_insertByKey _ x _).1 hx with rfl | hx
    · exact time
    · exact h.pendingQueue x (List.mem_of_mem_filter hx)
  · rcases mem_movedCopies hc with hk | hc
    · rw [hk]; exact time
    · exact h.outgoing c hc

theorem State.TimesInRange.mergeEvent (x : Candidate) : s.KeepsTime (s.mergeEvent e x) := by
  unfold State.mergeEvent
  refine .placeAnswer ?_
  split
  · split
    · exact h.replaceMatch he _
    · exact (h.confirmMatch _).countMerge e _ _
  · exact State.KeepsTime.countMerge (.refl h) e _ _

end

theorem State.TimesInRange.mergeAct {s : State} (h : s.TimesInRange) : s.KeepsTime s.mergeAct := by
  unfold State.mergeAct
  split
  · rename_i e he
    split
    · exact .settle (h.insertEvent he)
    · exact .settle (h.mergeEvent he _)
  · exact .refl h

/-! ## The start of an epoch (R150, R153) -/

theorem Source.TimesInRange.epochStart {r : Source} (h : r.TimesInRange) : r.epochStart.TimesInRange := by
  unfold Source.epochStart
  split
  · exact h
  · intro w _ hw
    cases hw
    exact corrected_le_maxTime _ _

theorem Element.timesInRange_epochStart (e : Element) : e.epochStart.TimesInRange := ⟨nofun, nofun, nofun⟩

/-- The parts that commit and RESTART set alike, with a relabel that no item started. -/
theorem State.TimesInRange.epochStart {s : State} (h : s.TimesInRange) {cause : RelabelCause}
    (hc : cause.TimesInRange) : (s.epochStart cause).TimesInRange where
  startTime := h.startTime
  watermarks n := by
    rw [State.source_of_mapIdx (s := s) rfl]
    exact (h.source n).epochStart
  intake := h.intake
  pendingQueue := nofun
  outgoing := nofun
  remotes := nofun
  timers := nofun
  sending := h.sending
  buffers := h.buffers
  processing := nofun
  releasePoint := nofun
  inFlight := fun r hr => by cases hr
  apply := nofun
  relabel k st hk := by rcases hk with hk | hk <;> cases hk; exacts [hc k (.inl rfl), hc k (.inr rfl)]
  elements n e he := by
    rw [State.elementAt_of_mapIdx (s := s) (f := Element.epochStart) rfl, Option.map_eq_some_iff] at he
    obtain ⟨x, -, rfl⟩ := he
    exact x.timesInRange_epochStart
  integer := h.startTime
  fraction := show 0 < 65536 by decide
  rate := h.rate
  holdAt := nofun

theorem State.TimesInRange.restartAct {s : State} (h : s.TimesInRange) (cause : RestartCause) (epoch : Nat) :
    (s.restartAct cause epoch).TimesInRange := by
  have started := h.epochStart (cause := .restart) (by intro k hk; rcases hk with hk | hk <;> cases hk)
  unfold State.restartAct
  refine (State.KeepsTime.settle (.enqueue (.refl ?_))).inRange
  refine { started with intake := fun e he => ?_, sending := fun f hf => ?_, buffers := nofun }
  · rw [FeedPort.restarted_intake] at he
    cases he
  · simp only [Transmitter.restarted] at hf
    split at hf <;> cases hf

theorem State.restartAct_epoch (s : State) (cause : RestartCause) (epoch : Nat) :
    (s.restartAct cause epoch).station.epoch = epoch := by
  simp [State.restartAct]

theorem State.TimesInRange.commitAct {s : State} (h : s.TimesInRange) : s.commitAct.TimesInRange := by
  have started := h.epochStart (cause := .commit) (by intro k hk; rcases hk with hk | hk <;> cases hk)
  unfold State.commitAct
  refine (State.KeepsTime.settle (.placeAnswer (.refl ?_))).inRange
  refine { started with elements := fun n e he => ?_ }
  rw [State.elementAt_of_mapIdx (s := s) (f := fun x => { x.epochStart with watch := .none }) rfl,
    Option.map_eq_some_iff] at he
  obtain ⟨x, -, rfl⟩ := he
  exact x.timesInRange_epochStart

theorem State.timesInRange_powerOnAct (s : State) (straps : BitVec 4) : (s.powerOnAct straps).TimesInRange := by
  have source (n : Nat) : (s.powerOnAct straps).source n = Source.powerOn := by
    simp only [State.source, State.powerOnAct, State.powerOn, Vector.getElem?_replicate]
    split <;> rfl
  have absent (n : Nat) : (s.powerOnAct straps).elementAt n = none := by
    simp only [State.elementAt, State.powerOnAct, State.powerOn, Vector.getElem?_replicate]
    split <;> rfl
  exact {
    startTime := show 0 ≤ maxTime by decide
    watermarks := fun n w _ hw => by rw [source] at hw; cases hw
    intake := nofun
    pendingQueue := nofun
    outgoing := nofun
    remotes := nofun
    timers := nofun
    sending := nofun
    buffers := nofun
    processing := nofun
    releasePoint := nofun
    inFlight := fun r hr => by cases hr
    apply := nofun
    relabel := fun k st hk => by rcases hk with hk | hk <;> cases hk
    elements := fun n e he => by rw [absent] at he; cases he
    integer := show 0 ≤ maxTime by decide
    fraction := show 0 < 65536 by decide
    rate := show 1 ≤ 65536 ∧ 65536 ≤ maxRate by decide
    holdAt := nofun }

/-! ## Commands (R135) -/

/-- From `s` to `t` the times are kept, or a restart began the next epoch. -/
def State.KeepsOrRestarts (s t : State) : Prop :=
  s.KeepsTime t ∨ t.TimesInRange ∧ t.station.epoch = (s.station.epoch + 1) % 256

theorem State.KeepsOrRestarts.inRange {s t : State} (h : s.KeepsOrRestarts t) : t.TimesInRange :=
  h.elim (·.inRange) And.left

theorem State.KeepsOrRestarts.after {s t u : State} (h : t.KeepsOrRestarts u) (k : s.KeepsTime t) :
    s.KeepsOrRestarts u :=
  h.imp k.trans fun ⟨hr, he⟩ => ⟨hr, he.trans (by rw [k.epoch])⟩

theorem State.KeepsOrRestarts.follow {s t : State} (h : s.KeepsOrRestarts t) : s.TimesFollow t := by
  rcases h with k | ⟨hr, he⟩
  · exact k.follow
  · exact ⟨hr, fun _ _ same => by omega⟩

theorem clampedRate_range (n : Nat) : 1 ≤ clampedRate n ∧ clampedRate n ≤ maxRate := by
  unfold clampedRate maxRate
  split_ifs <;> omega

/-- HOLD_AT is accepted for a time above the clock and in range (R103). -/
theorem State.holdAt_of_commandTest {s : State} {n : Byte} {t : BitVec 40} (h : s.commandTest (.holdAt n t) = none) :
    s.clock.integer ≤ t.toNat ∧ t.toNat ≤ maxTime := by
  rw [State.commandTest_spec] at h
  split at h
  · cases h
  · split at h
    · cases h
    · simp only [State.ownTest] at h
      split at h
      · cases h
      · omega

theorem State.TimesInRange.watchAct {s : State} (h : s.TimesInRange) (n : Nat) (m : WatchMark) :
    s.KeepsTime (s.watchAct n m) := by
  unfold State.watchAct
  split
  · rename_i e he
    have := h.element he
    exact .setElement (.refl h) this
  · exact .refl h

theorem State.TimesInRange.commandEffect {s : State} (h : s.TimesInRange) {c : Command}
    (hc : s.commandTest c = none) : s.KeepsOrRestarts (s.commandEffect c) := by
  cases c with
  | start _ =>
    refine .inl (.settle ?_)
    exact .same (.refl h) rfl
  | hold _ =>
    refine .inl (.wantFrame ?_)
    exact .same (.refl h) rfl
  | resume _ =>
    refine .inl (.wantFrame ?_)
    exact .same (.refl h) rfl
  | step _ => exact .inl (.same (.refl h) rfl)
  | setRate _ r => exact .inl (.write (.refl h) rfl { h with rate := clampedRate_range _ })
  | holdAt _ t =>
    refine .inl (.write (.refl h) rfl { h with holdAt := fun u hu => ?_ })
    cases hu
    exact State.holdAt_of_commandTest hc
  | skipOn _ => exact .inl (.same (.refl h) rfl)
  | skipOff _ => exact .inl (.same (.refl h) rfl)
  | watchSet _ _ _ => exact .inl (h.watchAct _ _)
  | watchClear _ _ => exact .inl (h.watchAct _ _)
  | excludePeer _ _ => exact .inl (.settleComplete (.setPeer (.refl h)))
  | includePeer _ _ => exact .inl (.settle (.setPeer (.refl h)))
  | snapshot _ => exact .inl (.same (.refl h) rfl)
  | status _ => exact .inl (.refl h)
  | skew _ => exact .inl (.same (.refl h) rfl)
  | restart _ _ => exact .inr ⟨h.restartAct _ _, s.restartAct_epoch _ _⟩
  | clearFlags _ _ => exact .inl (.same (.refl h) rfl)
  | mask _ _ => exact .inl (.same (.refl h) rfl)
  | malformed _ => exact .inl (.refl h)

theorem State.TimesInRange.decideCommand {s : State} (h : s.TimesInRange) (c : Command) :
    s.KeepsOrRestarts (s.decideCommand c) := by
  have idle : s.KeepsTime { s with console := { s.console with inFlight := none } } := .same (.refl h) rfl
  unfold State.decideCommand
  dsimp only
  split
  · exact .inl (.enqueue idle)
  · rename_i hc
    rcases (idle.inRange.commandEffect hc).after idle with k | ⟨hr, he⟩
    · exact .inl (.enqueue k)
    · exact .inr ⟨(State.KeepsTime.enqueue (.refl hr)).inRange, he⟩

theorem State.TimesInRange.decideWaiting {s : State} (h : s.TimesInRange) : s.KeepsOrRestarts s.decideWaiting := by
  unfold State.decideWaiting
  split
  · split
    · exact h.decideCommand _
    · exact .inl (.refl h)
  · exact .inl (.refl h)

/-- A command waiting is decided after an act that keeps the times. -/
theorem State.KeepsTime.decideWaiting {s t : State} (k : s.KeepsTime t) : s.KeepsOrRestarts t.decideWaiting :=
  k.inRange.decideWaiting.after k

theorem State.TimesInRange.submit {s : State} (h : s.TimesInRange) (c : Command) : s.KeepsOrRestarts (s.submit c) := by
  unfold State.submit
  split
  · refine State.KeepsTime.decideWaiting ?_
    exact .same (.refl h) rfl
  · exact .inl (.refl h)

theorem State.TimesInRange.commandWriteStart {s : State} (h : s.TimesInRange) : s.KeepsTime s.commandWriteStart := by
  unfold State.commandWriteStart
  split
  · exact .report (.refl h)
  · exact .same (.refl h) rfl

/-! ## The feed port -/

theorem State.TimesInRange.feedWriteStart {s : State} (h : s.TimesInRange) : s.KeepsTime s.feedWriteStart := by
  unfold State.feedWriteStart
  split
  · exact .same (.refl h) rfl
  · exact .report (.refl h)

theorem State.TimesInRange.takeCommit {s : State} (h : s.TimesInRange) : s.takeCommit.TimesInRange := by
  unfold State.takeCommit
  split
  · exact (State.KeepsTime.placeAnswer (.refl h)).inRange
  · exact h.commitAct.decideWaiting.inRange

/-- A record's write ends: it is refused or ignored, or handed to its own work (R3, R5). -/
theorem State.TimesInRange.receiveRecord {s : State} (h : s.TimesInRange) (kind : Byte)
    {verdict : Option AnswerReason} {work : State → State} (hw : verdict = none → s.TimesFollow (work s)) :
    s.TimesFollow (s.receiveRecord kind verdict work) := by
  unfold State.receiveRecord
  split
  · split
    · exact (State.KeepsTime.placeAnswer (.refl h)).follow
    · exact hw rfl
  · exact (State.KeepsTime.refl h).follow

theorem State.not_inService_of_acceptsCommit {s : State} (h : s.acceptsCommit = true) : s.inService = false := by
  simp only [State.acceptsCommit, beq_iff_eq] at h
  simp only [State.inService, h]

end Sys2Proof.Machine
end

section
/-! SUPPORT. The times over the link and the peer table: frames built, received and processed. -/

namespace Sys2Proof.Machine

/-! ## The link transmitter (file 04) -/

theorem mem_holdFirst {cs : List OutgoingCopy} {c : OutgoingCopy} (h : c ∈ holdFirst cs) : ∃ d ∈ cs, d.key = c.key := by
  rcases List.mem_append.1 h with h | h
  · obtain ⟨d, hd, rfl⟩ := List.mem_map.1 h
    exact ⟨d, List.mem_of_mem_take hd, rfl⟩
  · exact ⟨c, List.mem_of_mem_drop h, rfl⟩

theorem mem_abandonCopies {cs : List OutgoingCopy} {c : OutgoingCopy} (h : c ∈ abandonCopies cs) :
    ∃ d ∈ cs, d.key = c.key := by
  obtain ⟨d, hd, rfl⟩ := List.mem_map.1 h
  refine ⟨d, hd, ?_⟩
  split <;> rfl

theorem mem_announceEntries {keys : List Key} {xs : List PendingEntry} {x : PendingEntry}
    (h : x ∈ announceEntries keys xs) : ∃ y ∈ xs, y.key = x.key := by
  obtain ⟨y, hy, rfl⟩ := List.mem_map.1 h
  refine ⟨y, hy, ?_⟩
  split <;> rfl

section
variable {s : State} (h : s.TimesInRange)
include h

theorem State.TimesInRange.builtFrame : s.builtFrame.TimesInRange := by
  intro c hc
  obtain ⟨d, hd, rfl⟩ := List.mem_map.1 hc
  exact h.outgoing d (List.mem_of_mem_take hd)

theorem State.TimesInRange.heartbeatAct : s.KeepsTime s.heartbeatAct := by
  unfold State.heartbeatAct
  split
  · exact .transmit (.refl h) nofun
  · exact .refl h

theorem State.TimesInRange.buildFrame (quietBits : Nat) : s.KeepsTime (s.buildFrame quietBits) := by
  unfold State.buildFrame
  split
  · refine .write (.refl h) rfl { h with outgoing := fun c hc => ?_, sending := fun f hf => ?_ }
    · obtain ⟨d, hd, hk⟩ := mem_holdFirst hc
      rw [← hk]
      exact h.outgoing d hd
    · cases hf
      exact h.builtFrame
  · exact .refl h

/-- The frame on the line is abandoned: the transmitter leaves it for a state with no frame (R41). -/
theorem State.TimesInRange.abandon {tx : Transmitter} (ht : ∀ f, tx.state ≠ .sending f) :
    s.KeepsTime { s with outgoing := abandonCopies s.outgoing, tx := tx } := by
  refine .write (.refl h) rfl { h with outgoing := fun c hc => ?_, sending := fun f hf => absurd hf (ht f) }
  obtain ⟨d, hd, hk⟩ := mem_abandonCopies hc
  rw [← hk]
  exact h.outgoing d hd

theorem State.TimesInRange.failFrame {retry : TxState} (hr : ∀ f, retry ≠ .sending f) :
    s.KeepsTime (s.failFrame retry) := by
  unfold State.failFrame
  dsimp only
  split
  · exact .reformLink (.report (h.abandon nofun))
  · exact h.abandon hr

theorem State.TimesInRange.collide (bit : Nat) : s.KeepsTime (s.collide bit) := by
  unfold State.collide
  split
  · split
    · exact h.failFrame nofun
    · exact .refl h
  all_goals exact .refl h

theorem State.TimesInRange.transmitError (bit : Nat) : s.KeepsTime (s.transmitError bit) := by
  unfold State.transmitError
  split
  · split
    · exact h.failFrame nofun
    · exact .refl h
  all_goals exact .refl h

theorem State.TimesInRange.countBackoff (quietBits : Nat) : s.KeepsTime (s.countBackoff quietBits) := by
  unfold State.countBackoff
  split
  · refine .transmit (.refl h) fun f => ?_
    dsimp only
    split <;> exact TxState.noConfusion
  all_goals exact .refl h

theorem State.TimesInRange.expireMute : s.KeepsTime s.expireMute := by
  unfold State.expireMute
  split
  · split
    · exact .reformLink (.transmit (.refl h) nofun)
    · exact .refl h
  all_goals exact .refl h

/-- A frame sent whole frees its copies and announces their entries (R66, R78). -/
theorem State.TimesInRange.frameSent : s.KeepsTime s.frameSent := by
  unfold State.frameSent
  split
  · refine .settleComplete (.write (.refl h) rfl { h with
      pendingQueue := fun x hx => ?_
      outgoing := fun c hc => h.outgoing c (List.mem_of_mem_filter hc)
      sending := nofun })
    obtain ⟨y, hy, hk⟩ := mem_announceEntries hx
    rw [← hk]
    exact h.pendingQueue y hy
  all_goals exact .refl h

/-! ## The link receiver (R71, R156) -/

theorem State.TimesInRange.rejectSync (p : Preamble) (delimiter : Byte) : s.KeepsTime (s.rejectSync p delimiter) := by
  unfold State.rejectSync
  split
  · exact .report (.same (.refl h) rfl)
  · exact .refl h

theorem State.TimesInRange.openFrame (p : Preamble) (delimiter : Byte) : s.KeepsTime (s.openFrame p delimiter) := by
  unfold State.openFrame
  split
  · exact .same (.refl h) rfl
  · exact .refl h

theorem State.TimesInRange.discardFrame (phase : RxPhase) : s.KeepsTime (s.discardFrame phase) :=
  .report (.same (.refl h) rfl)

theorem State.TimesInRange.duplicateStation : s.KeepsTime s.duplicateStation :=
  .reformLink (.report (h.abandon nofun))

theorem State.TimesInRange.placeFrame {f : Frame} (hf : f.TimesInRange) : s.KeepsTime (s.placeFrame f) := by
  unfold State.placeFrame
  split
  · exact .same (.refl h) rfl
  · split
    · refine .write (.refl h) rfl { h with buffers := fun g hg => ?_ }
      rcases List.mem_append.1 hg with hg | hg
      · exact h.buffers g hg
      · cases List.mem_singleton.1 hg
        exact hf
    · exact .report (.same (.refl h) rfl)

end

theorem numberOf_lt (bs : Bits) : numberOf bs < 2 ^ bs.length := by
  induction bs using List.reverseRecOn with
  | nil => exact Nat.one_pos
  | append_singleton bs b ih =>
    have := b.toNat_le
    simp only [numberOf, List.foldl_append, List.foldl_cons, List.foldl_nil, List.length_append, List.length_singleton,
      Nat.pow_succ] at ih ⊢
    omega

theorem fieldAt_lt (bs : Bits) (start len : Nat) : fieldAt bs start len < 2 ^ len :=
  (numberOf_lt _).trans_le (Nat.pow_le_pow_right Nat.two_pos (List.length_take_le _ _))

/-- A frame is good only where its change entries hold times other than END (R156), so times in range. -/
theorem timesInRange_of_receive {bs : Bits} {f : Frame} (h : receive bs = .good f) : f.TimesInRange := by
  have good : f.changes = changesOfBits bs (fieldAt bs 64 4) ∧ f.changes.all ChangeEntry.valueGood = true := by
    unfold receive at h
    dsimp only at h
    split at h
    · cases h
    · split at h
      · cases h
      · split at h
        · cases h
        · split at h
          · cases h
          · split at h
            · cases h
            · split at h
              · cases h
                exact ⟨rfl, ‹_›⟩
              · cases h
  intro c hc
  have value := List.all_eq_true.1 good.2 c hc
  rw [good.1] at hc
  obtain ⟨i, -, rfl⟩ := List.mem_map.1 hc
  have time := fieldAt_lt ((bs.drop (72 + 104 * i)).take 104) 0 40
  simp only [ChangeEntry.valueGood, changeOfBits, Bool.and_eq_true, bne_iff_ne, endTime] at value
  simp only [changeOfBits, maxTime]
  omega

theorem State.TimesInRange.receiveFrame {s : State} (h : s.TimesInRange) (bits : Bits) (own : Bool) :
    s.KeepsTime (s.receiveFrame bits own) := by
  unfold State.receiveFrame
  split
  · split
    · exact h.discardFrame _
    · exact h.discardFrame _
    · rename_i f hf
      have searching : s.KeepsTime { s with rx := { s.rx with phase := .searching } } := .same (.refl h) rfl
      dsimp only
      split
      · exact searching
      · split
        · exact searching.trans searching.inRange.duplicateStation
        · exact searching.trans (searching.inRange.placeFrame (timesInRange_of_receive hf))
  all_goals exact .refl h

/-! ## The peer table (file 05) -/

section
variable {s t : State}

theorem State.KeepsTime.endProcessing (k : s.KeepsTime t) : s.KeepsTime t.endProcessing :=
  k.write rfl { k.inRange with
    processing := nofun, buffers := fun f hf => k.inRange.buffers f (List.mem_of_mem_tail hf) }

theorem State.KeepsTime.takeHorizon (k : s.KeepsTime t) (f : Frame) : s.KeepsTime (t.takeHorizon f) := by
  unfold State.takeHorizon
  split
  · exact .updatePeer k
  · exact .chargePeer k

theorem State.KeepsTime.finishFrame (k : s.KeepsTime t) (f : Frame) (tracked : Bool) :
    s.KeepsTime (t.finishFrame f tracked) :=
  .endProcessing (.updatePeer (k.takeHorizon f))

theorem State.KeepsTime.refuseChanges (k : s.KeepsTime t) (p : Nat) (cs : List ChangeEntry) :
    s.KeepsTime (State.refuseChanges p cs t) := by
  induction cs generalizing t with
  | nil => exact k
  | cons c cs ih => exact ih (.chargePeer k)

/-- A processing stands with its frame, the entries that remain and a LATE change in range. -/
theorem State.KeepsTime.standProcessing (k : s.KeepsTime t) {pr : Processing} (hf : pr.frame.TimesInRange)
    (hr : ∀ c ∈ pr.remaining, c.time ≤ maxTime) (hh : ∀ r, pr.handOver = some r → r.key.time ≤ maxTime) :
    s.KeepsTime { t with processing := some pr } :=
  k.write rfl { k.inRange with processing := fun p hp => by cases hp; exact ⟨hf, hr, hh⟩ }

theorem State.KeepsTime.takeRouted (k : s.KeepsTime t) (f : Frame) {c : ChangeEntry} (hc : c.time ≤ maxTime) (n : Nat) :
    s.KeepsTime (t.takeRouted f c n).state := by
  unfold State.takeRouted
  dsimp only
  split
  · exact k
  · split
    · exact .countChange (t := State.chargePeer _ _ _ _) (.chargePeer k)
    · split
      · exact k
      · split
        · exact .chargePeer (.updatePeer k)
        · refine .countChange (t := { t with remotes := _ }) (k.write rfl { k.inRange with remotes := fun r hr => ?_ })
          rcases (mem_insertByKey _ r _).1 hr with rfl | hr
          · exact hc
          · exact k.inRange.remotes r hr

theorem State.KeepsTime.discardRouted (k : s.KeepsTime t) (p : Nat) (c : ChangeEntry) :
    s.KeepsTime (t.discardRouted p c) := by
  unfold State.discardRouted
  split
  · exact k
  · exact .updatePeer k

theorem State.KeepsTime.takeChange (k : s.KeepsTime t) (f : Frame) (tracked : Bool) {c : ChangeEntry}
    (hc : c.time ≤ maxTime) : s.KeepsTime (t.takeChange f tracked c).state := by
  unfold State.takeChange
  split
  · exact k
  · split
    · exact k
    · exact .chargePeer k
    · split
      · exact .chargePeer k
      · split
        · exact k.discardRouted f.sender c
        · exact k.takeRouted f hc _

end

/-- A change handed over as LATE has the time of its entry (R85). -/
theorem State.time_of_waits {s t : State} {f : Frame} {tracked : Bool} {c : ChangeEntry} {r : RemoteEntry}
    (h : s.takeChange f tracked c = .waits t r) : r.key.time = c.time := by
  unfold State.takeChange at h
  split at h
  · cases h
  · split at h
    · cases h
    · cases h
    · split at h
      · cases h
      · split at h
        · cases h
        · unfold State.takeRouted at h
          dsimp only at h
          split at h
          · cases h
          · split at h
            · cases h; rfl
            · split at h
              · cases h
              · split at h <;> cases h

theorem State.KeepsTime.takeChanges {u : State} {f : Frame} (hf : f.TimesInRange) (tracked : Bool) (n : Nat)
    {cs : List ChangeEntry} (hcs : ∀ c ∈ cs, c.time ≤ maxTime) {s : State} (k : u.KeepsTime s) :
    u.KeepsTime (State.takeChanges f tracked n cs s) := by
  induction n, cs, s using State.takeChanges.induct (f := f) (tracked := tracked) with
  | case1 n s =>
    simp only [State.takeChanges]
    exact k.finishFrame f tracked
  | case2 c cs s => exact k.standProcessing hf hcs nofun
  | case3 n c cs s t ht ih =>
    have step := k.takeChange f tracked (hcs c List.mem_cons_self)
    rw [ht] at step
    simp only [State.takeChanges, ht]
    exact ih (fun d hd => hcs d (List.mem_cons_of_mem c hd)) step
  | case4 n c cs s t r ht =>
    have step := k.takeChange f tracked (hcs c List.mem_cons_self)
    rw [ht] at step
    simp only [State.takeChanges, ht]
    refine .standProcessing step hf (fun d hd => hcs d (List.mem_cons_of_mem c hd)) fun q hq => ?_
    cases hq
    rw [State.time_of_waits ht]
    exact hcs c List.mem_cons_self
  | case5 n c cs s t ht =>
    have step := k.takeChange f tracked (hcs c List.mem_cons_self)
    rw [ht] at step
    simp only [State.takeChanges, ht]
    exact .endProcessing step

theorem State.KeepsTime.acceptFrame {s t : State} (k : s.KeepsTime t) {f : Frame} (hf : f.TimesInRange)
    (entries : Nat) : s.KeepsTime (t.acceptFrame f entries) := by
  have gapped (u : Peer → Peer) : s.KeepsTime
      (((t.updatePeer f.sender u).chargePeer f.sender .frameGap f.sender).endProcessing) :=
    .endProcessing (.chargePeer (.updatePeer k))
  have taken (tracked : Bool) (u : Peer → Peer) : s.KeepsTime
      (State.takeChanges f tracked entries f.changes (t.updatePeer f.sender u)) :=
    .takeChanges hf tracked entries hf (.updatePeer k)
  unfold State.acceptFrame
  dsimp only
  split
  · exact .endProcessing (.updatePeer k)
  iterate 4
    split
    · exact gapped _
    · exact taken false _
  · exact .endProcessing (.updatePeer k)
  · exact taken true _
  · split
    · exact .endProcessing (.refuseChanges (.updatePeer k) _ _)
    · exact .endProcessing (.updatePeer k)

/-- A restart followed begins an epoch at most 127 ahead (R82), so that a RESTART decided after it in the same act does
not lead back to the epoch before. -/
theorem State.epoch_ne_of_follows {s : State} {f : Frame} (h : s.follows f = true) :
    (f.epoch + 1) % 256 ≠ s.station.epoch := by
  simp only [State.follows, Bool.and_eq_true, decide_eq_true_eq] at h
  obtain ⟨⟨-, ahead⟩, near⟩ := h
  simp only [frameDistance] at ahead near
  omega

theorem State.TimesInRange.beginFrame {s : State} (h : s.TimesInRange) {f : Frame} (hf : f.TimesInRange)
    (entries : Nat) : s.TimesFollow (s.beginFrame f entries) := by
  have counted : s.KeepsTime (s.countFrame f.sender) := .updatePeer (.refl h)
  unfold State.beginFrame
  dsimp only
  split
  · exact (State.KeepsTime.decideWaiting (.settleComplete (counted.acceptFrame hf entries))).follow
  · rename_i hne
    split
    · rename_i hfollows
      have restarted := counted.inRange.restartAct (.peer f.sender) f.epoch
      have epoch := (s.countFrame f.sender).restartAct_epoch (.peer f.sender) f.epoch
      have back := State.epoch_ne_of_follows hfollows
      rw [counted.epoch] at hne back
      refine ⟨restarted.decideWaiting.inRange, fun _ _ same => ?_⟩
      rcases restarted.decideWaiting with k | ⟨-, he⟩
      · exact absurd ((k.epoch.trans epoch).symm.trans same) hne
      · rw [epoch] at he
        exact absurd (he.symm.trans same) back
    · exact (State.KeepsTime.decideWaiting (.settleComplete (.endProcessing (.updatePeer counted)))).follow

theorem State.TimesInRange.processFrame {s : State} (h : s.TimesInRange) (entries : Nat) :
    s.TimesFollow (s.processFrame entries) := by
  unfold State.processFrame
  split
  · rename_i pr hpr
    obtain ⟨hf, hr, -⟩ := h.processing pr hpr
    split
    · exact (State.KeepsTime.decideWaiting (.settleComplete (.takeChanges hf _ _ hr (.refl h)))).follow
    · exact (State.KeepsTime.refl h).follow
  · split
    · exact (State.KeepsTime.refl h).follow
    · rename_i f fs hb
      split
      · exact h.beginFrame (h.buffers f (hb ▸ List.mem_cons_self)) entries
      · exact (State.KeepsTime.refl h).follow

theorem State.TimesInRange.silencePeer {s : State} (h : s.TimesInRange) (n : Nat) : s.KeepsTime (s.silencePeer n) := by
  unfold State.silencePeer
  split
  · split
    · exact .reformLink (.updatePeer (.refl h))
    · exact .refl h
  · exact .refl h

end Sys2Proof.Machine
end

section
/-! SUPPORT. The times over delivery, islands, the release engine and the clock. -/

namespace Sys2Proof.Machine

/-! ## Delivery (R133), islands (file 08) and SNAPSHOT (R122) -/

section
variable {s : State} (h : s.TimesInRange)
include h

theorem State.TimesInRange.beginRecord : s.KeepsOrRestarts s.beginRecord := by
  unfold State.beginRecord
  split
  · exact .inl (.refl h)
  · split
    · refine State.KeepsTime.decideWaiting ?_
      exact .same (.refl h) rfl
    · exact .inl (.refl h)

theorem State.TimesInRange.queueHoldState : s.KeepsTime s.queueHoldState := by
  unfold State.queueHoldState
  split
  · exact .same (.refl h) rfl
  · exact .refl h

theorem State.TimesInRange.queueComplete : s.KeepsTime s.queueComplete := by
  unfold State.queueComplete
  split
  · exact .same (.refl h) rfl
  · exact .refl h

theorem State.TimesInRange.emitSkew : s.KeepsTime s.emitSkew := by
  unfold State.emitSkew
  split
  · exact .refl h
  · split
    · exact .refl h
    · split
      · exact .same (.refl h) rfl
      · exact .refl h

theorem State.TimesInRange.computeRelabel : s.KeepsTime s.computeRelabel := by
  unfold State.computeRelabel
  split
  · exact .refl h
  · rename_i r hr
    split
    · exact .refl h
    · dsimp only
      have started := h.relabelCause hr
      have cause (labels : Vector Nat 128) (islands uncertain : Nat) (stage : RelabelStage) :
          s.KeepsTime { s with islands := ⟨labels, islands, uncertain, some ⟨r.cause, stage⟩⟩ } := by
        refine .setIslands (.refl h) fun x hx => ?_
        obtain rfl := Option.some.inj hx
        exact started
      split
      · exact .settleComplete (.endRelabel (cause _ _ _ r.stage))
      · exact cause _ _ _ _

theorem State.TimesInRange.emitIslands : s.KeepsTime s.emitIslands := by
  unfold State.emitIslands
  split
  · exact .refl h
  · split
    · exact .refl h
    · split
      · exact .settleComplete (.endRelabel (.enqueue (.refl h)))
      · exact .refl h

theorem State.TimesInRange.beginEmission : s.KeepsTime s.beginEmission := by
  unfold State.beginEmission
  split
  · exact .same (.refl h) rfl
  · exact .refl h

theorem State.TimesInRange.emitElement : s.KeepsTime s.emitElement := by
  unfold State.emitElement
  split
  · exact .refl h
  · exact .refl h
  · split
    · exact .refl h
    · split
      · exact .same (.refl h) rfl
      · exact .refl h

theorem State.TimesInRange.emitLabels : s.KeepsTime s.emitLabels := by
  unfold State.emitLabels
  split
  · exact .refl h
  · exact .refl h
  · split
    · exact .same (.refl h) rfl
    · exact .refl h

end

/-! ## Writes of the clock (R95, R102, R103) -/

/-- The clock written: it does not fall, lies in range, and has not passed the hold-at time. -/
theorem State.KeepsTime.setClock {s t : State} (k : s.KeepsTime t) {c : Clock} (rises : t.clock.integer ≤ c.integer)
    (integer : c.integer ≤ maxTime) (fraction : c.fraction < 65536) (rate : c.rate = t.clock.rate)
    (holdAt : ∀ x, c.holdAt = some x → c.integer ≤ x ∧ x ≤ maxTime) : s.KeepsTime { t with clock := c } :=
  k.trans ⟨⟨rises, fun _ => .of_eq rfl⟩, rfl, { k.inRange with
    integer := integer, fraction := fraction, rate := rate ▸ k.inRange.rate, holdAt := holdAt }⟩

theorem State.KeepsTime.setBreak {s t : State} (k : s.KeepsTime t) : s.KeepsTime t.setBreak := k.same rfl

/-- A removal completes an armed step: the clock rises to the item, and a hold-at time reached is taken (R102, R103). -/
theorem State.KeepsTime.completeStep {s t : State} (k : s.KeepsTime t) {time : Nat} (h : time ≤ maxTime) :
    s.KeepsTime (t.completeStep time) := by
  have now : max t.clock.integer time ≤ maxTime := max_le k.inRange.integer h
  have zero : 0 < 65536 := by decide
  unfold State.completeStep
  split
  · dsimp only
    split
    · rename_i x hx
      split
      · exact .setBreak (.setClock k (le_max_left _ _) now zero rfl nofun)
      · rename_i above
        refine .setClock k (le_max_left _ _) now zero rfl fun y hy => ?_
        obtain rfl : x = y := Option.some.inj (hx.symm.trans hy)
        exact ⟨(Nat.not_le.1 above).le, (k.inRange.holdAt x hx).2⟩
    · rename_i hx
      exact .setClock k (le_max_left _ _) now zero rfl fun y hy => by cases hx.symm.trans hy
  · exact k

/-! ## Release (R110 to R121) -/

/-- An element with a new last release in range (R111). -/
theorem Element.TimesInRange.released {e : Element} (he : e.TimesInRange) {l : LastRelease} (hl : l.time ≤ maxTime) :
    ({ e with lastRelease := some l } : Element).TimesInRange :=
  ⟨fun x hx => by cases hx; exact hl, he.2⟩

section
variable {s t : State} (k : s.KeepsTime t)
include k

theorem State.KeepsTime.dropHead (i : Item) : s.KeepsTime (t.dropHead i) := by
  have h := k.inRange
  cases i with
  | own _ => exact k.write rfl { h with pendingQueue := fun x hx => h.pendingQueue x (List.mem_of_mem_tail hx) }
  | remote _ => exact k.write rfl { h with remotes := fun x hx => h.remotes x (List.mem_of_mem_tail hx) }
  | timer _ => exact k.write rfl { h with timers := fun x hx => h.timers x (List.mem_of_mem_tail hx) }

theorem State.KeepsTime.setReleasePoint {key : Key} (h : key.time ≤ maxTime) :
    s.KeepsTime { t with engine := { t.engine with releasePoint := some key } } :=
  k.write rfl { k.inRange with releasePoint := fun x hx => by cases hx; exact h }

theorem State.KeepsTime.setInFlight {r : Option ReleaseInFlight} (h : ∀ x, r = some x → x.item.key.time ≤ maxTime) :
    s.KeepsTime { t with engine := { t.engine with inFlight := r } } :=
  k.write rfl { k.inRange with inFlight := h }

theorem State.KeepsTime.handleTravel (n : Nat) {e : Element} (he : e.TimesInRange) (prev : Position) {time : Nat}
    (h : time ≤ maxTime) : s.KeepsTime (t.handleTravel n e prev time).1 := by
  obtain ⟨last, start, window⟩ := he
  unfold State.handleTravel
  split
  · exact k
  · split
    · split
      · exact .setTimer (.setElement k ⟨last, fun w hw => by cases hw; exact h, window⟩)
      · exact k
    · split
      · split
        · exact .cancelTimer (.setElement k ⟨last, nofun, window⟩)
        · exact .setElement k ⟨last, start, window⟩
      · split
        · exact .cancelTimer (.setElement k ⟨last, nofun, window⟩)
        · exact k

theorem State.KeepsTime.handleChatter (n : Nat) {e : Element} (he : e.TimesInRange) {time : Nat}
    (h : time ≤ maxTime) : s.KeepsTime (t.handleChatter n e time).1 := by
  obtain ⟨last, start, window⟩ := he
  have counted {x : Element} (hx : x.TimesInRange) : s.KeepsTime
      (if x.windowCount = t.settings.chatterN then
        ((t.setElement n { x with chatter := .chattering }).setTimer quietSource n
          (time + t.settings.chatterQ * 1000), true, false)
      else (t.setElement n x, false, false)).1 := by
    split
    · exact .setTimer (.setElement k hx)
    · exact .setElement k hx
  unfold State.handleChatter
  split
  · exact .setTimer (.setElement k ⟨last, start, window⟩)
  · split
    · exact k
    · refine counted ?_
      have restarted : ({ e with windowStart := some time, windowCount := 1 } : Element).TimesInRange :=
        ⟨last, start, fun w hw => by cases hw; exact h⟩
      split_ifs
      · exact restarted
      · exact ⟨last, start, window⟩

theorem State.KeepsTime.finishRecords {r : ReleaseInFlight} (hr : r.item.key.time ≤ maxTime) :
    s.KeepsTime (t.finishRecords r) := by
  refine k.setInFlight fun x hx => ?_
  split at hx <;> cases hx
  exact hr

theorem State.KeepsTime.afterRecord {r : ReleaseInFlight} (hr : r.item.key.time ≤ maxTime) :
    s.KeepsTime (t.afterRecord r) := by
  unfold State.afterRecord
  split
  · exact k.finishRecords hr
  · exact k.setInFlight fun x hx => by cases hx; exact hr

theorem State.KeepsTime.enterFlight {i : Item} (hi : i.key.time ≤ maxTime) (record : Option RecordBody)
    (relabels : Bool) : s.KeepsTime (t.enterFlight i record relabels) := by
  have started : s.KeepsTime (if relabels = true then t.startRelabel (.item i.key) else t) := by
    split
    · exact k.startRelabel fun x hx => by rcases hx with hx | hx <;> cases hx; exact hi
    · exact k
  unfold State.enterFlight
  dsimp only
  split
  · exact started.setInFlight fun x hx => by cases hx; exact hi
  · exact started.afterRecord hi

theorem State.KeepsTime.applyOwn {x : PendingEntry} (hx : x.key.time ≤ maxTime) {e : Element}
    (he : e.TimesInRange) : s.KeepsTime (t.applyOwn x e).state := by
  have released : ({ e with
      current := x.position, lastRelease := some ⟨x.key.time, x.key.source, x.position⟩ } : Element).TimesInRange :=
    he.released hx
  have counted : s.KeepsTime ((t.setElement x.element { e with
      current := x.position, lastRelease := some ⟨x.key.time, x.key.source, x.position⟩ }).countSource x.key.source
      fun k => { k with released := satSucc max32 k.released, pending := k.pending - 1 }) :=
    .countSource (.setElement k released)
  unfold State.applyOwn
  dsimp only
  split
  · exact counted
  · have travelled := counted.handleTravel x.element released e.current hx
    refine travelled.handleChatter x.element ?_ hx
    cases hel : State.elementAt _ x.element with
    | none => exact released
    | some y => exact travelled.inRange.element hel

theorem State.KeepsTime.releaseOwn {x : PendingEntry} (hx : x.key.time ≤ maxTime) : s.KeepsTime (t.releaseOwn x) := by
  unfold State.releaseOwn
  split
  · exact k
  · rename_i e he
    have applied := k.applyOwn hx (k.inRange.element he)
    exact applied.enterFlight (i := .own x) hx _ _

theorem State.KeepsTime.writeRemote {r : RemoteEntry} (hr : r.key.time ≤ maxTime) {e : Element} (he : e.TimesInRange) :
    s.KeepsTime (t.writeRemote r e) :=
  k.setElement (he.released hr)

theorem State.KeepsTime.releaseRemote {r : RemoteEntry} (hr : r.key.time ≤ maxTime) :
    s.KeepsTime (t.releaseRemote r) := by
  unfold State.releaseRemote
  split
  · exact k
  · rename_i e he
    have written := k.writeRemote hr (k.inRange.element he)
    exact written.enterFlight (i := .remote r) hr _ _

theorem State.KeepsTime.releaseTravel {key : Key} (hk : key.time ≤ maxTime) : s.KeepsTime (t.releaseTravel key) := by
  unfold State.releaseTravel
  split
  · exact k
  · rename_i e he
    have released := (k.inRange.element he).released (l := ⟨key.time, travelSource, .intermediate⟩) hk
    refine State.KeepsTime.enterFlight (i := .timer key) (.setElement k ?_) hk _ _
    exact released

theorem State.KeepsTime.releaseQuiet {key : Key} (hk : key.time ≤ maxTime) : s.KeepsTime (t.releaseQuiet key) := by
  unfold State.releaseQuiet
  split
  · exact k
  · rename_i e he
    obtain ⟨last, start, -⟩ := (k.inRange.element he).released (l := ⟨key.time, quietSource, e.current⟩) hk
    refine State.KeepsTime.enterFlight (i := .timer key) (.setElement k ?_) hk _ _
    exact ⟨last, start, nofun⟩

theorem State.KeepsTime.releaseItem {i : Item} (hi : i.key.time ≤ maxTime) : s.KeepsTime (t.releaseItem i) := by
  cases i with
  | own x => exact k.releaseOwn hi
  | remote r => exact k.releaseRemote hi
  | timer key =>
    unfold State.releaseItem
    dsimp only
    split
    · exact k.releaseTravel hi
    · exact k.releaseQuiet hi

end

section
variable {s : State} (h : s.TimesInRange)
include h

theorem State.TimesInRange.releaseAct : s.KeepsTime s.releaseAct := by
  unfold State.releaseAct
  split
  · exact .refl h
  · rename_i i hi
    have time := h.leastHead hi
    split
    · have removed := (State.KeepsTime.dropHead (.refl h) i).setReleasePoint time
      exact ((removed.completeStep time).releaseItem time).settleComplete
    · exact .refl h

theorem State.TimesInRange.queueReleaseRecord : s.KeepsTime s.queueReleaseRecord := by
  unfold State.queueReleaseRecord
  split
  · exact .refl h
  · rename_i r hr
    have time : r.item.key.time ≤ maxTime := h.inFlight r hr
    split
    · split
      · exact .settleComplete (State.KeepsTime.afterRecord (.enqueue (.refl h)) time)
      · refine .settleComplete (State.KeepsTime.finishRecords ?_ time)
        exact .same (.refl h) rfl
      · exact .refl h
    · exact .refl h

/-! ## The apply step (R114) -/

theorem State.TimesInRange.handOver {r : RemoteEntry} (hr : s.handOver = some r) : r.key.time ≤ maxTime := by
  obtain ⟨pr, hp, hh⟩ := Option.bind_eq_some_iff.1 hr
  exact (h.processing pr hp).2.2 r hh

theorem State.TimesInRange.takeHandOver : s.KeepsTime s.takeHandOver := by
  refine .write (.refl h) rfl { h with processing := fun pr hp => ?_ }
  obtain ⟨q, hq, rfl⟩ := Option.map_eq_some_iff.1 hp
  obtain ⟨frame, remaining, -⟩ := h.processing q hq
  exact ⟨frame, remaining, nofun⟩

theorem State.TimesInRange.lateApply : s.KeepsTime s.lateApply := by
  unfold State.lateApply
  split
  · exact .refl h
  · rename_i r hr
    have time := h.handOver hr
    split
    · have taken := h.takeHandOver
      split
      · exact taken
      · rename_i e he
        have written : s.KeepsTime
            ((s.takeHandOver.writeRemote r e).enqueue (.remote (remoteRecord r e.current true))) :=
          .enqueue (taken.writeRemote time (h.element he))
        dsimp only
        split
        · refine .settleComplete (.startRelabel (written.write rfl { written.inRange with
            apply := fun x hx => ?_ }) ?_)
          · cases hx
            exact time
          · rintro k (hk | hk) <;> cases hk
            exact time
        · exact .settleComplete written
    · exact .refl h

/-! ## The clock (R95, R103, R105) -/

/-- A hold-at time is reached by a clock that stood below it (R103). -/
theorem State.TimesInRange.reachHoldAt {t : Nat} (ht : s.clock.holdAt = some t) : s.KeepsTime (s.reachHoldAt t) := by
  obtain ⟨below, range⟩ := h.holdAt t ht
  exact .setBreak (.setClock (.refl h) below range (show 0 < 65536 by decide) rfl nofun)

/-- An advance that does not pass the hold-at time (R95). -/
theorem State.TimesInRange.plainAdvance (ht : ∀ t, s.clock.holdAt = some t → s.clock.advanced ≤ t) :
    s.KeepsTime s.plainAdvance := by
  have rises : s.clock.integer ≤ s.clock.advanced := Nat.le_add_right _ _
  refine .setClock (.refl h) (le_min rises h.integer) (min_le_right _ _) ?_ rfl fun t hh =>
    ⟨(min_le_left _ _).trans (ht t hh), (h.holdAt t hh).2⟩
  dsimp only
  split
  · decide
  · exact Nat.mod_lt _ (by decide)

theorem State.TimesInRange.advanceClock : s.KeepsTime s.advanceClock := by
  unfold State.advanceClock
  split
  · exact .refl h
  · split
    · rename_i t ht
      split
      · exact h.reachHoldAt ht
      · rename_i hn
        refine h.plainAdvance fun x hx => ?_
        obtain rfl : t = x := Option.some.inj (ht.symm.trans hx)
        omega
    · rename_i ht
      exact h.plainAdvance fun x hx => by cases ht.symm.trans hx

/-- A skip jump goes forward, to a target not above the least head (R105). -/
theorem State.TimesInRange.skipTarget {target : Nat} (ht : s.skipTarget = some target) :
    s.clock.integer ≤ target ∧ target ≤ maxTime := by
  unfold State.skipTarget at ht
  split at ht
  · rename_i t hhead
    obtain ⟨i, hi, rfl⟩ := Option.map_eq_some_iff.1 hhead
    have time := h.leastHead hi
    split at ht <;> cases ht
    omega
  · cases ht

theorem State.TimesInRange.jumpTo {target : Nat} (rises : s.clock.integer ≤ target) (range : target ≤ maxTime) :
    s.KeepsTime (s.jumpTo target) := by
  have zero : 0 < 65536 := by decide
  unfold State.jumpTo
  dsimp only
  split
  · rename_i t ht
    split
    · exact h.reachHoldAt ht
    · rename_i above
      refine .setClock (.refl h) rises range zero rfl fun x hx => ?_
      obtain rfl : t = x := Option.some.inj (ht.symm.trans hx)
      exact ⟨Nat.not_lt.1 above, (h.holdAt t ht).2⟩
  · rename_i ht
    exact .setClock (.refl h) rises range zero rfl fun x hx => by cases ht.symm.trans hx

theorem State.TimesInRange.skipTest : s.KeepsTime s.skipTest := by
  unfold State.skipTest
  split
  · split
    · rename_i target ht
      obtain ⟨rises, range⟩ := h.skipTarget ht
      exact h.jumpTo rises range
    · exact .refl h
  · exact .refl h

theorem State.TimesInRange.clockAct : s.KeepsTime s.clockAct := by
  unfold State.clockAct
  split
  · exact h.advanceClock.trans h.advanceClock.inRange.skipTest
  · exact .refl h

/-- The timers count; a frame on the line stays as it is (R67, R139). -/
theorem State.TimesInRange.countTime : s.KeepsTime s.countTime := by
  refine .write (.refl h) rfl { h with sending := fun f hf => h.sending f ?_ }
  cases hs : s.tx.state with
  | sending g => simpa only [State.countTime, hs, TxState.tick] using hf
  | muted expiry => cases expiry <;> simp [State.countTime, hs, TxState.tick] at hf
  | idle => simp [State.countTime, hs, TxState.tick] at hf
  | waiting => simp [State.countTime, hs, TxState.tick] at hf
  | backoff n => simp [State.countTime, hs, TxState.tick] at hf

theorem State.TimesInRange.tick : s.KeepsTime s.tick := by
  have acted := h.countTime.trans h.countTime.inRange.clockAct
  unfold State.tick
  dsimp only
  rw [State.testLag_spec]
  exact acted.same rfl

theorem State.TimesInRange.stallAct : s.KeepsTime s.stallAct := by
  unfold State.stallAct
  split
  · split
    · exact .same (.refl h) rfl
    · exact .refl h
  · exact .refl h

end

end Sys2Proof.Machine
end

section
/-! SUPPORT. The times over every step (O6, O14). -/

namespace Sys2Proof.Machine

/-- Every command keeps the times in range, and within one epoch clock and watermarks do not fall. -/
theorem State.TimesInRange.exec {s t : State} (h : s.TimesInRange) {i : Instr} (he : Machine.exec i s = .next t) :
    s.TimesFollow t := by
  have next {u : State} (hu : Machine.exec i s = .next u) (follow : s.TimesFollow u) : s.TimesFollow t := by
    rw [hu] at he
    cases he
    exact follow
  have kept {u : State} (hu : Machine.exec i s = .next u) (k : s.KeepsTime u) : s.TimesFollow t := next hu k.follow
  cases i with
  | powerOnReset straps =>
    exact next rfl ⟨s.timesInRange_powerOnAct straps, fun _ ht => by cases ht⟩
  | feedWriteStart => exact kept rfl h.feedWriteStart
  | stationSettings f b =>
    exact next rfl (h.receiveRecord kindSettings fun hv =>
      State.timesFollow_of_not_inService (h.takeSettings (screen_eq_none.1 hv).2.2)
        (State.not_inService_of_acceptsDescription (accepted_of_screen hv)))
  | declareSource f b => exact next rfl (h.receiveRecord kindDeclare fun _ => (h.takeDeclare b).follow)
  | element f b => exact next rfl (h.receiveRecord kindElement fun _ => (h.takeElement b).follow)
  | point f b => exact next rfl (h.receiveRecord kindPoint fun _ => (h.takePoint b).follow)
  | commit f =>
    exact next rfl (h.receiveRecord kindCommit fun hv =>
      State.timesFollow_of_not_inService h.takeCommit (State.not_inService_of_acceptsCommit (accepted_of_screen hv)))
  | segment f b => exact next rfl (h.receiveRecord kindSegment fun _ => (h.takeSegment b).follow)
  | event f b => exact next rfl (h.receiveRecord kindEvent fun _ => (h.takeEvent b).follow)
  | progress f b => exact next rfl (h.receiveRecord kindProgress fun _ => (h.takeProgress b).follow)
  | endSource f n => exact next rfl (h.receiveRecord kindEndSource fun _ => (h.takeEndSource n).follow)
  | malformedFeedRecord kind n => exact next rfl (h.receiveRecord kind fun _ => (h.takeMalformed kind n).follow)
  | mergeAct => exact kept rfl h.mergeAct
  | commandWriteStart => exact kept rfl h.commandWriteStart
  | start n => exact next rfl (h.submit _).follow
  | hold n => exact next rfl (h.submit _).follow
  | resume n => exact next rfl (h.submit _).follow
  | step n => exact next rfl (h.submit _).follow
  | setRate n r => exact next rfl (h.submit _).follow
  | holdAt n w => exact next rfl (h.submit _).follow
  | skipOn n => exact next rfl (h.submit _).follow
  | skipOff n => exact next rfl (h.submit _).follow
  | watchSet n e k => exact next rfl (h.submit _).follow
  | watchClear n e => exact next rfl (h.submit _).follow
  | excludePeer n p => exact next rfl (h.submit _).follow
  | includePeer n p => exact next rfl (h.submit _).follow
  | snapshot n => exact next rfl (h.submit _).follow
  | status n => exact next rfl (h.submit _).follow
  | skew n => exact next rfl (h.submit _).follow
  | restart n b => exact next rfl (h.submit _).follow
  | clearFlags n f => exact next rfl (h.submit _).follow
  | mask n m => exact next rfl (h.submit _).follow
  | malformedCommand k => exact next rfl (h.submit _).follow
  | consoleReadyAssert => exact kept rfl (.same (.refl h) rfl)
  | consoleReadyWithdraw => exact kept rfl (.same (.refl h) rfl)
  | deliveryRecordBegin => exact next rfl h.beginRecord.follow
  | deliveryRecordEnd => exact kept rfl (.same (.refl h) rfl)
  | heartbeat => exact kept rfl h.heartbeatAct
  | frameBuild q => exact kept rfl (h.buildFrame q)
  | collision bit => exact kept rfl (h.collide bit)
  | transmitError bit => exact kept rfl (h.transmitError bit)
  | frameSentWhole => exact kept rfl h.frameSent
  | backoffDone q => exact kept rfl (h.countBackoff q)
  | muteExpiry => exact kept rfl h.expireMute
  | syncReject p d => exact kept rfl (h.rejectSync p d)
  | frameOpened p d => exact kept rfl (h.openFrame p d)
  | frameReceive bits own => exact kept rfl (h.receiveFrame bits own)
  | frameProcessing n => exact next rfl (h.processFrame n)
  | peerSilenceTimeout p => exact kept rfl (h.silencePeer p.toNat)
  | release => exact kept rfl h.releaseAct
  | releaseRecordQueue => exact kept rfl h.queueReleaseRecord
  | lateApply => exact kept rfl h.lateApply
  | relabelComputed => exact kept rfl h.computeRelabel
  | islandsEmit => exact kept rfl h.emitIslands
  | snapshotEmitting => exact kept rfl h.beginEmission
  | elementState => exact kept rfl h.emitElement
  | nodeLabels => exact kept rfl h.emitLabels
  | skewRecord => exact kept rfl h.emitSkew
  | holdState => exact kept rfl h.queueHoldState
  | completeRecord => exact kept rfl h.queueComplete
  | clockAdvance => exact kept rfl h.tick
  | stallTimeout => exact kept rfl h.stallAct

/-- Every step keeps the times in range, and within one epoch clock and watermarks do not fall. -/
theorem State.TimesInRange.step {s t : State} (h : s.TimesInRange) (hstep : Machine.step s = .next t) :
    s.TimesFollow t := by
  rcases step_next hstep with ⟨-, rfl⟩ | ⟨i, rest, -, hi⟩
  · exact (State.KeepsTime.refl h).follow
  · have popped : s.KeepsTime { s with pending := rest } := .same (.refl h) rfl
    obtain ⟨range, advances⟩ := popped.inRange.exec hi
    refine ⟨range, fun hs ht he => ?_⟩
    obtain ⟨integer, sources⟩ := advances hs ht he
    exact ⟨integer, sources⟩

/-- Settles O6: every act writes times that lie in range wherever those it reads do. -/
theorem timesStayInRange : Obligations.TimesStayInRange := fun _ _ h hstep => (h.step hstep).inRange

/-- Settles O14: an act that stays within the epoch raises watermarks and clock or leaves them, and one that restarts
ends in another epoch, also where a frame's restart and a RESTART waiting are taken in one act. -/
theorem clockAndWatermarksNeverDecrease : Obligations.ClockAndWatermarksNeverDecrease := by
  intro s t h hstep hs ht he
  obtain ⟨integer, sources⟩ := (h.step hstep).advances hs ht he
  refine ⟨integer, fun n w hw hle => ?_⟩
  obtain ⟨w', hw', hle', -⟩ := sources n w hw hle
  exact ⟨w', hw', hle'⟩

end Sys2Proof.Machine
end

section
/-! SUPPORT. What an act can do to the lists (files 01, 03 to 05, 07): the relation `State.ListMoves`, which says of every
act but the removal by RELEASE how it leaves the Pending Queue, the outgoing change set, the Remote Change List, the timer
list, the record in intake and the release point, with what the invariants of these lists rest on. Here: the relation. -/

namespace Sys2Proof.Machine

/-! ## Acts that leave the lists -/

/-- A source that is open after an act was open before it, and its watermark did not fall (R30, R75). -/
def Source.BoundRises (r r' : Source) : Prop :=
  r'.isOpen = true → r.isOpen = true ∧ ∀ w, r.watermark = some w → ∃ w', r'.watermark = some w' ∧ w ≤ w'

theorem Source.BoundRises.refl (r : Source) : r.BoundRises r := fun h => ⟨h, fun w hw => ⟨w, hw, le_rfl⟩⟩

theorem Source.BoundRises.trans {r r' r'' : Source} (h : r.BoundRises r') (h' : r'.BoundRises r'') :
    r.BoundRises r'' := by
  intro ho
  obtain ⟨ho', rise'⟩ := h' ho
  obtain ⟨ho, rise⟩ := h ho'
  refine ⟨ho, fun w hw => ?_⟩
  obtain ⟨w', hw', le⟩ := rise w hw
  obtain ⟨w'', hw'', le'⟩ := rise' w' hw'
  exact ⟨w'', hw'', le.trans le'⟩

/-- A source written with its state and its watermark as they were. -/
theorem Source.boundRises_of_eq {r r' : Source} (hs : r'.state = r.state) (hw : r'.watermark = r.watermark) :
    r.BoundRises r' := by
  intro ho
  refine ⟨by simpa only [Source.isOpen, hs] using ho, fun w h => ⟨w, hw.trans h, le_rfl⟩⟩

/-- Every open source has a watermark (R8, R75). -/
def State.Marked (s : State) : Prop := ∀ n, (s.source n).isOpen = true → (s.source n).watermark.isSome = true

/-- From `s` to `t` the buffers that stand beside the lists stay within their capacities (R13, R72, R134), and the quiet
time of the settings stays above 0 (R147). -/
structure State.RoomKept (s t : State) : Prop where
  points : s.points.length ≤ pointCapacity → t.points.length ≤ pointCapacity
  delivery : s.delivery.queue.length ≤ deliveryCapacity → t.delivery.queue.length ≤ deliveryCapacity
  buffers : s.rx.buffers.length ≤ bufferCount → t.rx.buffers.length ≤ bufferCount
  quiet : 1 ≤ s.settings.chatterQ → 1 ≤ t.settings.chatterQ

theorem State.RoomKept.refl (s : State) : s.RoomKept s := ⟨id, id, id, id⟩

theorem State.RoomKept.trans {s t u : State} (h : s.RoomKept t) (h' : t.RoomKept u) : s.RoomKept u :=
  ⟨h'.points ∘ h.points, h'.delivery ∘ h.delivery, h'.buffers ∘ h.buffers, h'.quiet ∘ h.quiet⟩

/-- From `s` to `t` the lists, the release point, the ordinals and the frame on the line stay as they are; no record enters
intake, no open source's watermark falls, and LW stays or is re-formed. -/
structure State.ListsKept (s t : State) : Prop extends s.RoomKept t where
  pendingQueue : t.pendingQueue = s.pendingQueue
  outgoing : t.outgoing = s.outgoing
  remotes : t.remotes = s.remotes
  timers : t.timers = s.timers
  releasePoint : t.engine.releasePoint = s.engine.releasePoint
  intake : t.feed.intake = none ∨ t.feed.intake = s.feed.intake
  ordinals : ∀ n, (t.source n).nextOrdinal = (s.source n).nextOrdinal
  sources : ∀ n, (s.source n).BoundRises (t.source n)
  commit : t.beforeCommit = true → s.beforeCommit = true
  lw : t.horizon.lw = s.horizon.lw ∨ t.horizon.lw = t.localWatermark
  sending : ∀ f, t.tx.state = .sending f ↔ s.tx.state = .sending f

/-- The parts of the state that `State.ListsKept` speaks of. -/
def State.listParts (s : State) :=
  (s.pendingQueue, s.outgoing, s.remotes, s.timers, s.engine.releasePoint, s.feed.intake, s.sources, s.station.state,
    s.horizon.lw, s.tx.state, s.points, s.delivery.queue, s.rx.buffers, s.settings.chatterQ)

theorem State.beforeCommit_congr {s t : State} (h : t.station.state = s.station.state) :
    t.beforeCommit = s.beforeCommit := by
  simp only [State.beforeCommit, h]

/-- Nothing of these parts was written. -/
theorem State.listsKept_of_parts {s t : State} (h : t.listParts = s.listParts) : s.ListsKept t := by
  simp only [State.listParts, Prod.mk.injEq] at h
  obtain ⟨queue, copies, remotes, timers, point, intake, sources, state, lw, tx, points, delivery, buffers, quiet⟩ := h
  exact {
    points := by rw [points]; exact id
    delivery := by rw [delivery]; exact id
    buffers := by rw [buffers]; exact id
    quiet := by rw [quiet]; exact id
    pendingQueue := queue
    outgoing := copies
    remotes := remotes
    timers := timers
    releasePoint := point
    intake := .inr intake
    ordinals := fun n => by rw [State.source_congr sources]
    sources := fun n => by rw [State.source_congr sources]; exact .refl _
    commit := by rw [State.beforeCommit_congr state]; exact id
    lw := .inl lw
    sending := fun f => by rw [tx] }

theorem State.ListsKept.refl (s : State) : s.ListsKept s := State.listsKept_of_parts rfl

/-! ## LW -/

theorem le_leastBound_iff (m : Nat) (bs : List Nat) : m ≤ leastBound bs ↔ m ≤ endTime ∧ ∀ b ∈ bs, m ≤ b := by
  induction bs with
  | nil => simp [leastBound]
  | cons b bs ih =>
    have cons : leastBound (b :: bs) = min b (leastBound bs) := rfl
    rw [cons, Nat.le_min, ih, List.forall_mem_cons]
    tauto

/-- A source of the table is read by its number. -/
theorem State.exists_source_of_mem {s : State} {r : Source} (h : r ∈ s.sources.toList) : ∃ n, s.source n = r := by
  obtain ⟨n, hn, rfl⟩ := List.getElem_of_mem h
  have hn : n < 32 := by simpa using hn
  exact ⟨n, by simp [State.source, hn]⟩

/-- LW is at most every open source's watermark (R75). -/
theorem State.localWatermark_le {s : State} {n w : Nat} (ho : (s.source n).isOpen = true)
    (hw : (s.source n).watermark = some w) : s.localWatermark ≤ w := by
  have hn : n < 32 := by
    by_contra hn
    rw [State.source_of_ge s (Nat.not_lt.1 hn)] at ho
    cases ho
  have mem : s.source n ∈ s.sources.toList := by
    have : s.source n = s.sources[n] := by simp [State.source, hn]
    rw [this, Vector.mem_toList_iff]
    exact Vector.getElem_mem hn
  have bound : (s.source n).bound = some w := by rw [Source.bound, if_pos ho, hw]
  unfold State.localWatermark
  split
  · exact Nat.zero_le w
  · exact ((le_leastBound_iff _ _).1 le_rfl).2 w (List.mem_filterMap.2 ⟨_, mem, bound⟩)

/-- LW does not fall where no open source's watermark does and no source opens (R30, R75). -/
theorem State.localWatermark_mono {s t : State} (hm : s.Marked) (hc : t.beforeCommit = true → s.beforeCommit = true)
    (hr : ∀ n, (s.source n).BoundRises (t.source n)) : s.localWatermark ≤ t.localWatermark := by
  by_cases hs : s.beforeCommit = true
  · simp only [State.localWatermark, hs, if_true, Nat.zero_le]
  · have ht : t.localWatermark = leastBound (t.sources.toList.filterMap Source.bound) :=
      if_neg fun h => hs (hc h)
    have hend : s.localWatermark ≤ endTime := by
      unfold State.localWatermark
      rw [if_neg hs]
      exact ((le_leastBound_iff _ _).1 le_rfl).1
    rw [ht, le_leastBound_iff]
    refine ⟨hend, fun w' hw' => ?_⟩
    obtain ⟨r, hmem, hbound⟩ := List.mem_filterMap.1 hw'
    obtain ⟨n, rfl⟩ := State.exists_source_of_mem hmem
    unfold Source.bound at hbound
    split at hbound
    · rename_i ho'
      obtain ⟨ho, rises⟩ := hr n ho'
      obtain ⟨w, hw⟩ := Option.isSome_iff_exists.1 (hm n ho)
      obtain ⟨x, hx, le⟩ := rises w hw
      obtain rfl : x = w' := Option.some.inj (hx.symm.trans hbound)
      exact (State.localWatermark_le ho hw).trans le
    · cases hbound

theorem State.Marked.kept {s t : State} (hm : s.Marked) (hr : ∀ n, (s.source n).BoundRises (t.source n)) :
    t.Marked := by
  intro n ho'
  obtain ⟨ho, rises⟩ := hr n ho'
  obtain ⟨w, hw⟩ := Option.isSome_iff_exists.1 (hm n ho)
  obtain ⟨w', hw', -⟩ := rises w hw
  rw [hw']
  rfl

/-! ## Acts that move the lists -/

/-- From `s` to `t` an epoch ended: no list holds anything, there is no release point, no record is in intake, and no frame
is on the line, provided that none was before the first commit (R68, R146, R150, R153). -/
structure State.Emptied (s t : State) : Prop extends s.RoomKept t where
  pendingQueue : t.pendingQueue = []
  outgoing : t.outgoing = []
  remotes : t.remotes = []
  timers : t.timers = []
  releasePoint : t.engine.releasePoint = none
  intake : t.feed.intake = none
  ordinals : ∀ n, (t.source n).nextOrdinal = (s.source n).nextOrdinal ∨ (t.source n).nextOrdinal = some 0
  marked : t.Marked
  sending : (s.beforeCommit = true → ∀ f, s.tx.state ≠ .sending f) → ∀ f, t.tx.state ≠ .sending f

/-- The outgoing change set after the insertion of a record (R40). -/
def Intake.copied (e : Intake) (cs : List OutgoingCopy) : List OutgoingCopy :=
  e.tie.elim cs fun tie => insertByKey OutgoingCopy.key (e.copy tie) cs

/-- An EVENT of source `n` was admitted as the record `e` (R7): it takes the source's next ordinal, its time is the
source's watermark, which did not fall, and the admission test found the places it needs (R16, R20, R30). -/
structure State.Admits (s : State) (n : Nat) (r : Source) (e : Intake) : Prop where
  number : n < 32
  source : e.key.source = n
  ordinal : (s.source n).nextOrdinal = some e.key.ordinal
  next : r.nextOrdinal = nextOrdinalAfter e.key.ordinal
  opened : (s.source n).isOpen = true
  rises : (s.source n).BoundRises r
  live : r.isOpen = true
  watermark : r.watermark = some e.key.time
  room : s.pendingQueue.length < pendingCapacity
  roomForCopy : e.tie.isSome = true → s.outgoing.length < outgoingCapacity

/-- How an act moves the lists, write by write, where it removes no item for release. -/
inductive State.ListMoves : State → State → Prop where
  | kept {s t : State} (k : s.ListsKept t) : ListMoves s t
  | trans {s t u : State} (m : ListMoves s t) (m' : ListMoves t u) : ListMoves s u
  | emptied {s t : State} (k : s.Emptied t) : ListMoves s t
  /-- Entries rewritten but for their keys (R49, R78). -/
  | rewritten {s : State} (f : PendingEntry → PendingEntry) (hf : ∀ x, (f x).key = x.key) :
    ListMoves s { s with pendingQueue := s.pendingQueue.map f }
  | admitted {s : State} {n : Nat} {r : Source} {e : Intake} (h : s.Admits n r e) :
    ListMoves s { s.setSource n r with feed := { s.feed with intake := some e } }
  /-- The record in intake is inserted (R39, R40). -/
  | inserted {s : State} {e : Intake} (he : s.feed.intake = some e) :
    ListMoves s { s with
      pendingQueue := insertByKey PendingEntry.key e.entry s.pendingQueue
      outgoing := e.copied s.outgoing
      feed := { s.feed with intake := none } }
  /-- The record in intake replaces the entry `x`, whose copy no frame on the line holds (R50 to R52). -/
  | replaced {s : State} {e : Intake} {x : PendingEntry} (he : s.feed.intake = some e)
    (free : ∀ c ∈ s.outgoing, c.key = x.key → c.held = false) :
    ListMoves s { s with
      pendingQueue := insertByKey PendingEntry.key (replacement e x) (s.pendingQueue.filter fun y => y.key != x.key)
      outgoing := movedCopies e x.key s.outgoing
      feed := { s.feed with intake := none } }
  /-- A frame is built and carries the first copies (R62). -/
  | carried {s : State} (hw : s.tx.state = .waiting) (hs : s.inService = true) :
    ListMoves s { s with outgoing := holdFirst s.outgoing, tx := { s.tx with state := .sending s.builtFrame } }
  /-- The frame on the line is abandoned (R41). -/
  | abandoned {s : State} {tx : Transmitter} (ht : ∀ f, tx.state ≠ .sending f) :
    ListMoves s { s with outgoing := abandonCopies s.outgoing, tx := tx }
  /-- The frame on the line has been sent whole and its copies are freed (R66, R78). -/
  | freed {s : State} {tx : Transmitter} (ht : ∀ f, tx.state ≠ .sending f) :
    ListMoves s { s with outgoing := s.outgoing.filter fun c => !c.held, tx := tx }
  /-- A remote change is listed that is not late, nor listed already (R85, R86). -/
  | listed {s : State} {r : RemoteEntry} (fresh : ∀ x ∈ s.remotes, x.key ≠ r.key)
    (room : s.remotes.length < remoteCapacity) (onTime : ∀ k, s.engine.releasePoint = some k → r.key.lt k = false) :
    ListMoves s { s with remotes := insertByKey RemoteEntry.key r s.remotes }
  /-- A timer of an element is set ahead of the release point (R115, R117, R119). -/
  | timerSet {s : State} {source n time : Nat} (kind : source = travelSource ∨ source = quietSource) (hn : n < 256)
    (later : 1 ≤ s.settings.chatterQ → ∀ k, s.engine.releasePoint = some k → k.time < time) :
    ListMoves s (s.setTimer source n time)
  | timerCancelled {s : State} (source n : Nat) : ListMoves s (s.cancelTimer source n)

theorem State.ListMoves.refl (s : State) : s.ListMoves s := .kept (.refl s)

/-- An act that moves the lists and removes no item leaves the release point or, with the epoch, ends it (R110, R150). -/
theorem State.ListMoves.releasePoint {s t : State} (m : s.ListMoves t) :
    t.engine.releasePoint = s.engine.releasePoint ∨ t.engine.releasePoint = none := by
  induction m with
  | kept k => exact .inl k.releasePoint
  | trans _ _ ih ih' =>
    rcases ih' with h' | h'
    · rw [h']; exact ih
    · exact .inr h'
  | emptied k => exact .inr k.releasePoint
  | _ => exact .inl rfl

end Sys2Proof.Machine
end

section
/-! SUPPORT. What the moves of the lists keep: the key order and fresh ordinals (O4), the capacities (O5), the held copies
(O9), and what lies above the release point (O12). -/

namespace Sys2Proof.Machine

/-! ## Key order and ordinals (R16, R39) -/

theorem Key.ne_of_not_sameRecord {a b : Key} (h : ¬ a.sameRecord b) : a ≠ b := by
  rintro rfl
  exact h ⟨rfl, rfl⟩

theorem mem_copied {e : Intake} {cs : List OutgoingCopy} {c : OutgoingCopy} (h : c ∈ e.copied cs) :
    c.key = e.key ∨ c ∈ cs := by
  unfold Intake.copied at h
  cases ht : e.tie with
  | none => rw [ht] at h; exact .inr h
  | some tie =>
    rw [ht] at h
    rcases (mem_insertByKey _ c _).1 h with rfl | h
    · exact .inl rfl
    · exact .inr h

theorem KeySorted.copied {e : Intake} {cs : List OutgoingCopy} (h : KeySorted OutgoingCopy.key cs)
    (fresh : ∀ c ∈ cs, c.key ≠ e.key) : KeySorted OutgoingCopy.key (e.copied cs) := by
  unfold Intake.copied
  cases e.tie with
  | none => exact h
  | some tie => exact h.insert fresh

theorem KeySorted.movedCopies {e : Intake} {old : Key} {cs : List OutgoingCopy} (h : KeySorted OutgoingCopy.key cs)
    (fresh : ∀ c ∈ cs, c.key ≠ e.key) : KeySorted OutgoingCopy.key (movedCopies e old cs) := by
  unfold Machine.movedCopies
  split
  · exact (h.filter _).insert fun c hc => fresh c (List.mem_of_mem_filter hc)
  · exact h

theorem map_key_holdFirst (cs : List OutgoingCopy) :
    (holdFirst cs).map OutgoingCopy.key = cs.map OutgoingCopy.key := by
  have held : ((cs.take frameEntries).map fun c => { c with held := true }).map OutgoingCopy.key =
      (cs.take frameEntries).map OutgoingCopy.key := by
    rw [List.map_map]
    rfl
  rw [holdFirst, List.map_append, held, ← List.map_append, List.take_append_drop]

theorem KeySorted.holdFirst {cs : List OutgoingCopy} (h : KeySorted OutgoingCopy.key cs) :
    KeySorted OutgoingCopy.key (holdFirst cs) := by
  unfold KeySorted at *
  rw [← List.pairwise_map (f := OutgoingCopy.key) (R := fun a b => a.lt b = true)] at *
  rwa [map_key_holdFirst]

theorem KeySorted.abandonCopies {cs : List OutgoingCopy} (h : KeySorted OutgoingCopy.key cs) :
    KeySorted OutgoingCopy.key (abandonCopies cs) :=
  h.map _ fun c => by split <;> rfl

/-- A timer set takes the place of the one of its kind on its element (R119). -/
theorem not_sameRecord_of_mem_removeTimer {source n : Nat} {ts : List Key} {k x : Key}
    (h : k ∈ removeTimer source n ts) (hs : x.source = source) (hn : x.ordinal = n) : ¬ k.sameRecord x := by
  have := (List.mem_filter.1 h).2
  rintro ⟨hs', hn'⟩
  simp [hs', hn', hs, hn] at this

/-- The lists are in order and no ordinal is used twice. -/
structure State.Ordered (s : State) : Prop where
  sorted : s.ListsSorted
  fresh : s.OrdinalsFresh

theorem State.nextOrdinalBound_congr {s t : State} {n : Nat} (h : (t.source n).nextOrdinal = (s.source n).nextOrdinal) :
    t.nextOrdinalBound n = s.nextOrdinalBound n := by
  simp only [State.nextOrdinalBound, h]

theorem State.Ordered.kept {s t : State} (h : s.Ordered) (k : s.ListsKept t) : t.Ordered := by
  obtain ⟨⟨queue, copies, remotes, timers⟩, next, queueFresh, copiesFresh, intake⟩ := h
  have assigned (x : Key) : t.assigned x ↔ s.assigned x := by
    simp only [State.assigned, State.nextOrdinalBound_congr (k.ordinals _)]
  refine ⟨⟨?_, ?_, ?_, ?_⟩, fun n o ho => ?_, fun x hx => ?_, fun c hc => ?_, fun e he => ?_⟩
  · rw [k.pendingQueue]; exact queue
  · rw [k.outgoing]; exact copies
  · rw [k.remotes]; exact remotes
  · rw [k.timers]; exact timers
  · exact next n o (k.ordinals n ▸ ho)
  · exact (assigned _).2 (queueFresh x (k.pendingQueue ▸ hx))
  · exact (assigned _).2 (copiesFresh c (k.outgoing ▸ hc))
  · rcases k.intake with hi | hi
    · cases hi.symm.trans he
    · rw [k.pendingQueue, k.outgoing, assigned]
      exact intake e (hi ▸ he)

theorem State.Ordered.emptied {s t : State} (h : s.Ordered) (k : s.Emptied t) : t.Ordered := by
  refine ⟨⟨?_, ?_, ?_, ?_⟩, fun n o ho => ?_, fun x hx => ?_, fun c hc => ?_, fun e he => ?_⟩
  · rw [k.pendingQueue]; exact .nil
  · rw [k.outgoing]; exact .nil
  · rw [k.remotes]; exact .nil
  · rw [k.timers]; exact .nil
  · rcases k.ordinals n with hn | hn
    · exact h.fresh.next n o (hn ▸ ho)
    · cases hn.symm.trans ho
      exact Nat.zero_le _
  · rw [k.pendingQueue] at hx; cases hx
  · rw [k.outgoing] at hc; cases hc
  · cases k.intake.symm.trans he

/-- Once an ordinal is given out, it and those below it have been assigned (R16). -/
theorem nextOrdinalAfter_bound {o : Nat} (h : o ≤ max32) : o < (nextOrdinalAfter o).getD 4294967296 := by
  unfold nextOrdinalAfter
  unfold max32 at *
  split_ifs <;> simp only [Option.getD_some, Option.getD_none] <;> omega

theorem le_max32_of_nextOrdinalAfter {o o' : Nat} (h : nextOrdinalAfter o = some o') : o' ≤ max32 := by
  unfold nextOrdinalAfter at h
  split at h <;> cases h
  omega

theorem State.Ordered.admitted {s : State} (h : s.Ordered) {n : Nat} {r : Source} {e : Intake} (a : s.Admits n r e) :
    ({ s.setSource n r with feed := { s.feed with intake := some e } } : State).Ordered := by
  obtain ⟨sorted, next, queueFresh, copiesFresh, -⟩ := h
  set t : State := { s.setSource n r with feed := { s.feed with intake := some e } } with ht
  have source (m : Nat) : t.source m = if m = n then r else s.source m := by
    rw [ht]
    refine (s.source_setSource n m r).trans ?_
    simp only [a.number, and_true]
  have bound : s.nextOrdinalBound n = e.key.ordinal := by
    simp only [State.nextOrdinalBound, a.ordinal, Option.getD_some]
  have above : e.key.ordinal < t.nextOrdinalBound n := by
    simp only [State.nextOrdinalBound, source, if_true, a.next]
    exact nextOrdinalAfter_bound (next n _ a.ordinal)
  have assigned (x : Key) (hx : s.assigned x) : t.assigned x := by
    unfold State.assigned at *
    by_cases hn : x.source = n
    · rw [hn, bound] at hx
      rw [hn]
      omega
    · rwa [State.nextOrdinalBound, source, if_neg hn]
  have other (x : Key) (hx : s.assigned x) : ¬ x.sameRecord e.key := by
    rintro ⟨hs, ho⟩
    unfold State.assigned at hx
    rw [hs, a.source, bound] at hx
    omega
  refine ⟨⟨sorted.pendingQueue, sorted.outgoing, sorted.remotes, sorted.timers⟩, fun m o ho => ?_,
    fun x hx => assigned _ (queueFresh x hx), fun c hc => assigned _ (copiesFresh c hc), fun e' he' => ?_⟩
  · rw [source] at ho
    split at ho
    · exact le_max32_of_nextOrdinalAfter (a.next.symm.trans ho)
    · exact next m o ho
  · cases he'
    refine ⟨?_, fun x hx => other _ (queueFresh x hx), fun c hc => other _ (copiesFresh c hc)⟩
    unfold State.assigned
    rw [a.source]
    exact above

/-- The lists rewritten, with keys of entries and copies held before or of the record in intake, which ends. -/
theorem State.Ordered.answered {s : State} (h : s.Ordered) {e : Intake} (he : s.feed.intake = some e)
    {queue : List PendingEntry} {copies : List OutgoingCopy} (hq : KeySorted PendingEntry.key queue)
    (hc : KeySorted OutgoingCopy.key copies) (queued : ∀ x ∈ queue, x.key = e.key ∨ x ∈ s.pendingQueue)
    (copied : ∀ c ∈ copies, c.key = e.key ∨ c ∈ s.outgoing) :
    ({ s with pendingQueue := queue, outgoing := copies, feed := { s.feed with intake := none } } : State).Ordered := by
  obtain ⟨assigned, -, -⟩ := h.fresh.intake e he
  refine ⟨⟨hq, hc, h.sorted.remotes, h.sorted.timers⟩, h.fresh.next, fun x hx => ?_, fun c hx => ?_, nofun⟩
  · rcases queued x hx with hk | hx
    · exact hk ▸ assigned
    · exact h.fresh.pendingQueue x hx
  · rcases copied c hx with hk | hx
    · exact hk ▸ assigned
    · exact h.fresh.outgoing c hx

/-- The outgoing copies rewritten with keys held before. -/
theorem State.Ordered.withCopies {s : State} (h : s.Ordered) {copies : List OutgoingCopy} {tx : Transmitter}
    (hc : KeySorted OutgoingCopy.key copies) (sub : ∀ c ∈ copies, ∃ d ∈ s.outgoing, d.key = c.key) :
    ({ s with outgoing := copies, tx := tx } : State).Ordered := by
  refine ⟨⟨h.sorted.pendingQueue, hc, h.sorted.remotes, h.sorted.timers⟩, h.fresh.next, h.fresh.pendingQueue,
    fun c hx => ?_, fun e he => ?_⟩
  · obtain ⟨d, hd, hk⟩ := sub c hx
    exact hk ▸ h.fresh.outgoing d hd
  · obtain ⟨assigned, queue, copies⟩ := h.fresh.intake e he
    refine ⟨assigned, queue, fun c hx => ?_⟩
    obtain ⟨d, hd, hk⟩ := sub c hx
    exact hk ▸ copies d hd

theorem State.Ordered.withTimers {s : State} (h : s.Ordered) {ts : List Key} (hs : KeySorted id ts) :
    ({ s with timers := ts } : State).Ordered :=
  ⟨{ h.sorted with timers := hs }, { h.fresh with }⟩

theorem KeySorted.setTimer {s : State} (h : KeySorted id s.timers) (source n time : Nat) :
    KeySorted id (s.setTimer source n time).timers := by
  have rest : KeySorted id (removeTimer source n s.timers) := h.filter _
  simp only [State.setTimer]
  split
  · exact rest.insert fun k hk => Key.ne_of_not_sameRecord (not_sameRecord_of_mem_removeTimer hk rfl rfl)
  · exact rest

theorem State.Ordered.rewritten {s : State} (h : s.Ordered) {f : PendingEntry → PendingEntry}
    (hf : ∀ x, (f x).key = x.key) : ({ s with pendingQueue := s.pendingQueue.map f } : State).Ordered := by
  refine ⟨{ h.sorted with pendingQueue := h.sorted.pendingQueue.map f hf },
    { h.fresh with pendingQueue := fun x hx => ?_, intake := fun e he => ?_ }⟩
  · obtain ⟨y, hy, rfl⟩ := List.mem_map.1 hx
    exact hf y ▸ h.fresh.pendingQueue y hy
  · obtain ⟨assigned, queue, copies⟩ := h.fresh.intake e he
    refine ⟨assigned, fun x hx => ?_, copies⟩
    obtain ⟨y, hy, rfl⟩ := List.mem_map.1 hx
    exact hf y ▸ queue y hy

/-- The moves of the lists keep them in order and the ordinals fresh. -/
theorem State.Ordered.moved {s t : State} (h : s.Ordered) (m : s.ListMoves t) : t.Ordered := by
  induction m with
  | kept k => exact h.kept k
  | trans _ _ ih ih' => exact ih' (ih h)
  | emptied k => exact h.emptied k
  | rewritten f hf => exact h.rewritten hf
  | admitted a => exact h.admitted a
  | inserted he =>
    obtain ⟨-, queue, copies⟩ := h.fresh.intake _ he
    refine h.answered he (h.sorted.pendingQueue.insert fun x hx => Key.ne_of_not_sameRecord (queue x hx))
      (h.sorted.outgoing.copied fun c hc => Key.ne_of_not_sameRecord (copies c hc)) (fun x hx => ?_)
      fun c hc => mem_copied hc
    rcases (mem_insertByKey _ x _).1 hx with rfl | hx
    · exact .inl rfl
    · exact .inr hx
  | replaced he _ =>
    obtain ⟨-, queue, copies⟩ := h.fresh.intake _ he
    refine h.answered he ((h.sorted.pendingQueue.filter _).insert fun x hx =>
        Key.ne_of_not_sameRecord (queue x (List.mem_of_mem_filter hx)))
      (h.sorted.outgoing.movedCopies fun c hc => Key.ne_of_not_sameRecord (copies c hc)) (fun x hx => ?_)
      fun c hc => mem_movedCopies hc
    rcases (mem_insertByKey _ x _).1 hx with rfl | hx
    · exact .inl rfl
    · exact .inr (List.mem_of_mem_filter hx)
  | carried _ _ => exact h.withCopies h.sorted.outgoing.holdFirst fun c => mem_holdFirst
  | abandoned _ => exact h.withCopies h.sorted.outgoing.abandonCopies fun c => mem_abandonCopies
  | freed _ => exact h.withCopies (h.sorted.outgoing.filter _) fun c hc => ⟨c, List.mem_of_mem_filter hc, rfl⟩
  | listed fresh _ _ => exact ⟨{ h.sorted with remotes := h.sorted.remotes.insert fresh }, { h.fresh with }⟩
  | timerSet _ _ _ => exact h.withTimers (h.sorted.timers.setTimer _ _ _)
  | timerCancelled source n => exact h.withTimers (h.sorted.timers.filter _)

end Sys2Proof.Machine
end

section
/-! SUPPORT. The capacities (O5) and the held copies (O9) over the moves of the lists. -/

namespace Sys2Proof.Machine

/-! ## Capacities (R38, R40, R86, R119) -/

@[simp] theorem length_holdFirst (cs : List OutgoingCopy) : (holdFirst cs).length = cs.length := by
  simpa using congrArg List.length (map_key_holdFirst cs)

theorem length_copied_le (e : Intake) {cs : List OutgoingCopy} (h : cs.length ≤ outgoingCapacity)
    (room : e.tie.isSome = true → cs.length < outgoingCapacity) : (e.copied cs).length ≤ outgoingCapacity := by
  unfold Intake.copied
  cases ht : e.tie with
  | none => exact h
  | some tie =>
    rw [Option.elim_some, length_insertByKey]
    exact room (by rw [ht]; rfl)

/-- A copy moved leaves its old place (R52). -/
theorem length_movedCopies_le (e : Intake) (old : Key) (cs : List OutgoingCopy) :
    (movedCopies e old cs).length ≤ cs.length := by
  unfold movedCopies
  split
  · rename_i c hc
    have left : (cs.filter fun d => d.key != old).length < cs.length := by
      refine List.length_filter_lt_length_iff_exists.2 ⟨c, List.mem_of_find?_eq_some hc, ?_⟩
      have := List.find?_some hc
      simpa using this
    rw [length_insertByKey]
    exact left
  · exact le_rfl

/-- With one timer of each kind for an element there are no more than the list holds (R119). -/
theorem State.TimersShaped.length_le {s : State} (h : s.TimersShaped) : s.timers.length ≤ timerCapacity := by
  let slot (k : Key) : Nat := (k.source - travelSource) * 256 + k.ordinal
  have nodup : (s.timers.map slot).Nodup := by
    rw [List.Nodup, List.pairwise_map]
    refine h.distinct.imp_of_mem fun {a b} ha hb hne heq => hne ?_
    obtain ⟨ka, oa⟩ := h.shape a ha
    obtain ⟨kb, ob⟩ := h.shape b hb
    simp only [travelSource, quietSource, slot] at ka kb heq
    unfold Key.sameRecord
    omega
  have sub : s.timers.map slot ⊆ List.range timerCapacity := by
    intro x hx
    obtain ⟨k, hk, rfl⟩ := List.mem_map.1 hx
    obtain ⟨kind, number⟩ := h.shape k hk
    simp only [travelSource, quietSource, timerCapacity, List.mem_range, slot] at kind ⊢
    omega
  simpa using (nodup.subperm sub).length_le

theorem State.TimersShaped.filter {s t : State} (h : s.TimersShaped) (ht : t.timers.Sublist s.timers) :
    t.TimersShaped :=
  ⟨fun k hk => h.shape k (ht.subset hk), h.distinct.sublist ht⟩

theorem State.TimersShaped.setTimer {s : State} (h : s.TimersShaped) {source n : Nat} (time : Nat)
    (kind : source = travelSource ∨ source = quietSource) (hn : n < 256) : (s.setTimer source n time).TimersShaped := by
  have rest : ({ s with timers := removeTimer source n s.timers } : State).TimersShaped := h.filter List.filter_sublist
  by_cases ht : time ≤ maxTime
  · have timers : (s.setTimer source n time).timers =
        insertByKey id ⟨time, s.station.number, source, n⟩ (removeTimer source n s.timers) := if_pos ht
    constructor
    · rw [timers]
      intro k hk
      rcases (mem_insertByKey _ k _).1 hk with rfl | hk
      · exact ⟨kind, hn⟩
      · exact rest.shape k hk
    · rw [timers, (perm_insertByKey id _ _).pairwise_iff fun {a b} hab hba => hab ⟨hba.1.symm, hba.2.symm⟩]
      refine List.pairwise_cons.2 ⟨fun k hk hsame => ?_, rest.distinct⟩
      exact not_sameRecord_of_mem_removeTimer hk rfl rfl ⟨hsame.1.symm, hsame.2.symm⟩
  · have timers : (s.setTimer source n time).timers = removeTimer source n s.timers := if_neg ht
    constructor <;> rw [timers]
    exacts [rest.shape, rest.distinct]

section
variable {s : State} (h : s.WithinCapacity)
include h

theorem State.WithinCapacity.kept {t : State} (k : s.ListsKept t) : t.WithinCapacity where
  pendingQueue := k.pendingQueue ▸ h.pendingQueue
  admitted hi := by
    rcases k.intake with hn | hs
    · rw [hn] at hi; cases hi
    · rw [k.pendingQueue]; exact h.admitted (hs ▸ hi)
  outgoing := k.outgoing ▸ h.outgoing
  admittedCopy e he ht := by
    rcases k.intake with hn | hs
    · cases hn.symm.trans he
    · rw [k.outgoing]; exact h.admittedCopy e (hs ▸ he) ht
  remotes := k.remotes ▸ h.remotes
  points := k.points h.points
  timers := k.timers ▸ h.timers
  timersShaped := h.timersShaped.filter (k.timers ▸ List.Sublist.refl _)
  delivery := k.delivery h.delivery
  buffers := k.buffers h.buffers

theorem State.WithinCapacity.emptied {t : State} (k : s.Emptied t) : t.WithinCapacity where
  pendingQueue := by rw [k.pendingQueue]; exact Nat.zero_le _
  admitted hi := by rw [k.intake] at hi; cases hi
  outgoing := by rw [k.outgoing]; exact Nat.zero_le _
  admittedCopy e he := by cases k.intake.symm.trans he
  remotes := by rw [k.remotes]; exact Nat.zero_le _
  points := k.points h.points
  timers := by rw [k.timers]; exact Nat.zero_le _
  timersShaped := h.timersShaped.filter (by rw [k.timers]; exact List.nil_sublist _)
  delivery := k.delivery h.delivery
  buffers := k.buffers h.buffers

/-- Lists of no more entries, and copies of no more than before. -/
theorem State.WithinCapacity.withCopies {copies : List OutgoingCopy} {tx : Transmitter}
    (hc : copies.length ≤ s.outgoing.length) : ({ s with outgoing := copies, tx := tx } : State).WithinCapacity :=
  { h with
    outgoing := hc.trans h.outgoing
    admittedCopy := fun e he ht => hc.trans_lt (h.admittedCopy e he ht)
    timersShaped := h.timersShaped.filter (.refl _) }

/-- The record in intake is answered and leaves the lists within their capacities. -/
theorem State.WithinCapacity.answered {queue : List PendingEntry} {copies : List OutgoingCopy}
    (hq : queue.length ≤ pendingCapacity) (hc : copies.length ≤ outgoingCapacity) :
    ({ s with pendingQueue := queue, outgoing := copies, feed := { s.feed with intake := none } } :
      State).WithinCapacity :=
  { h with
    pendingQueue := hq
    admitted := nofun
    outgoing := hc
    admittedCopy := nofun
    timersShaped := h.timersShaped.filter (.refl _) }

theorem State.WithinCapacity.withTimers {t : State} (ht : t.TimersShaped) (frame : t = { s with timers := t.timers }) :
    t.WithinCapacity := by
  have := ht.length_le
  rw [frame] at ht this ⊢
  exact { h with timers := this, timersShaped := ht }

/-- The moves of the lists keep every buffer within its capacity. -/
theorem State.WithinCapacity.moved {t : State} (m : s.ListMoves t) : t.WithinCapacity := by
  induction m with
  | kept k => exact h.kept k
  | trans _ _ ih ih' => exact ih' (ih h)
  | emptied k => exact h.emptied k
  | rewritten f _ =>
    exact { h with
      pendingQueue := by simpa only [List.length_map] using h.pendingQueue
      admitted := by simpa only [List.length_map] using h.admitted
      timersShaped := h.timersShaped.filter (.refl _) }
  | admitted a =>
    exact { h with
      admitted := fun _ => a.room
      admittedCopy := fun e he ht => by cases he; exact a.roomForCopy ht
      timersShaped := h.timersShaped.filter (.refl _) }
  | inserted he =>
    refine h.answered ?_ (length_copied_le _ h.outgoing (h.admittedCopy _ he))
    rw [length_insertByKey]
    exact h.admitted (by rw [he]; rfl)
  | @replaced s e x he _ =>
    refine h.answered ?_ ((length_movedCopies_le _ _ _).trans h.outgoing)
    have room := h.admitted (by rw [he]; rfl)
    have left := s.pendingQueue.length_filter_le fun y => y.key != x.key
    rw [length_insertByKey]
    omega
  | carried _ _ => exact h.withCopies (length_holdFirst _).le
  | abandoned _ => exact h.withCopies (List.length_map _).le
  | freed _ => exact h.withCopies (List.length_filter_le _ _)
  | listed _ room _ =>
    exact { h with
      remotes := by rw [length_insertByKey]; exact room
      timersShaped := h.timersShaped.filter (.refl _) }
  | timerSet kind hn _ => exact h.withTimers (h.timersShaped.setTimer _ kind hn) rfl
  | timerCancelled source n => exact h.withTimers (h.timersShaped.filter List.filter_sublist) rfl

end

/-! ## Held copies (R41, R62, R78) -/

theorem OutgoingCopy.entry_eq : OutgoingCopy.entry = fun c => ChangeEntry.mk c.key.time c.key.source c.key.ordinal
    c.tie c.position c.cause c.quality c.carried := rfl

theorem filter_held_insertByKey {x : OutgoingCopy} (hx : x.held = false) (cs : List OutgoingCopy) :
    (insertByKey OutgoingCopy.key x cs).filter OutgoingCopy.held = cs.filter OutgoingCopy.held := by
  induction cs with
  | nil => simp [insertByKey, hx]
  | cons c cs ih =>
    simp only [insertByKey]
    split
    · rw [List.filter_cons_of_neg (by simp [hx])]
    · simp only [List.filter_cons, ih]

theorem filter_held_copied (e : Intake) (cs : List OutgoingCopy) :
    (e.copied cs).filter OutgoingCopy.held = cs.filter OutgoingCopy.held := by
  unfold Intake.copied
  cases e.tie with
  | none => rfl
  | some tie => exact filter_held_insertByKey rfl cs

/-- A copy that moves is not held, nor was it (R50, R52). -/
theorem filter_held_movedCopies {e : Intake} {old : Key} {cs : List OutgoingCopy}
    (free : ∀ c ∈ cs, c.key = old → c.held = false) :
    (movedCopies e old cs).filter OutgoingCopy.held = cs.filter OutgoingCopy.held := by
  unfold movedCopies
  split
  · rename_i c hc
    have key : c.key = old := by simpa using List.find?_some hc
    have kept := free c (List.mem_of_find?_eq_some hc) key
    rw [filter_held_insertByKey (x := { c with key := e.key, quality := e.quality, cause := e.cause }) kept,
      List.filter_filter]
    refine List.filter_congr fun d hd => ?_
    cases hheld : d.held with
    | false => rfl
    | true =>
      have : d.key ≠ old := fun hk => by rw [free d hd hk] at hheld; cases hheld
      simp [this]
  · rfl

/-- The copies that a frame built carries are then the held ones (R62). -/
theorem filter_held_holdFirst {cs : List OutgoingCopy} (free : ∀ c ∈ cs, c.held = false) :
    (holdFirst cs).filter OutgoingCopy.held = (cs.take frameEntries).map fun c => { c with held := true } := by
  have rest : (cs.drop frameEntries).filter OutgoingCopy.held = [] := by
    refine List.filter_eq_nil_iff.2 fun c hc => ?_
    simp [free c (List.mem_of_mem_drop hc)]
  have first : ((cs.take frameEntries).map fun c => { c with held := true }).filter OutgoingCopy.held =
      (cs.take frameEntries).map fun c => { c with held := true } := by
    refine List.filter_eq_self.2 fun c hc => ?_
    obtain ⟨d, -, rfl⟩ := List.mem_map.1 hc
    rfl
  rw [holdFirst, List.filter_append, first, rest, List.append_nil]

theorem not_held_of_abandonCopies {cs : List OutgoingCopy} {c : OutgoingCopy} (h : c ∈ abandonCopies cs) :
    c.held = false := by
  obtain ⟨d, -, rfl⟩ := List.mem_map.1 h
  split
  · rfl
  · rename_i hd
    exact Bool.eq_false_iff.2 hd

/-- Copies are held exactly while their frame is on the line, and before the first commit none is there (R68). -/
structure State.HeldOnLine (s : State) : Prop where
  agree : s.HeldAgree
  commit : s.beforeCommit = true → ∀ f, s.tx.state ≠ .sending f

theorem State.SilentBeforeCommit.not_sending {s : State} (h : s.SilentBeforeCommit) (hc : s.beforeCommit = true)
    (f : Frame) : s.tx.state ≠ .sending f := by
  rcases h hc with hs | hs <;> rw [hs] <;> exact TxState.noConfusion

/-- The held copies depend on which copies are held and on the frame on the line alone. -/
theorem State.HeldOnLine.congr {s t : State} (h : s.HeldOnLine)
    (hc : t.outgoing.filter OutgoingCopy.held = s.outgoing.filter OutgoingCopy.held)
    (hs : ∀ f, t.tx.state = .sending f ↔ s.tx.state = .sending f) (hb : t.beforeCommit = true → s.beforeCommit = true) :
    t.HeldOnLine where
  agree.sending f hf := by rw [hc]; exact h.agree.sending f ((hs f).1 hf)
  agree.idle hn c hm := by
    by_contra hheld
    have hm : c ∈ t.outgoing.filter OutgoingCopy.held := List.mem_filter.2 ⟨hm, by simpa using hheld⟩
    rw [hc] at hm
    obtain ⟨hm, hheld⟩ := List.mem_filter.1 hm
    rw [h.agree.idle (fun f hf => hn f ((hs f).2 hf)) c hm] at hheld
    cases hheld
  commit hc f hf := h.commit (hb hc) f ((hs f).1 hf)

/-- With no frame on the line no copy is held. -/
theorem State.heldOnLine_of_free {t : State} (hs : ∀ f, t.tx.state ≠ .sending f) (hc : ∀ c ∈ t.outgoing, c.held = false) :
    t.HeldOnLine :=
  ⟨⟨fun f hf => absurd hf (hs f), fun _ => hc⟩, fun _ => hs⟩

/-- The moves of the lists keep the held copies those of the frame on the line. -/
theorem State.HeldOnLine.moved {s t : State} (h : s.HeldOnLine) (m : s.ListMoves t) : t.HeldOnLine := by
  induction m with
  | kept k => exact h.congr (by rw [k.outgoing]) k.sending k.commit
  | trans _ _ ih ih' => exact ih' (ih h)
  | emptied k =>
    refine State.heldOnLine_of_free (k.sending h.commit) ?_
    rw [k.outgoing]
    nofun
  | inserted _ => exact h.congr (filter_held_copied _ _) (fun _ => .rfl) id
  | replaced _ free => exact h.congr (filter_held_movedCopies free) (fun _ => .rfl) id
  | @carried s hw hs =>
    have free := h.agree.idle fun f hf => by cases hw.symm.trans hf
    refine ⟨⟨fun f hf => ?_, fun hn => absurd rfl (hn _)⟩, fun hc => ?_⟩
    · cases hf
      show s.builtFrame.changes = _
      rw [filter_held_holdFirst free, List.map_map, State.builtFrame, OutgoingCopy.entry_eq]
      rfl
    · rcases (s.beforeCommit_iff).1 hc with hu | hl
      · simp only [State.inService, hu] at hs; cases hs
      · simp only [State.inService, hl] at hs; cases hs
  | abandoned ht => exact State.heldOnLine_of_free ht fun c => not_held_of_abandonCopies
  | freed ht =>
    refine State.heldOnLine_of_free ht fun c hc => ?_
    have := (List.mem_filter.1 hc).2
    simpa using this
  | rewritten _ _ => exact h.congr rfl (fun _ => .rfl) id
  | admitted _ => exact h.congr rfl (fun _ => .rfl) id
  | listed _ _ _ => exact h.congr rfl (fun _ => .rfl) id
  | timerSet _ _ _ => exact h.congr rfl (fun _ => .rfl) id
  | timerCancelled _ _ => exact h.congr rfl (fun _ => .rfl) id

end Sys2Proof.Machine
end

section
/-! SUPPORT. What lies above the release point (O12), over the moves of the lists and over the removal by RELEASE. -/

namespace Sys2Proof.Machine

/-! ## Over the moves of the lists (R44, R85, R110) -/

/-- The state with the item `i` removed from its list, of which it is the head, and its key as the release point (R110). -/
def State.removed (s : State) (i : Item) : State :=
  { s.dropHead i with engine := { (s.dropHead i).engine with releasePoint := some i.key } }

/-- What lies above the release point in the middle of an act too: LW, as it is held and as the sources give it, every
Pending Queue entry and the record in intake; and no remote change and no timer lies below it. -/
structure State.PointBelow (s : State) : Prop where
  lw : ∀ k, s.engine.releasePoint = some k → k.time < s.horizon.lw
  watermark : ∀ k, s.engine.releasePoint = some k → k.time < s.localWatermark
  pendingQueue : ∀ k, s.engine.releasePoint = some k → ∀ x ∈ s.pendingQueue, k.lt x.key = true
  remotes : ∀ k, s.engine.releasePoint = some k → ∀ r ∈ s.remotes, r.key.lt k = false
  timers : ∀ k, s.engine.releasePoint = some k → ∀ x ∈ s.timers, x.lt k = false
  intake : ∀ k, s.engine.releasePoint = some k → ∀ e, s.feed.intake = some e → k.time < e.key.time
  marked : s.Marked
  quiet : 1 ≤ s.settings.chatterQ

theorem State.PointBelow.law {s : State} (h : s.PointBelow) : s.ReleasePointLaw :=
  ⟨h.lw, h.pendingQueue, h.remotes, h.timers, h.quiet⟩

theorem Key.lt_of_time_lt {a b : Key} (h : a.time < b.time) : a.lt b = true := (Key.lt_iff a b).2 (.inl h)

/-- The record in intake lies at or above LW (R75, R77). -/
theorem State.HorizonLaw.lw_le_intake {s : State} (h : s.HorizonLaw) {e : Intake} (he : s.feed.intake = some e) :
    s.localWatermark ≤ e.key.time :=
  have ⟨_, opened, watermark⟩ := h.intake e he
  State.localWatermark_le opened watermark

/-- At the start of an act. -/
theorem State.ReleasePointLaw.pointBelow {s : State} (h : s.ReleasePointLaw) (hh : s.HorizonLaw) (hb : s.BoundsAgree) :
    s.PointBelow where
  lw := h.time
  watermark k hk := hb.lw ▸ h.time k hk
  pendingQueue := h.pendingQueue
  remotes := h.remotes
  timers := h.timers
  intake k hk _ he := (hb.lw ▸ h.time k hk).trans_le (hh.lw_le_intake he)
  marked := hh.marked
  quiet := h.quiet

section
variable {s : State} (h : s.PointBelow)
include h

theorem State.PointBelow.kept {t : State} (k : s.ListsKept t) : t.PointBelow := by
  have rises : s.localWatermark ≤ t.localWatermark := State.localWatermark_mono h.marked k.commit k.sources
  have point {x : Key} (hx : t.engine.releasePoint = some x) : s.engine.releasePoint = some x :=
    k.releasePoint ▸ hx
  have watermark (x : Key) (hx : t.engine.releasePoint = some x) : x.time < t.localWatermark :=
    (h.watermark x (point hx)).trans_le rises
  refine ⟨fun x hx => ?_, watermark, fun x hx => ?_, fun x hx => ?_, fun x hx => ?_, fun x hx e he => ?_,
    h.marked.kept k.sources, k.quiet h.quiet⟩
  · rcases k.lw with hl | hl <;> rw [hl]
    · exact h.lw x (point hx)
    · exact watermark x hx
  · rw [k.pendingQueue]; exact h.pendingQueue x (point hx)
  · rw [k.remotes]; exact h.remotes x (point hx)
  · rw [k.timers]; exact h.timers x (point hx)
  · rcases k.intake with hi | hi
    · cases hi.symm.trans he
    · exact h.intake x (point hx) e (hi ▸ he)

theorem State.PointBelow.emptied {t : State} (k : s.Emptied t) : t.PointBelow := by
  have absent {x : Key} {P : Prop} (hx : t.engine.releasePoint = some x) : P := by cases k.releasePoint.symm.trans hx
  exact ⟨fun _ => absent, fun _ => absent, fun _ => absent, fun _ => absent, fun _ => absent, fun _ => absent, k.marked,
    k.quiet h.quiet⟩

theorem State.PointBelow.admitted {n : Nat} {r : Source} {e : Intake} (a : s.Admits n r e) :
    ({ s.setSource n r with feed := { s.feed with intake := some e } } : State).PointBelow := by
  have sources (m : Nat) : (s.source m).BoundRises ((s.setSource n r).source m) := by
    rw [State.source_setSource]
    split
    · rename_i hm
      exact hm.1 ▸ a.rises
    · exact .refl _
  have above : s.localWatermark ≤ e.key.time := by
    obtain ⟨w, hw⟩ := Option.isSome_iff_exists.1 (h.marked n a.opened)
    obtain ⟨w', hw', le⟩ := (a.rises a.live).2 w hw
    obtain rfl : w' = e.key.time := Option.some.inj (hw'.symm.trans a.watermark)
    exact (State.localWatermark_le a.opened hw).trans le
  have rises : s.localWatermark ≤ (s.setSource n r).localWatermark :=
    State.localWatermark_mono h.marked id sources
  exact { h with
    watermark := fun k hk => (h.watermark k hk).trans_le rises
    intake := fun k hk e' he' => by cases he'; exact (h.watermark k hk).trans_le above
    marked := h.marked.kept sources }

/-- The record in intake is answered, and every entry is of its key or was held before. -/
theorem State.PointBelow.answered {e : Intake} (he : s.feed.intake = some e) {queue : List PendingEntry}
    {copies : List OutgoingCopy} (queued : ∀ x ∈ queue, x.key = e.key ∨ x ∈ s.pendingQueue) :
    ({ s with pendingQueue := queue, outgoing := copies, feed := { s.feed with intake := none } } : State).PointBelow :=
  { h with
    pendingQueue := fun k hk x hx => by
      rcases queued x hx with hxe | hx
      · exact Key.lt_of_time_lt (hxe ▸ h.intake k hk e he)
      · exact h.pendingQueue k hk x hx
    intake := nofun }

theorem State.PointBelow.timerSet {source n time : Nat}
    (later : 1 ≤ s.settings.chatterQ → ∀ k, s.engine.releasePoint = some k → k.time < time) :
    (s.setTimer source n time).PointBelow := by
  refine { h with timers := fun k hk x hx => ?_ }
  have rest (hx : x ∈ removeTimer source n s.timers) : x.lt k = false := h.timers k hk x (mem_of_mem_removeTimer hx)
  simp only [State.setTimer] at hx
  split at hx
  · rcases (mem_insertByKey _ x _).1 hx with rfl | hx
    · exact Key.lt_asymm (Key.lt_of_time_lt (later h.quiet k hk))
    · exact rest hx
  · exact rest hx

/-- The moves of the lists keep what lies above the release point above it. -/
theorem State.PointBelow.moved {t : State} (m : s.ListMoves t) : t.PointBelow := by
  induction m with
  | kept k => exact h.kept k
  | trans _ _ ih ih' => exact ih' (ih h)
  | emptied k => exact h.emptied k
  | rewritten f hf =>
    refine { h with pendingQueue := fun k hk x hx => ?_ }
    obtain ⟨y, hy, rfl⟩ := List.mem_map.1 hx
    rw [hf]
    exact h.pendingQueue k hk y hy
  | admitted a => exact h.admitted a
  | inserted he =>
    refine h.answered he fun x hx => ?_
    rcases (mem_insertByKey _ x _).1 hx with rfl | hx
    · exact .inl rfl
    · exact .inr hx
  | replaced he _ =>
    refine h.answered he fun x hx => ?_
    rcases (mem_insertByKey _ x _).1 hx with rfl | hx
    · exact .inl rfl
    · exact .inr (List.mem_of_mem_filter hx)
  | carried _ _ => exact { h with }
  | abandoned _ => exact { h with }
  | freed _ => exact { h with }
  | listed _ _ onTime =>
    refine { h with remotes := fun k hk x hx => ?_ }
    rcases (mem_insertByKey _ x _).1 hx with rfl | hx
    · exact onTime k hk
    · exact h.remotes k hk x hx
  | timerSet _ _ later => exact h.timerSet later
  | timerCancelled source n =>
    exact { h with timers := fun k hk x hx => h.timers k hk x (mem_of_mem_removeTimer hx) }

end

/-! ## The removal (R109, R110) -/

/-- The first of a list in key order lies below every other. -/
theorem KeySorted.lt_of_mem_tail {α : Type} {key : α → Key} {x y : α} {xs : List α} (h : KeySorted key xs)
    (hx : xs.head? = some x) (hy : y ∈ xs.tail) : (key x).lt (key y) = true := by
  cases xs with
  | nil => cases hy
  | cons z zs =>
    cases hx
    exact (List.pairwise_cons.1 h).1 y hy

/-- A key not below one that is not below a third is not below the third. -/
theorem Key.not_lt_trans {a b c : Key} (h : b.lt a = false) (h' : c.lt b = false) : c.lt a = false := by
  rw [← Bool.not_eq_true, Key.lt_iff] at *
  omega

theorem lesserHead_eq_none {a b : Option Item} (h : lesserHead a b = none) : a = none ∧ b = none := by
  cases a <;> cases b
  · exact ⟨rfl, rfl⟩
  · cases h
  · cases h
  · simp only [lesserHead] at h
    split at h <;> cases h

/-- A list in key order whose head does not lie below `k` has no entry that does. -/
theorem KeySorted.not_lt_of_head {α : Type} {key : α → Key} {xs : List α} (h : KeySorted key xs) {k : Key}
    (hh : ∀ x, xs.head? = some x → (key x).lt k = false) : ∀ y ∈ xs, (key y).lt k = false := by
  intro y hy
  cases xs with
  | nil => cases hy
  | cons x xs =>
    have head := hh x rfl
    rcases List.mem_cons.1 hy with rfl | hy
    · exact head
    · exact Key.not_lt_trans head (Key.lt_asymm ((List.pairwise_cons.1 h).1 y hy))

/-- A list in key order whose head lies above `k` lies above it. -/
theorem KeySorted.lt_of_head {α : Type} {key : α → Key} {xs : List α} (h : KeySorted key xs) {k : Key}
    (hh : ∀ x, xs.head? = some x → k.lt (key x) = true) : ∀ y ∈ xs, k.lt (key y) = true := by
  intro y hy
  cases xs with
  | nil => cases hy
  | cons x xs =>
    have head := hh x rfl
    rcases List.mem_cons.1 hy with rfl | hy
    · exact head
    · exact Key.lt_trans head ((List.pairwise_cons.1 h).1 y hy)

/-- Of two heads the first is chosen unless the second lies below it (R109). -/
theorem lesserHead_cases {a b : Option Item} {i : Item} (h : lesserHead a b = some i) :
    a = some i ∨ b = some i ∧ ∀ j, a = some j → i.key.lt j.key = true := by
  cases a with
  | none => exact .inr ⟨by simpa only [lesserHead] using h, nofun⟩
  | some a => cases b with
    | none => exact .inl h
    | some b =>
      simp only [lesserHead] at h
      split at h <;> cases h
      · rename_i lt
        exact .inr ⟨rfl, fun j hj => by cases hj; exact lt⟩
      · exact .inl rfl

section
variable {s : State} {i : Item} (hs : s.ListsSorted) (hi : s.leastHead = some i)
include hs hi

/-- Every own event left by a removal lies above the item removed, since of equal heads the own event is the least (R109,
R110). -/
theorem State.lt_of_mem_removed_pendingQueue : ∀ x ∈ (s.removed i).pendingQueue, i.key.lt x.key = true := by
  rcases lesserHead_cases hi with hq | ⟨hrest, above⟩
  · obtain ⟨x, hx, rfl⟩ := Option.map_eq_some_iff.1 hq
    exact fun y hy => hs.pendingQueue.lt_of_mem_tail hx hy
  · have queue : (s.removed i).pendingQueue = s.pendingQueue := by
      rcases (lesserHead_spec hrest).1 with hr | ht
      · obtain ⟨r, -, rfl⟩ := Option.map_eq_some_iff.1 hr
        rfl
      · obtain ⟨k, -, rfl⟩ := Option.map_eq_some_iff.1 ht
        rfl
    rw [queue]
    exact hs.pendingQueue.lt_of_head fun x hx => above (.own x) (by rw [hx]; rfl)

/-- The item removed is the least of the heads, so no remote change and no timer lies below it (R109). -/
theorem State.leastHead_not_lt :
    (∀ r ∈ s.remotes, r.key.lt i.key = false) ∧ ∀ k ∈ s.timers, k.lt i.key = false := by
  have head (j : Item) (hj : s.remotes.head?.map Item.remote = some j ∨ s.timers.head?.map Item.timer = some j) :
      j.key.lt i.key = false := by
    cases hl : lesserHead (s.remotes.head?.map Item.remote) (s.timers.head?.map Item.timer) with
    | none =>
      obtain ⟨hr, ht⟩ := lesserHead_eq_none hl
      rw [hr, ht] at hj
      rcases hj with hj | hj <;> cases hj
    | some l =>
      obtain ⟨-, hr, ht⟩ := lesserHead_spec hl
      exact Key.not_lt_trans ((lesserHead_spec hi).2.2 l hl) (hj.elim (hr j) (ht j))
  exact ⟨hs.remotes.not_lt_of_head fun r hr => head (.remote r) (.inl (by rw [hr]; rfl)),
    hs.timers.not_lt_of_head fun k hk => head (.timer k) (.inr (by rw [hk]; rfl))⟩

end

/-- What is left after a removal is of the lists before it. -/
theorem State.removed_sublists (s : State) (i : Item) :
    (s.removed i).pendingQueue.Sublist s.pendingQueue ∧ (s.removed i).remotes.Sublist s.remotes ∧
    (s.removed i).timers.Sublist s.timers := by
  cases i with
  | own x => exact ⟨List.tail_sublist _, .refl _, .refl _⟩
  | remote r => exact ⟨.refl _, List.tail_sublist _, .refl _⟩
  | timer k => exact ⟨.refl _, .refl _, List.tail_sublist _⟩

theorem State.Ordered.removed {s : State} (h : s.Ordered) (i : Item) : (s.removed i).Ordered := by
  obtain ⟨queue, remotes, timers⟩ := s.removed_sublists i
  have outgoing : (s.removed i).outgoing = s.outgoing := by cases i <;> rfl
  have sources : (s.removed i).sources = s.sources := by cases i <;> rfl
  have intake : (s.removed i).feed.intake = s.feed.intake := by cases i <;> rfl
  have assigned (x : Key) : (s.removed i).assigned x ↔ s.assigned x := by
    simp only [State.assigned, State.nextOrdinalBound, State.source_congr sources]
  refine ⟨⟨h.sorted.pendingQueue.sublist queue, outgoing ▸ h.sorted.outgoing, h.sorted.remotes.sublist remotes,
    h.sorted.timers.sublist timers⟩, fun n => ?_, fun x hx => ?_, fun c hc => ?_, fun e he => ?_⟩
  · rw [State.source_congr sources]
    exact h.fresh.next n
  · exact (assigned _).2 (h.fresh.pendingQueue x (queue.subset hx))
  · exact (assigned _).2 (h.fresh.outgoing c (outgoing ▸ hc))
  · rw [assigned, outgoing]
    obtain ⟨given, unqueued, uncopied⟩ := h.fresh.intake e (intake ▸ he)
    exact ⟨given, fun x hx => unqueued x (queue.subset hx), uncopied⟩

theorem State.WithinCapacity.removed {s : State} (h : s.WithinCapacity) (i : Item) :
    (s.removed i).WithinCapacity := by
  obtain ⟨queue, remotes, timers⟩ := s.removed_sublists i
  have shaped : (s.removed i).TimersShaped := h.timersShaped.filter timers
  cases i with
  | own x =>
    exact { h with
      pendingQueue := queue.length_le.trans h.pendingQueue
      admitted := fun hi => queue.length_le.trans_lt (h.admitted hi)
      timersShaped := shaped }
  | remote r => exact { h with remotes := remotes.length_le.trans h.remotes, timersShaped := shaped }
  | timer k => exact { h with timers := timers.length_le.trans h.timers, timersShaped := shaped }

theorem State.HeldOnLine.removed {s : State} (h : s.HeldOnLine) (i : Item) : (s.removed i).HeldOnLine := by
  cases i <;> exact h.congr rfl (fun _ => .rfl) id

/-- The item removed lies below the safe time, so below LW and the record in intake; and everything left in the lists is
above it, or a remote change or a timer at it (R44, R110). -/
theorem State.PointBelow.removed {s : State} (h : s.PointBelow) (hh : s.HorizonLaw) (hb : s.BoundsAgree)
    (hs : s.ListsSorted) {i : Item} (hi : s.leastHead = some i) (safe : i.key.time < s.horizon.safeTime) :
    (s.removed i).PointBelow := by
  have below : i.key.time < s.localWatermark := by
    rw [hb.safeTime] at safe
    refine safe.trans_le ?_
    unfold State.safeBound
    split
    · exact Nat.zero_le _
    · exact Nat.min_le_left _ _
  have lw : (s.removed i).horizon.lw = s.horizon.lw := by cases i <;> rfl
  have watermark : (s.removed i).localWatermark = s.localWatermark := by cases i <;> rfl
  have intake : (s.removed i).feed.intake = s.feed.intake := by cases i <;> rfl
  have sources : (s.removed i).sources = s.sources := by cases i <;> rfl
  obtain ⟨-, remotes, timers⟩ := s.removed_sublists i
  obtain ⟨remote, timer⟩ := State.leastHead_not_lt hs hi
  have own := State.lt_of_mem_removed_pendingQueue hs hi
  refine ⟨?_, ?_, ?_, ?_, ?_, ?_, fun n => ?_, ?_⟩
  · rintro k ⟨⟩
    rw [lw, hb.lw]
    exact below
  · rintro k ⟨⟩
    rw [watermark]
    exact below
  · rintro k ⟨⟩
    exact own
  · rintro k ⟨⟩ r hr
    exact remote r (remotes.subset hr)
  · rintro k ⟨⟩ x hx
    exact timer x (timers.subset hx)
  · rintro k ⟨⟩ e he
    exact below.trans_le (hh.lw_le_intake (intake ▸ he))
  · rw [State.source_congr sources]
    exact h.marked n
  · cases i <;> exact h.quiet

/-- The key removed lies above the release point before it, or at it (R85, R110). -/
theorem State.ReleasePointLaw.not_lt_leastHead {s : State} (h : s.ReleasePointLaw) {i : Item}
    (hi : s.leastHead = some i) {k : Key} (hk : s.engine.releasePoint = some k) : i.key.lt k = false := by
  rcases (lesserHead_spec hi).1 with hq | hrest
  · obtain ⟨x, hx, rfl⟩ := Option.map_eq_some_iff.1 hq
    exact Key.lt_asymm (h.pendingQueue k hk x (List.mem_of_head? hx))
  · rcases (lesserHead_spec hrest).1 with hr | ht
    · obtain ⟨x, hx, rfl⟩ := Option.map_eq_some_iff.1 hr
      exact h.remotes k hk x (List.mem_of_head? hx)
    · obtain ⟨x, hx, rfl⟩ := Option.map_eq_some_iff.1 ht
      exact h.timers k hk x (List.mem_of_head? hx)

end Sys2Proof.Machine
end

section
/-! SUPPORT. How the shared writes, the feed records, the start of an epoch and the commands move the lists. -/

namespace Sys2Proof.Machine

/-! ## The writes that acts share, after moves from `s` to `t` -/

section
variable {s t u : State}

/-- A write of parts that the lists do not rest on. -/
theorem State.ListMoves.same (m : s.ListMoves t) (h : u.listParts = t.listParts) : s.ListMoves u :=
  .trans m (.kept (State.listsKept_of_parts h))

theorem State.ListMoves.report {e : ErrorKind} {x : Option Nat} (m : s.ListMoves t) : s.ListMoves (t.report e x) := by
  rw [(t.reported_report e x).frame]
  exact m.same rfl

theorem State.ListMoves.reformLink (m : s.ListMoves t) : s.ListMoves t.reformLink := m.same rfl

theorem State.ListMoves.startRelabel {c : RelabelCause} (m : s.ListMoves t) : s.ListMoves (t.startRelabel c) :=
  m.same rfl

theorem State.ListMoves.endRelabel {c : RelabelCause} (m : s.ListMoves t) : s.ListMoves (t.endRelabel c) := by
  cases c <;> exact m.same rfl

theorem State.ListMoves.setElement {n : Nat} {e : Element} (m : s.ListMoves t) : s.ListMoves (t.setElement n e) :=
  m.same rfl

theorem State.ListMoves.updatePeer {n : Nat} {f : Peer → Peer} (m : s.ListMoves t) : s.ListMoves (t.updatePeer n f) :=
  m.same rfl

theorem State.ListMoves.chargePeer {n : Nat} {e : ErrorKind} {x : Nat} (m : s.ListMoves t) :
    s.ListMoves (t.chargePeer n e x) :=
  .updatePeer (.report m)

/-- The record in intake ends with its answer, where one is there. -/
theorem State.ListMoves.placeAnswer {a : Answer} (m : s.ListMoves t) : s.ListMoves (t.placeAnswer a) :=
  .trans m (.kept { State.ListsKept.refl t with intake := .inl rfl })

theorem State.beforeCommit_toLoading (s : State) : s.toLoading.beforeCommit = s.beforeCommit := by
  simp only [State.beforeCommit, State.toLoading]
  cases s.station.state <;> rfl

theorem State.ListMoves.toLoading (m : s.ListMoves t) : s.ListMoves t.toLoading :=
  .trans m (.kept { State.ListsKept.refl t with commit := fun h => t.beforeCommit_toLoading ▸ h, lw := .inl rfl })

/-- A record is queued where there is a free entry (R134). -/
theorem State.ListMoves.enqueue {b : RecordBody} (m : s.ListMoves t) (room : t.delivery.queue.length < deliveryCapacity) :
    s.ListMoves (t.enqueue b) :=
  .trans m (.kept { State.ListsKept.refl t with
    delivery := fun _ => by rw [State.enqueue_queue, List.length_append]; exact room })

/-- A source written with its ordinal as it was, not opened, and with no lower watermark. -/
theorem State.ListMoves.setSource {n : Nat} {r : Source} (m : s.ListMoves t)
    (ho : r.nextOrdinal = (t.source n).nextOrdinal) (hr : (t.source n).BoundRises r) : s.ListMoves (t.setSource n r) := by
  refine .trans m (.kept { State.ListsKept.refl t with ordinals := fun i => ?_, sources := fun i => ?_, lw := .inl rfl })
  · rw [State.source_setSource]
    split
    · rename_i hi
      rw [ho, hi.1]
    · rfl
  · rw [State.source_setSource]
    split
    · rename_i hi
      exact hi.1 ▸ hr
    · exact .refl _

theorem State.ListMoves.countSource {n : Nat} {f : SourceCounters → SourceCounters} (m : s.ListMoves t) :
    s.ListMoves (t.countSource n f) :=
  m.setSource rfl (Source.boundRises_of_eq rfl rfl)

/-- The transmitter written with the frame on the line, if any, as it was. -/
theorem State.ListMoves.transmit {tx : Transmitter} (m : s.ListMoves t)
    (h : ∀ f, tx.state = .sending f ↔ t.tx.state = .sending f) : s.ListMoves { t with tx := tx } :=
  .trans m (.kept { State.ListsKept.refl t with sending := h })

theorem State.ListMoves.wantFrame (m : s.ListMoves t) : s.ListMoves t.wantFrame := by
  have frame : t.wantFrame = { t with tx := t.wantFrame.tx } := rfl
  rcases t.wantFrame_tx with h | ⟨idle, h⟩ <;> rw [frame, h]
  · exact m
  · refine m.transmit fun f => ?_
    rw [idle]
    exact ⟨TxState.noConfusion, TxState.noConfusion⟩

/-- LW is re-formed (R76). -/
theorem State.ListMoves.retimed {b : State} (m : s.ListMoves t) : s.ListMoves (t.retimed b) := by
  rw [State.retimed_spec]
  exact .trans m (.kept { State.ListsKept.refl t with lw := .inr rfl })

/-- The station completes from REPLAYING, so after a commit (R124). -/
theorem State.ListMoves.testCompletion {b : State} (m : s.ListMoves t) : s.ListMoves (t.testCompletion b) := by
  rw [State.testCompletion_spec]
  split
  · exact .trans m (.kept { State.ListsKept.refl t with commit := nofun, lw := .inl rfl })
  · exact m

theorem State.ListMoves.settle {b : State} (m : s.ListMoves t) : s.ListMoves (t.settle b) := by
  rw [State.settle_eq]
  exact m.retimed.reformLink.wantFrame

theorem State.ListMoves.settleComplete {b : State} (m : s.ListMoves t) : s.ListMoves (t.settleComplete b) := by
  rw [State.settleComplete_eq]
  exact m.retimed.testCompletion.reformLink.wantFrame

end

theorem State.room_of_roomForRecord {s : State} (h : s.roomForRecord = true) :
    s.delivery.queue.length < deliveryCapacity :=
  (Nat.le_add_right _ replyReserve).trans_lt (of_decide_eq_true h)

theorem State.room_of_canDecide {s : State} {c : Command} (h : s.canDecide c = true) :
    s.delivery.queue.length < deliveryCapacity := by
  simp only [State.canDecide, State.roomForReply, Bool.and_eq_true, decide_eq_true_eq] at h
  exact h.1

/-! ## Settings and description (R10, R13, R147, R148) -/

theorem State.listMoves_takeSettings (s : State) {b : SettingsBody} (hb : settingsInRange b = true) :
    s.ListMoves (s.takeSettings b) := by
  obtain ⟨-, -, -, -, -, quiet⟩ := (settingsInRange_iff b).1 hb
  have set : s.ListMoves { s with settings := settingsOf b } :=
    .kept { State.ListsKept.refl s with quiet := fun _ => quiet }
  exact .placeAnswer (.toLoading set)

theorem State.listMoves_takeDeclare (s : State) (b : DeclareBody) : s.ListMoves (s.takeDeclare b) := by
  unfold State.takeDeclare
  dsimp only
  split
  · exact .placeAnswer (.refl s)
  · exact .placeAnswer (.toLoading (.setSource (.refl s) rfl nofun))

theorem State.listMoves_takeElement (s : State) (b : ElementBody) : s.ListMoves (s.takeElement b) := by
  unfold State.takeElement
  split
  · exact .placeAnswer (.refl s)
  · exact .placeAnswer (.toLoading (.setElement (.refl s)))

/-- A POINT record taken found a free entry (R13). -/
theorem State.room_of_checkPoint {s : State} {b : PointBody} (h : s.checkPoint b = none) :
    s.points.length < pointCapacity := by
  unfold State.checkPoint at h
  split_ifs at h
  exact Nat.not_le.1 ‹_›

theorem State.listMoves_takePoint (s : State) (b : PointBody) : s.ListMoves (s.takePoint b) := by
  unfold State.takePoint
  split
  · exact .placeAnswer (.refl s)
  · rename_i hc
    refine .placeAnswer (.toLoading (.kept { State.ListsKept.refl s with points := fun _ => ?_ }))
    rw [List.length_append]
    exact State.room_of_checkPoint hc

/-! ## SEGMENT, PROGRESS, END_SOURCE (R17, R18, R24) -/

theorem State.listMoves_takeSegment (s : State) (b : SegmentBody) : s.ListMoves (s.takeSegment b) := by
  unfold State.takeSegment
  dsimp only
  split
  · exact .placeAnswer (.refl s)
  · split
    · exact .placeAnswer (.refl s)
    · exact .placeAnswer (.setSource (.refl s) rfl (Source.boundRises_of_eq rfl rfl))

/-- A promotion writes the segments alone (R25). -/
theorem Source.promote_keeps (r : Source) (raw : Nat) :
    (r.promote raw).state = r.state ∧ (r.promote raw).nextOrdinal = r.nextOrdinal := by
  unfold Source.promote
  split
  · split <;> exact ⟨rfl, rfl⟩
  · exact ⟨rfl, rfl⟩

/-- A source open before whose watermark is raised to a time where it lies below it. -/
theorem Source.boundRises_of_max {r r' : Source} (ho : r.isOpen = true) {t : Nat}
    (h : r'.watermark = some (max (r.watermark.getD 0) t)) : r.BoundRises r' :=
  fun _ => ⟨ho, fun w hw => ⟨_, h, by rw [hw]; exact Nat.le_max_left _ _⟩⟩

theorem State.listMoves_takeProgress (s : State) (b : ProgressBody) : s.ListMoves (s.takeProgress b) := by
  unfold State.takeProgress
  dsimp only
  split
  · exact .placeAnswer (.refl s)
  · rename_i hc
    obtain ⟨-, ordinal⟩ := (s.source b.source.toNat).promote_keeps b.bound.toNat
    refine .settle (.placeAnswer (.setSource (.refl s) ordinal ?_))
    refine Source.boundRises_of_max (State.isOpen_of_sourceCheck hc)
      (t := corrected ((s.source b.source.toNat).promote b.bound.toNat).segment b.bound.toNat) ?_
    dsimp only
    rw [Source.promote_watermark]

theorem State.listMoves_takeEndSource (s : State) (n : Byte) : s.ListMoves (s.takeEndSource n) := by
  unfold State.takeEndSource
  dsimp only
  split
  · exact .placeAnswer (.refl s)
  · exact .settleComplete (.placeAnswer (.setSource (.refl s) rfl nofun))

theorem State.listMoves_takeMalformed (s : State) (kind : Byte) (received : Nat) :
    s.ListMoves (s.takeMalformed kind received) :=
  .placeAnswer (.same (.refl s) rfl)

/-! ## EVENT (R7) -/

/-- The admission test passed finds the places that the record needs (R20). -/
theorem State.room_of_admission {s : State} {n el : Nat} (h : s.admission n el = none) :
    s.pendingQueue.length < pendingCapacity ∧
      ((s.localTieOf el).isSome = true → s.outgoing.length < outgoingCapacity) := by
  unfold State.admission at h
  split_ifs at h with hfree _ hcopy
  unfold State.freeEntries at hfree
  exact ⟨by omega, fun ht => by_contra fun hn => hcopy ⟨ht, Nat.not_lt.1 hn⟩⟩

theorem Source.lt_of_isOpen {s : State} {n : Nat} (h : (s.source n).isOpen = true) : n < 32 := by
  by_contra hn
  rw [State.source_of_ge s (Nat.not_lt.1 hn)] at h
  cases h

theorem State.listMoves_admitEvent {s : State} {b : EventBody} (ho : (s.source b.source.toNat).isOpen = true)
    {ordinal : Nat} (hn : (s.source b.source.toNat).nextOrdinal = some ordinal) {p : PointEntry}
    (ha : s.admission b.source.toNat p.element = none) (position : Position) (c : SequenceClass) :
    s.ListMoves (s.admitEvent b p position c ordinal) := by
  obtain ⟨room, roomForCopy⟩ := State.room_of_admission ha
  let r := (s.source b.source.toNat).promote b.raw.toNat
  have admits : s.Admits b.source.toNat (r.commitEvent b ordinal)
      (Sys2Proof.Machine.intakeOf s r b p position c ordinal) := {
    number := Source.lt_of_isOpen ho
    source := rfl
    ordinal := hn
    next := rfl
    opened := ho
    rises := by
      refine Source.boundRises_of_max ho (t := corrected r.segment b.raw.toNat) ?_
      simp only [Source.commitEvent, heldTime, r, Source.promote_watermark, Nat.max_comm]
    live := rfl
    watermark := rfl
    room := room
    roomForCopy := roomForCopy }
  rw [State.admitEvent_eq, State.eventReports_frame]
  exact .settle (.same (.admitted admits) rfl)

theorem State.listMoves_takeEvent (s : State) (b : EventBody) : s.ListMoves (s.takeEvent b) := by
  unfold State.takeEvent
  dsimp only
  split
  · exact .placeAnswer (.refl s)
  · rename_i hc
    have ho := State.isOpen_of_sourceCheck hc
    split
    · exact .placeAnswer (.refl s)
    · rename_i ordinal hn
      split
      · exact .placeAnswer (.report (.countSource (.refl s)))
      · rename_i p _
        have admitted (c : SequenceClass) : s.ListMoves (match s.admission b.source.toNat p.element with
            | some a =>
              (s.countSource b.source.toNat fun k => { k with deferred := satSucc max32 k.deferred }).placeAnswer a
            | none => s.admitEvent b p ((Position.ofReport b.position).getD .bad) c ordinal) := by
          split
          · exact .placeAnswer (.countSource (.refl s))
          · rename_i ha
            exact State.listMoves_admitEvent ho hn ha _ c
        split
        · exact .placeAnswer (.report (.countSource (.refl s)))
        · exact admitted .inOrder
        · exact admitted (.gap _)

/-! ## MERGE_ACT (R55) -/

theorem State.listMoves_insertEvent {s : State} {e : Intake} (he : s.feed.intake = some e) :
    s.ListMoves (s.insertEvent e) := by
  have copies : (s.insertEvent e).outgoing = e.copied s.outgoing := by
    unfold Intake.copied State.insertEvent
    cases e.tie <;> rfl
  have counted : s.ListMoves (State.countSource _ e.key.source fun k => { k with pending := k.pending + 1 }) :=
    .countSource (.inserted he)
  refine counted.same ?_
  simp only [State.listParts, Prod.mk.injEq, copies]
  exact ⟨rfl, rfl, rfl, rfl, rfl, rfl, rfl, rfl, rfl, rfl, rfl, rfl, rfl, rfl⟩

theorem State.listMoves_replaceMatch {s : State} {e : Intake} (he : s.feed.intake = some e) {x : PendingEntry}
    (hr : s.replaces e x = true) (a : Answer) : s.ListMoves ((s.replaceMatch e x).placeAnswer a) := by
  have free : ∀ c ∈ s.outgoing, c.key = x.key → c.held = false := by
    simp only [State.replaces, State.copyBars, Bool.and_eq_true, Bool.not_eq_true', List.any_eq_false,
      Bool.or_eq_true, not_and_or, not_or, beq_iff_eq, Bool.not_eq_true] at hr
    intro c hc hk
    exact (hr.1.2 c hc).elim (absurd hk) And.left
  have counted : s.ListMoves (State.countSource (State.countSource _ x.key.source
      fun k => { k with pending := k.pending - 1, merged := satSucc max32 k.merged }) e.key.source
      fun k => { k with pending := k.pending + 1 }) := .countSource (.countSource (.replaced he free))
  exact counted.same rfl

/-- A confirmation keeps every entry's key (R49). -/
theorem State.listMoves_confirmMatch (s : State) (x : PendingEntry) : s.ListMoves (s.confirmMatch x) :=
  .rewritten _ fun y => by split <;> rfl

theorem State.ListMoves.countMerge {s t : State} (m : s.ListMoves t) (e : Intake) (quality time : Nat) :
    s.ListMoves (t.countMerge e quality time) := by
  simp only [State.countMerge]
  split
  · exact .setSource (.countSource m) rfl (Source.boundRises_of_eq rfl rfl)
  · exact .countSource m

theorem State.listMoves_mergeAct (s : State) : s.ListMoves s.mergeAct := by
  unfold State.mergeAct
  split
  · rename_i e he
    split
    · exact .settle (State.listMoves_insertEvent he)
    · refine .settle ?_
      unfold State.mergeEvent
      split
      · rename_i x _
        dsimp only
        split
        · rename_i hr
          exact State.listMoves_replaceMatch he hr _
        · exact .placeAnswer ((s.listMoves_confirmMatch x).countMerge e _ _)
      · exact .placeAnswer (State.ListMoves.countMerge (.refl s) e _ _)
  · exact .refl s

/-! ## The start of an epoch (R146, R150, R153) -/

/-- A source at the start of an epoch keeps its ordinal where it is UNDECLARED, and starts at 0 (R8, R16). -/
theorem Source.epochStart_nextOrdinal (r : Source) :
    r.epochStart.nextOrdinal = r.nextOrdinal ∨ r.epochStart.nextOrdinal = some 0 := by
  unfold Source.epochStart
  split
  · exact .inl rfl
  · exact .inr rfl

/-- A source open at the start of an epoch has its corrected start bound as watermark (R32). -/
theorem Source.epochStart_marked {r : Source} (h : r.epochStart.isOpen = true) :
    r.epochStart.watermark.isSome = true := by
  unfold Source.epochStart at *
  split at h
  · rename_i hs
    rw [Source.isOpen, hs] at h
    cases h
  · rfl

theorem Transmitter.not_sending_restarted (x : Transmitter) (f : Frame) : x.restarted.state ≠ .sending f := by
  simp only [Transmitter.restarted]
  split <;> exact TxState.noConfusion

/-- A new epoch: the lists empty, the sources at their start, the delivery queue with one record at most. -/
theorem State.emptied_of_epoch {s t : State} (hr : t.sources = s.sources.mapIdx fun _ (r : Source) => r.epochStart)
    (lists : (t.pendingQueue, t.outgoing, t.remotes, t.timers) = ([], [], [], []))
    (hp : t.engine.releasePoint = none) (hi : t.feed.intake = none) (points : t.points = s.points)
    (settings : t.settings = s.settings) (room : t.delivery.queue.length ≤ 1)
    (buffers : t.rx.buffers = s.rx.buffers ∨ t.rx.buffers = [])
    (sending : (s.beforeCommit = true → ∀ f, s.tx.state ≠ .sending f) → ∀ f, t.tx.state ≠ .sending f) :
    s.Emptied t := by
  simp only [Prod.mk.injEq] at lists
  obtain ⟨queue, copies, remotes, timers⟩ := lists
  exact {
    points := by rw [points]; exact id
    delivery := fun _ => room.trans (by decide)
    buffers := fun h => by
      rcases buffers with hb | hb <;> rw [hb]
      · exact h
      · exact Nat.zero_le _
    quiet := by rw [settings]; exact id
    pendingQueue := queue
    outgoing := copies
    remotes := remotes
    timers := timers
    releasePoint := hp
    intake := hi
    ordinals := fun n => by rw [State.source_of_mapIdx hr]; exact Source.epochStart_nextOrdinal _
    marked := fun n => by rw [State.source_of_mapIdx hr]; exact Source.epochStart_marked
    sending := sending }

theorem State.listMoves_restartAct (s : State) (cause : RestartCause) (epoch : Nat) :
    s.ListMoves (s.restartAct cause epoch) := by
  unfold State.restartAct
  refine .settle (.emptied (State.emptied_of_epoch rfl rfl rfl (FeedPort.restarted_intake _) rfl rfl ?_ (.inr rfl) ?_))
  · rw [State.enqueue_queue]
    exact le_rfl
  · exact fun _ => Transmitter.not_sending_restarted _

/-- COMMIT is taken before the first commit of all, where no frame is on the line (R68, R149). -/
theorem State.listMoves_commitAct {s : State} (h : s.beforeCommit = true) : s.ListMoves s.commitAct := by
  unfold State.commitAct
  exact .settle (.emptied (State.emptied_of_epoch rfl rfl rfl rfl rfl rfl (Nat.zero_le 1) (.inl rfl)
    fun free => free h))

theorem State.emptied_powerOnAct (s : State) (straps : BitVec 4) : s.Emptied (s.powerOnAct straps) := by
  have source (n : Nat) : (s.powerOnAct straps).source n = Source.powerOn := by
    simp only [State.source, State.powerOnAct, State.powerOn, Vector.getElem?_replicate]
    split <;> rfl
  exact {
    points := fun _ => Nat.zero_le _
    delivery := fun _ => Nat.zero_le _
    buffers := fun _ => Nat.zero_le _
    quiet := fun _ => show 1 ≤ 5000 by decide
    pendingQueue := rfl
    outgoing := rfl
    remotes := rfl
    timers := rfl
    releasePoint := rfl
    intake := rfl
    ordinals := fun n => .inr (by rw [source]; rfl)
    marked := fun n ho => by rw [source] at ho; cases ho
    sending := fun _ => nofun }

/-! ## Commands (R135) -/

theorem State.listMoves_watchAct (s : State) (n : Nat) (w : WatchMark) : s.ListMoves (s.watchAct n w) := by
  unfold State.watchAct
  split
  · exact .setElement (.refl s)
  · exact .refl s

/-- START begins the replay of a station committed before (R99). -/
theorem State.listMoves_startAct (s : State) : s.ListMoves s.startAct := by
  unfold State.startAct
  exact .settle (.kept { State.ListsKept.refl s with commit := nofun, lw := .inl rfl })

theorem State.listMoves_commandEffect (s : State) (c : Command) : s.ListMoves (s.commandEffect c) := by
  cases c with
  | start _ => exact s.listMoves_startAct
  | hold _ =>
    refine .wantFrame ?_
    exact .same (.refl s) rfl
  | resume _ =>
    refine .wantFrame ?_
    exact .same (.refl s) rfl
  | step _ => exact .same (.refl s) rfl
  | setRate _ _ => exact .same (.refl s) rfl
  | holdAt _ _ => exact .same (.refl s) rfl
  | skipOn _ => exact .same (.refl s) rfl
  | skipOff _ => exact .same (.refl s) rfl
  | watchSet _ _ _ => exact s.listMoves_watchAct _ _
  | watchClear _ _ => exact s.listMoves_watchAct _ _
  | excludePeer _ _ =>
    refine .settleComplete ?_
    exact .same (.refl s) rfl
  | includePeer _ _ =>
    refine .settle ?_
    exact .same (.refl s) rfl
  | snapshot _ => exact .same (.refl s) rfl
  | status _ => exact .refl s
  | skew _ => exact .same (.refl s) rfl
  | restart _ _ => exact s.listMoves_restartAct _ _
  | clearFlags _ _ => exact .same (.refl s) rfl
  | mask _ _ => exact .same (.refl s) rfl
  | malformed _ => exact .refl s

/-- A command's effect leaves a place for its reply: a restart leaves but the RESTARTED record queued, and no other command
queues a record in its effect (R135, R154). -/
theorem State.commandEffect_room {s : State} (h : s.delivery.queue.length < deliveryCapacity) (c : Command) :
    (s.commandEffect c).delivery.queue.length < deliveryCapacity := by
  have watch (n : Nat) (w : WatchMark) : (s.watchAct n w).delivery = s.delivery := by
    unfold State.watchAct
    split <;> rfl
  cases c with
  | restart n b =>
    simp only [State.commandEffect, State.restartAct, State.settle_delivery, State.enqueue_queue]
    exact show 1 < 64 by decide
  | watchSet n e k => simpa only [State.commandEffect, watch] using h
  | watchClear n e => simpa only [State.commandEffect, watch] using h
  | start n => simpa only [State.commandEffect, State.startAct, State.settle_delivery] using h
  | excludePeer n p =>
    simpa only [State.commandEffect, State.excludeAct, State.settleComplete_delivery, State.setPeer_delivery] using h
  | includePeer n p =>
    simpa only [State.commandEffect, State.includeAct, State.settle_delivery, State.setPeer_delivery] using h
  | _ => exact h

theorem State.listMoves_decideCommand {s : State} (room : s.delivery.queue.length < deliveryCapacity) (c : Command) :
    s.ListMoves (s.decideCommand c) := by
  have idle : s.ListMoves { s with console := { s.console with inFlight := none } } := .same (.refl s) rfl
  unfold State.decideCommand
  dsimp only
  split
  · exact idle.enqueue room
  · refine .enqueue (.trans idle (State.listMoves_commandEffect _ c)) (State.commandEffect_room ?_ c)
    exact room

theorem State.ListMoves.decideWaiting {s t : State} (m : s.ListMoves t) : s.ListMoves t.decideWaiting := by
  refine m.trans ?_
  unfold State.decideWaiting
  split
  · split
    · rename_i hc
      exact State.listMoves_decideCommand (State.room_of_canDecide hc) _
    · exact .refl t
  · exact .refl t

theorem State.listMoves_submit (s : State) (c : Command) : s.ListMoves (s.submit c) := by
  unfold State.submit
  split
  · refine .decideWaiting ?_
    exact .same (.refl s) rfl
  · exact .refl s

theorem State.listMoves_commandWriteStart (s : State) : s.ListMoves s.commandWriteStart := by
  unfold State.commandWriteStart
  split
  · exact .report (.refl s)
  · exact .same (.refl s) rfl

/-! ## The feed port (R3, R5) -/

theorem State.listMoves_feedWriteStart (s : State) : s.ListMoves s.feedWriteStart := by
  unfold State.feedWriteStart
  split
  · exact .same (.refl s) rfl
  · exact .report (.refl s)

theorem State.listMoves_takeCommit {s : State} (h : s.beforeCommit = true) : s.ListMoves s.takeCommit := by
  unfold State.takeCommit
  split
  · exact .placeAnswer (.refl s)
  · exact (State.listMoves_commitAct h).decideWaiting

/-- A record's write ends: it is refused or ignored, or handed to its own work (R3, R5). -/
theorem State.listMoves_receiveRecord (s : State) (kind : Byte) {verdict : Option AnswerReason} {work : State → State}
    (hw : verdict = none → s.ListMoves (work s)) : s.ListMoves (s.receiveRecord kind verdict work) := by
  unfold State.receiveRecord
  split
  · split
    · exact .placeAnswer (.refl s)
    · exact hw rfl
  · exact .refl s

end Sys2Proof.Machine
end

section
/-! SUPPORT. How the link, the peer table, delivery, islands, the clock and the release engine move the lists. -/

namespace Sys2Proof.Machine

/-! ## Link (file 04) -/

theorem State.listMoves_heartbeatAct (s : State) : s.ListMoves s.heartbeatAct := by
  unfold State.heartbeatAct
  split
  · rename_i h
    refine .transmit (.refl s) fun f => ?_
    rw [h.1]
    exact ⟨TxState.noConfusion, TxState.noConfusion⟩
  · exact .refl s

theorem State.listMoves_buildFrame (s : State) (quietBits : Nat) : s.ListMoves (s.buildFrame quietBits) := by
  unfold State.buildFrame
  split
  · rename_i h
    exact .carried h.1 h.2.2.2
  · exact .refl s

theorem State.listMoves_failFrame (s : State) {retry : TxState} (hr : ∀ f, retry ≠ .sending f) :
    s.ListMoves (s.failFrame retry) := by
  unfold State.failFrame
  dsimp only
  split
  · exact .reformLink (.report (.abandoned nofun))
  · exact .abandoned hr

theorem State.listMoves_collide (s : State) (bit : Nat) : s.ListMoves (s.collide bit) := by
  unfold State.collide
  split
  · split
    · exact s.listMoves_failFrame nofun
    · exact .refl s
  all_goals exact .refl s

theorem State.listMoves_transmitError (s : State) (bit : Nat) : s.ListMoves (s.transmitError bit) := by
  unfold State.transmitError
  split
  · split
    · exact s.listMoves_failFrame nofun
    · exact .refl s
  all_goals exact .refl s

theorem State.listMoves_countBackoff (s : State) (quietBits : Nat) : s.ListMoves (s.countBackoff quietBits) := by
  unfold State.countBackoff
  split
  · rename_i n hn
    refine .transmit (.refl s) fun f => ?_
    rw [hn]
    dsimp only
    split <;> exact ⟨TxState.noConfusion, TxState.noConfusion⟩
  all_goals exact .refl s

theorem State.listMoves_expireMute (s : State) : s.ListMoves s.expireMute := by
  unfold State.expireMute
  split
  · rename_i n hn
    split
    · refine .reformLink (.transmit (.refl s) fun f => ?_)
      rw [hn]
      exact ⟨TxState.noConfusion, TxState.noConfusion⟩
    · exact .refl s
  all_goals exact .refl s

/-- A frame sent whole announces its entries and frees its copies (R66, R78). -/
theorem State.listMoves_frameSent (s : State) : s.ListMoves s.frameSent := by
  unfold State.frameSent
  split
  · rename_i f _
    have announced : s.ListMoves
        { s with pendingQueue := announceEntries (heldKeys s.outgoing) s.pendingQueue } :=
      .rewritten _ fun x => by split <;> rfl
    have freed : s.ListMoves { s with
        pendingQueue := announceEntries (heldKeys s.outgoing) s.pendingQueue
        outgoing := s.outgoing.filter fun c => !c.held
        tx := ⟨.idle, (s.tx.sequence + 1) % 256, 0, some f.sentContent, some s.station.time⟩ } :=
      announced.trans (.freed nofun)
    exact .settleComplete (freed.same rfl)
  all_goals exact .refl s

theorem State.listMoves_rejectSync (s : State) (p : Preamble) (delimiter : Byte) :
    s.ListMoves (s.rejectSync p delimiter) := by
  unfold State.rejectSync
  split
  · exact .report (.same (.refl s) rfl)
  · exact .refl s

theorem State.listMoves_openFrame (s : State) (p : Preamble) (delimiter : Byte) :
    s.ListMoves (s.openFrame p delimiter) := by
  unfold State.openFrame
  split
  · exact .same (.refl s) rfl
  · exact .refl s

theorem State.listMoves_discardFrame (s : State) (phase : RxPhase) : s.ListMoves (s.discardFrame phase) :=
  .report (.same (.refl s) rfl)

theorem State.listMoves_duplicateStation (s : State) : s.ListMoves s.duplicateStation :=
  .reformLink (.report (.abandoned nofun))

theorem State.listMoves_placeFrame (s : State) (f : Frame) : s.ListMoves (s.placeFrame f) := by
  unfold State.placeFrame
  split
  · exact .same (.refl s) rfl
  · split
    · rename_i room
      refine .kept { State.ListsKept.refl s with buffers := fun _ => ?_, lw := .inl rfl }
      rw [List.length_append]
      exact room
    · exact .report (.same (.refl s) rfl)

theorem State.listMoves_receiveFrame (s : State) (bits : Bits) (own : Bool) :
    s.ListMoves (s.receiveFrame bits own) := by
  unfold State.receiveFrame
  split
  · split
    · exact s.listMoves_discardFrame _
    · exact s.listMoves_discardFrame _
    · rename_i f _
      have searching : s.ListMoves { s with rx := { s.rx with phase := .searching } } := .same (.refl s) rfl
      dsimp only
      split
      · exact searching
      · split
        · exact searching.trans (State.listMoves_duplicateStation _)
        · exact searching.trans (State.listMoves_placeFrame _ f)
  all_goals exact .refl s

/-! ## Peer table (file 05) -/

section
variable {s t : State}

theorem State.ListMoves.countChange {n : Nat} (m : s.ListMoves t) : s.ListMoves (t.countChange n) := .updatePeer m

/-- The buffer of the frame in processing is freed (R72). -/
theorem State.ListMoves.endProcessing (m : s.ListMoves t) : s.ListMoves t.endProcessing := by
  refine .trans m (.kept { State.ListsKept.refl t with buffers := fun h => ?_, lw := .inl rfl })
  exact (List.tail_sublist _).length_le.trans h

theorem State.ListMoves.takeHorizon (m : s.ListMoves t) (f : Frame) : s.ListMoves (t.takeHorizon f) := by
  unfold State.takeHorizon
  split
  · exact .updatePeer m
  · exact .chargePeer m

theorem State.ListMoves.finishFrame (m : s.ListMoves t) (f : Frame) (tracked : Bool) :
    s.ListMoves (t.finishFrame f tracked) :=
  .endProcessing (.updatePeer (m.takeHorizon f))

theorem State.ListMoves.refuseChanges (m : s.ListMoves t) (p : Nat) (cs : List ChangeEntry) :
    s.ListMoves (State.refuseChanges p cs t) := by
  induction cs generalizing t with
  | nil => exact m
  | cons c cs ih => exact ih (.chargePeer m)

end

/-- A change that is not late does not lie below the release point (R85). -/
theorem State.not_lt_of_isLate {s : State} {k : Key} (h : s.isLate k = false) :
    ∀ rp, s.engine.releasePoint = some rp → k.lt rp = false := by
  intro rp hrp
  simpa only [State.isLate, hrp] using h

theorem State.listMoves_takeRouted (s : State) (f : Frame) (c : ChangeEntry) (n : Nat) :
    s.ListMoves (s.takeRouted f c n).state := by
  unfold State.takeRouted
  dsimp only
  split
  · exact .refl s
  · split
    · show s.ListMoves (State.countChange _ _)
      exact .countChange (.chargePeer (.refl s))
    · rename_i onTime
      split
      · exact .refl s
      · rename_i unlisted
        split
        · exact .chargePeer (.updatePeer (.refl s))
        · rename_i room
          show s.ListMoves (State.countChange _ _)
          refine .countChange (.listed (fun x hx hk => unlisted ?_) (Nat.not_le.1 room)
            (State.not_lt_of_isLate (Bool.eq_false_iff.2 onTime)))
          exact List.any_eq_true.2 ⟨x, hx, beq_iff_eq.2 hk⟩

theorem State.listMoves_discardRouted (s : State) (p : Nat) (c : ChangeEntry) :
    s.ListMoves (s.discardRouted p c) := by
  unfold State.discardRouted
  split
  · exact .refl s
  · exact .updatePeer (.refl s)

theorem State.listMoves_takeChange (s : State) (f : Frame) (tracked : Bool) (c : ChangeEntry) :
    s.ListMoves (s.takeChange f tracked c).state := by
  unfold State.takeChange
  split
  · exact .refl s
  · split
    · exact .refl s
    · exact .chargePeer (.refl s)
    · split
      · exact .chargePeer (.refl s)
      · split
        · exact s.listMoves_discardRouted f.sender c
        · exact s.listMoves_takeRouted f c _

theorem State.listMoves_takeChanges (f : Frame) (tracked : Bool) (n : Nat) (cs : List ChangeEntry) (s : State) :
    s.ListMoves (State.takeChanges f tracked n cs s) := by
  induction n, cs, s using State.takeChanges.induct (f := f) (tracked := tracked) with
  | case1 n s =>
    simp only [State.takeChanges]
    exact State.ListMoves.finishFrame (.refl s) f tracked
  | case2 c cs s => exact .same (.refl s) rfl
  | case3 n c cs s t ht ih =>
    have step := s.listMoves_takeChange f tracked c
    rw [ht] at step
    simp only [State.takeChanges, ht]
    exact step.trans ih
  | case4 n c cs s t r ht =>
    have step := s.listMoves_takeChange f tracked c
    rw [ht] at step
    simp only [State.takeChanges, ht]
    exact step.same rfl
  | case5 n c cs s t ht =>
    have step := s.listMoves_takeChange f tracked c
    rw [ht] at step
    simp only [State.takeChanges, ht]
    exact .endProcessing step

theorem State.listMoves_acceptFrame (s : State) (f : Frame) (entries : Nat) :
    s.ListMoves (s.acceptFrame f entries) := by
  have gapped (u : Peer → Peer) : s.ListMoves
      (((s.updatePeer f.sender u).chargePeer f.sender .frameGap f.sender).endProcessing) :=
    .endProcessing (.chargePeer (.updatePeer (.refl s)))
  have taken (tracked : Bool) (u : Peer → Peer) : s.ListMoves
      (State.takeChanges f tracked entries f.changes (s.updatePeer f.sender u)) :=
    .trans (.updatePeer (.refl s)) (State.listMoves_takeChanges f tracked entries f.changes _)
  unfold State.acceptFrame
  dsimp only
  split
  · exact .endProcessing (.updatePeer (.refl s))
  iterate 4
    split
    · exact gapped _
    · exact taken false _
  · exact .endProcessing (.updatePeer (.refl s))
  · exact taken true _
  · split
    · exact .endProcessing (.refuseChanges (.updatePeer (.refl s)) _ _)
    · exact .endProcessing (.updatePeer (.refl s))

theorem State.listMoves_beginFrame (s : State) (f : Frame) (entries : Nat) : s.ListMoves (s.beginFrame f entries) := by
  have counted : s.ListMoves (s.countFrame f.sender) := .updatePeer (.refl s)
  unfold State.beginFrame
  dsimp only
  split
  · exact .decideWaiting (.settleComplete (counted.trans (State.listMoves_acceptFrame _ f entries)))
  · split
    · exact .decideWaiting (counted.trans (State.listMoves_restartAct _ _ _))
    · exact .decideWaiting (.settleComplete (.endProcessing (.updatePeer counted)))

theorem State.listMoves_processFrame (s : State) (entries : Nat) : s.ListMoves (s.processFrame entries) := by
  unfold State.processFrame
  split
  · split
    · exact .decideWaiting (.settleComplete (State.listMoves_takeChanges _ _ _ _ s))
    · exact .refl s
  · split
    · exact .refl s
    · split
      · exact s.listMoves_beginFrame _ entries
      · exact .refl s

theorem State.listMoves_silencePeer (s : State) (n : Nat) : s.ListMoves (s.silencePeer n) := by
  unfold State.silencePeer
  split
  · split
    · exact .reformLink (.updatePeer (.refl s))
    · exact .refl s
  · exact .refl s

/-! ## Delivery (R133), islands (file 08), SNAPSHOT (R122) -/

/-- The oldest record leaves the queue as it is begun (R133). -/
theorem State.listMoves_beginRecord (s : State) : s.ListMoves s.beginRecord := by
  unfold State.beginRecord
  split
  · exact .refl s
  · rename_i r rest hq
    split
    · refine .decideWaiting (.kept { State.ListsKept.refl s with delivery := fun h => ?_, lw := .inl rfl })
      rw [hq] at h
      exact Nat.le_of_succ_le h
    · exact .refl s

theorem State.listMoves_queueHoldState (s : State) : s.ListMoves s.queueHoldState := by
  unfold State.queueHoldState
  split
  · rename_i h
    exact .same (.enqueue (.refl s) (State.room_of_roomForRecord h.2)) rfl
  · exact .refl s

theorem State.listMoves_queueComplete (s : State) : s.ListMoves s.queueComplete := by
  unfold State.queueComplete
  split
  · rename_i h
    exact .same (.enqueue (.refl s) (State.room_of_roomForRecord h.2)) rfl
  · exact .refl s

theorem State.listMoves_emitSkew (s : State) : s.ListMoves s.emitSkew := by
  unfold State.emitSkew
  split
  · exact .refl s
  · split
    · exact .refl s
    · split
      · rename_i h
        exact .same (.enqueue (.refl s) (State.room_of_roomForRecord h)) rfl
      · exact .refl s

theorem State.listMoves_computeRelabel (s : State) : s.ListMoves s.computeRelabel := by
  unfold State.computeRelabel
  split
  · exact .refl s
  · split
    · exact .refl s
    · dsimp only
      split
      · exact .settleComplete (.endRelabel (.same (.refl s) rfl))
      · exact .same (.refl s) rfl

theorem State.listMoves_emitIslands (s : State) : s.ListMoves s.emitIslands := by
  unfold State.emitIslands
  split
  · exact .refl s
  · split
    · exact .refl s
    · split
      · rename_i h
        exact .settleComplete (.endRelabel (.enqueue (.refl s) (State.room_of_roomForRecord h.1)))
      · exact .refl s

theorem State.listMoves_beginEmission (s : State) : s.ListMoves s.beginEmission := by
  unfold State.beginEmission
  split
  · exact .same (.refl s) rfl
  · exact .refl s

theorem State.listMoves_emitElement (s : State) : s.ListMoves s.emitElement := by
  unfold State.emitElement
  split
  · exact .refl s
  · exact .refl s
  · split
    · exact .refl s
    · split
      · rename_i h
        exact .same (.enqueue (.refl s) (State.room_of_roomForRecord h)) rfl
      · exact .refl s

theorem State.listMoves_emitLabels (s : State) : s.ListMoves s.emitLabels := by
  unfold State.emitLabels
  split
  · exact .refl s
  · exact .refl s
  · split
    · rename_i h
      exact .same (.enqueue (.refl s) (State.room_of_roomForRecord h.2)) rfl
    · exact .refl s

/-! ## The clock (R95) -/

theorem State.listMoves_jumpTo (s : State) (target : Nat) : s.ListMoves (s.jumpTo target) := by
  unfold State.jumpTo
  dsimp only
  split
  · split <;> exact .same (.refl s) rfl
  · exact .same (.refl s) rfl

theorem State.listMoves_advanceClock (s : State) : s.ListMoves s.advanceClock := by
  unfold State.advanceClock
  split
  · exact .refl s
  · split
    · split <;> exact .same (.refl s) rfl
    · exact .same (.refl s) rfl

theorem State.listMoves_skipTest (s : State) : s.ListMoves s.skipTest := by
  unfold State.skipTest
  split
  · split
    · exact s.listMoves_jumpTo _
    · exact .refl s
  · exact .refl s

theorem State.listMoves_clockAct (s : State) : s.ListMoves s.clockAct := by
  unfold State.clockAct
  split
  · exact s.listMoves_advanceClock.trans (State.listMoves_skipTest _)
  · exact .refl s

/-- A microsecond of station time leaves the frame on the line (R67, R139). -/
theorem TxState.tick_sending_iff (x : TxState) (f : Frame) : x.tick = .sending f ↔ x = .sending f := by
  cases x with
  | muted expiry => cases expiry <;> exact ⟨TxState.noConfusion, TxState.noConfusion⟩
  | _ => exact .rfl

theorem State.listMoves_countTime (s : State) : s.ListMoves s.countTime :=
  .kept { State.ListsKept.refl s with sending := s.tx.state.tick_sending_iff, lw := .inl rfl }

theorem State.listMoves_tick (s : State) : s.ListMoves s.tick := by
  have acted : s.ListMoves s.countTime.clockAct := s.listMoves_countTime.trans (State.listMoves_clockAct _)
  unfold State.tick
  dsimp only
  rw [State.testLag_spec]
  exact acted.same rfl

theorem State.listMoves_stallAct (s : State) : s.ListMoves s.stallAct := by
  unfold State.stallAct
  split
  · split
    · exact .same (.refl s) rfl
    · exact .refl s
  · exact .refl s

/-! ## Release (R112 to R121) and the apply step (R114) -/

section
variable {s t : State}

/-- A timer set `ahead` of an item whose time the release point does not exceed. -/
theorem State.ListMoves.setTimer (m : s.ListMoves t) {source n time ahead : Nat}
    (kind : source = travelSource ∨ source = quietSource) (hn : n < 256)
    (hp : ∀ k, t.engine.releasePoint = some k → k.time ≤ time) (ha : 1 ≤ t.settings.chatterQ → 0 < ahead) :
    s.ListMoves (t.setTimer source n (time + ahead)) :=
  .trans m (.timerSet kind hn fun hq k hk => (hp k hk).trans_lt (Nat.lt_add_of_pos_right (ha hq)))

theorem State.ListMoves.cancelTimer (m : s.ListMoves t) {source n : Nat} : s.ListMoves (t.cancelTimer source n) :=
  .trans m (.timerCancelled source n)

/-- Travel handling leaves the release point and the settings (R115). -/
theorem State.handleTravel_keeps (t : State) (n : Nat) (e : Element) (prev : Position) (time : Nat) :
    (t.handleTravel n e prev time).1.engine = t.engine ∧ (t.handleTravel n e prev time).1.settings = t.settings := by
  unfold State.handleTravel
  split
  · exact ⟨rfl, rfl⟩
  · split
    · split <;> exact ⟨rfl, rfl⟩
    · split
      · split <;> exact ⟨rfl, rfl⟩
      · split <;> exact ⟨rfl, rfl⟩

section
variable (m : s.ListMoves t) {n time : Nat} (hn : n < 256)
  (hp : ∀ k, t.engine.releasePoint = some k → k.time ≤ time)
include m hn hp

theorem State.ListMoves.handleTravel (e : Element) (prev : Position) :
    s.ListMoves (t.handleTravel n e prev time).1 := by
  unfold State.handleTravel
  split
  · exact m
  · rename_i timed
    split
    · split
      · refine .setTimer (.setElement m) (.inl rfl) hn hp fun _ => ?_
        simp only [Element.timesTravel, Bool.not_eq_true', Bool.not_eq_false, Bool.and_eq_true,
          decide_eq_true_eq] at timed
        exact Nat.mul_pos timed.2 (by decide)
      · exact m
    · split
      · split
        · exact .cancelTimer (.setElement m)
        · exact .setElement m
      · split
        · exact .cancelTimer (.setElement m)
        · exact m

theorem State.ListMoves.handleChatter (e : Element) : s.ListMoves (t.handleChatter n e time).1 := by
  have quiet (x : Element) : s.ListMoves
      ((t.setElement n x).setTimer quietSource n (time + t.settings.chatterQ * 1000)) :=
    .setTimer (.setElement m) (.inr rfl) hn hp fun hq => Nat.mul_pos hq (by decide)
  have counted (x : Element) : s.ListMoves
      (if x.windowCount = t.settings.chatterN then
        ((t.setElement n { x with chatter := .chattering }).setTimer quietSource n
          (time + t.settings.chatterQ * 1000), true, false)
      else (t.setElement n x, false, false)).1 := by
    split
    · exact quiet _
    · exact .setElement m
  unfold State.handleChatter
  split
  · exact quiet _
  · split
    · exact m
    · exact counted _

end

theorem State.ListMoves.finishRecords {r : ReleaseInFlight} (m : s.ListMoves t) : s.ListMoves (t.finishRecords r) :=
  m.same rfl

theorem State.ListMoves.afterRecord {r : ReleaseInFlight} (m : s.ListMoves t) : s.ListMoves (t.afterRecord r) := by
  unfold State.afterRecord
  split
  · exact m.finishRecords
  · exact m.same rfl

theorem State.ListMoves.enterFlight {i : Item} {record : Option RecordBody} {relabels : Bool} (m : s.ListMoves t) :
    s.ListMoves (t.enterFlight i record relabels) := by
  have started : s.ListMoves (if relabels = true then t.startRelabel (.item i.key) else t) := by
    split
    · exact .startRelabel m
    · exact m
  unfold State.enterFlight
  dsimp only
  split
  · exact started.same rfl
  · exact started.afterRecord

theorem State.ListMoves.applyOwn (m : s.ListMoves t) {x : PendingEntry} {e : Element}
    (he : t.elementAt x.element = some e) (hp : ∀ k, t.engine.releasePoint = some k → k.time ≤ x.key.time) :
    s.ListMoves (t.applyOwn x e).state := by
  have hn := State.lt_of_elementAt he
  have counted : s.ListMoves ((t.setElement x.element { e with
      current := x.position, lastRelease := some ⟨x.key.time, x.key.source, x.position⟩ }).countSource x.key.source
      fun k => { k with released := satSucc max32 k.released, pending := k.pending - 1 }) :=
    .countSource (.setElement m)
  unfold State.applyOwn
  dsimp only
  split
  · exact counted
  · refine State.ListMoves.handleChatter (counted.handleTravel hn hp _ _) hn ?_ _
    rw [(State.handleTravel_keeps _ _ _ _ _).1]
    exact hp

/-- The item `i` removed is released (R112, R113, R116, R118). -/
theorem State.ListMoves.releaseItem (m : s.ListMoves t) {i : Item}
    (hp : ∀ k, t.engine.releasePoint = some k → k.time ≤ i.key.time) : s.ListMoves (t.releaseItem i) := by
  cases i with
  | own x =>
    simp only [State.releaseItem, State.releaseOwn]
    split
    · exact m
    · rename_i e he
      exact (m.applyOwn he hp).enterFlight
  | remote r =>
    simp only [State.releaseItem, State.releaseRemote]
    split
    · exact m
    · exact .enterFlight (.setElement m)
  | timer k =>
    simp only [State.releaseItem, State.releaseTravel, State.releaseQuiet]
    split
    · split
      · exact m
      · exact .enterFlight (.setElement m)
    · split
      · exact m
      · exact .enterFlight (.setElement m)

end

theorem State.listMoves_queueReleaseRecord (s : State) : s.ListMoves s.queueReleaseRecord := by
  unfold State.queueReleaseRecord
  split
  · exact .refl s
  · split
    · rename_i h
      have room := State.room_of_roomForRecord h
      split
      · exact .settleComplete (.afterRecord (.enqueue (.refl s) room))
      · rename_i w _ _
        have hit (b : RecordBody) : s.ListMoves ((s.enqueue b).watchHit w) := .same (.enqueue (.refl s) room) rfl
        exact .settleComplete (hit _).finishRecords
      · exact .refl s
    · exact .refl s

theorem State.roomForRecord_of_engineIdle {s : State} (h : s.engineIdle = true) : s.roomForRecord = true := by
  simp only [State.engineIdle, Bool.and_eq_true] at h
  exact h.2

theorem State.listMoves_lateApply (s : State) : s.ListMoves s.lateApply := by
  unfold State.lateApply
  split
  · exact .refl s
  · rename_i r _
    split
    · rename_i h
      have room := State.room_of_roomForRecord (State.roomForRecord_of_engineIdle h)
      have taken : s.ListMoves s.takeHandOver := .same (.refl s) rfl
      split
      · exact taken
      · rename_i e _
        have queued : s.ListMoves
            ((s.takeHandOver.writeRemote r e).enqueue (.remote (remoteRecord r e.current true))) :=
          .enqueue (.setElement taken) room
        dsimp only
        split
        · exact .settleComplete (.startRelabel (queued.same rfl))
        · exact .settleComplete queued
    · exact .refl s

end Sys2Proof.Machine
end

section
/-! SUPPORT. How every step moves the lists, and the four invariants of the lists (O4, O5, O9, O12). -/

namespace Sys2Proof.Machine

/-! ## Every step -/

/-- A step from `s` to `t` moves the lists as `State.ListMoves` says, at most after the removal of the least head, which
then lies below the safe time (R109, R110). -/
def State.StepMoves (s t : State) : Prop :=
  s.ListMoves t ∨ ∃ i, s.leastHead = some i ∧ i.key.time < s.horizon.safeTime ∧ (s.removed i).ListMoves t

theorem State.stepMoves_releaseAct (s : State) : s.StepMoves s.releaseAct := by
  unfold State.releaseAct
  split
  · exact .inl (.refl s)
  · rename_i i hi
    split
    · rename_i hr
      simp only [State.releasable, Bool.and_eq_true, decide_eq_true_eq] at hr
      refine .inr ⟨i, hi, hr.1.1.1.2, ?_⟩
      have stepped : (s.removed i).ListMoves ((s.removed i).completeStep i.key.time) := by
        rw [State.completeStep_eq, State.steppedTo_frame]
        exact .same (.refl _) rfl
      refine .settleComplete (stepped.releaseItem fun k hk => ?_)
      rw [State.completeStep_eq, State.steppedTo_frame] at hk
      cases hk
      exact le_rfl
    · exact .inl (.refl s)

/-- Every command moves the lists so. -/
theorem State.stepMoves_exec {s t : State} {i : Instr} (he : Machine.exec i s = .next t) : s.StepMoves t := by
  have moves {u : State} (hu : Machine.exec i s = .next u) (m : s.ListMoves u) : s.StepMoves t := by
    rw [hu] at he
    cases he
    exact .inl m
  cases i with
  | powerOnReset straps => exact moves rfl (.emptied (s.emptied_powerOnAct straps))
  | feedWriteStart => exact moves rfl s.listMoves_feedWriteStart
  | stationSettings f b =>
    exact moves rfl (s.listMoves_receiveRecord kindSettings fun hv =>
      s.listMoves_takeSettings (screen_eq_none.1 hv).2.2)
  | declareSource f b => exact moves rfl (s.listMoves_receiveRecord kindDeclare fun _ => s.listMoves_takeDeclare b)
  | element f b => exact moves rfl (s.listMoves_receiveRecord kindElement fun _ => s.listMoves_takeElement b)
  | point f b => exact moves rfl (s.listMoves_receiveRecord kindPoint fun _ => s.listMoves_takePoint b)
  | commit f =>
    refine moves rfl (s.listMoves_receiveRecord kindCommit fun hv => State.listMoves_takeCommit ?_)
    exact (s.beforeCommit_iff).2 (.inr (beq_iff_eq.1 (accepted_of_screen hv)))
  | segment f b => exact moves rfl (s.listMoves_receiveRecord kindSegment fun _ => s.listMoves_takeSegment b)
  | event f b => exact moves rfl (s.listMoves_receiveRecord kindEvent fun _ => s.listMoves_takeEvent b)
  | progress f b => exact moves rfl (s.listMoves_receiveRecord kindProgress fun _ => s.listMoves_takeProgress b)
  | endSource f n => exact moves rfl (s.listMoves_receiveRecord kindEndSource fun _ => s.listMoves_takeEndSource n)
  | malformedFeedRecord kind n =>
    exact moves rfl (s.listMoves_receiveRecord kind fun _ => s.listMoves_takeMalformed kind n)
  | mergeAct => exact moves rfl s.listMoves_mergeAct
  | commandWriteStart => exact moves rfl s.listMoves_commandWriteStart
  | start n => exact moves rfl (s.listMoves_submit _)
  | hold n => exact moves rfl (s.listMoves_submit _)
  | resume n => exact moves rfl (s.listMoves_submit _)
  | step n => exact moves rfl (s.listMoves_submit _)
  | setRate n r => exact moves rfl (s.listMoves_submit _)
  | holdAt n w => exact moves rfl (s.listMoves_submit _)
  | skipOn n => exact moves rfl (s.listMoves_submit _)
  | skipOff n => exact moves rfl (s.listMoves_submit _)
  | watchSet n e k => exact moves rfl (s.listMoves_submit _)
  | watchClear n e => exact moves rfl (s.listMoves_submit _)
  | excludePeer n p => exact moves rfl (s.listMoves_submit _)
  | includePeer n p => exact moves rfl (s.listMoves_submit _)
  | snapshot n => exact moves rfl (s.listMoves_submit _)
  | status n => exact moves rfl (s.listMoves_submit _)
  | skew n => exact moves rfl (s.listMoves_submit _)
  | restart n b => exact moves rfl (s.listMoves_submit _)
  | clearFlags n f => exact moves rfl (s.listMoves_submit _)
  | mask n m => exact moves rfl (s.listMoves_submit _)
  | malformedCommand k => exact moves rfl (s.listMoves_submit _)
  | consoleReadyAssert => exact moves rfl (.same (.refl s) rfl)
  | consoleReadyWithdraw => exact moves rfl (.same (.refl s) rfl)
  | deliveryRecordBegin => exact moves rfl s.listMoves_beginRecord
  | deliveryRecordEnd => exact moves rfl (.same (.refl s) rfl)
  | heartbeat => exact moves rfl s.listMoves_heartbeatAct
  | frameBuild q => exact moves rfl (s.listMoves_buildFrame q)
  | collision bit => exact moves rfl (s.listMoves_collide bit)
  | transmitError bit => exact moves rfl (s.listMoves_transmitError bit)
  | frameSentWhole => exact moves rfl s.listMoves_frameSent
  | backoffDone q => exact moves rfl (s.listMoves_countBackoff q)
  | muteExpiry => exact moves rfl s.listMoves_expireMute
  | syncReject p d => exact moves rfl (s.listMoves_rejectSync p d)
  | frameOpened p d => exact moves rfl (s.listMoves_openFrame p d)
  | frameReceive bits own => exact moves rfl (s.listMoves_receiveFrame bits own)
  | frameProcessing n => exact moves rfl (s.listMoves_processFrame n)
  | peerSilenceTimeout p => exact moves rfl (s.listMoves_silencePeer p.toNat)
  | release =>
    cases he
    exact s.stepMoves_releaseAct
  | releaseRecordQueue => exact moves rfl s.listMoves_queueReleaseRecord
  | lateApply => exact moves rfl s.listMoves_lateApply
  | relabelComputed => exact moves rfl s.listMoves_computeRelabel
  | islandsEmit => exact moves rfl s.listMoves_emitIslands
  | snapshotEmitting => exact moves rfl s.listMoves_beginEmission
  | elementState => exact moves rfl s.listMoves_emitElement
  | nodeLabels => exact moves rfl s.listMoves_emitLabels
  | skewRecord => exact moves rfl s.listMoves_emitSkew
  | holdState => exact moves rfl s.listMoves_queueHoldState
  | completeRecord => exact moves rfl s.listMoves_queueComplete
  | clockAdvance => exact moves rfl s.listMoves_tick
  | stallTimeout => exact moves rfl s.listMoves_stallAct

/-- Every step moves the lists so; the command it takes from the queue moves none. -/
theorem State.stepMoves_step {s t : State} (hstep : Machine.step s = .next t) : s.StepMoves t := by
  rcases step_next hstep with ⟨-, rfl⟩ | ⟨i, rest, -, hi⟩
  · exact .inl (.refl _)
  · have popped : s.ListMoves { s with pending := rest } := .same (.refl s) rfl
    rcases State.stepMoves_exec hi with m | ⟨item, head, safe, m⟩
    · exact .inl (popped.trans m)
    · refine .inr ⟨item, head, safe, .trans ?_ m⟩
      cases item <;> exact .same (.refl _) rfl

/-! ## The invariants of the lists -/

/-- Settles O4: every insertion is of a key whose ordinal no item held has, and every other write keeps or drops keys. -/
theorem listsStaySorted : Obligations.ListsStaySorted := by
  intro s t sorted fresh hstep
  have before : s.Ordered := ⟨sorted, fresh⟩
  have after : t.Ordered := by
    rcases State.stepMoves_step hstep with m | ⟨i, -, -, m⟩
    · exact before.moved m
    · exact (before.removed i).moved m
  exact ⟨after.sorted, after.fresh⟩

/-- Settles O5: every buffer grows only where a test found a free entry, the timer list by its shape. -/
theorem capacitiesHold : Obligations.CapacitiesHold := by
  intro s t h hstep
  rcases State.stepMoves_step hstep with m | ⟨i, -, -, m⟩
  · exact h.moved m
  · exact (h.removed i).moved m

/-- Settles O9: copies become held as their frame is built, and are freed or abandoned as it leaves the line; an insertion
or a merge in between touches no held copy. -/
theorem heldCopiesMatchTheFrame : Obligations.HeldCopiesMatchTheFrame := by
  intro s t h silent hstep
  have before : s.HeldOnLine := ⟨h, fun hc => silent.not_sending hc⟩
  rcases State.stepMoves_step hstep with m | ⟨i, -, -, m⟩
  · exact (before.moved m).agree
  · exact ((before.removed i).moved m).agree

/-- Settles O12: what enters a list lies above the release point or, in the Remote Change List, not below it; the release
point moves with a removal alone, to the least of the heads, which lies below the safe time and so below LW. -/
theorem releasePointStaysBelow : Obligations.ReleasePointStaysBelow := by
  intro s t law horizon bounds sorted _ hstep
  have before := law.pointBelow horizon bounds
  rcases State.stepMoves_step hstep with m | ⟨i, head, safe, m⟩
  · refine ⟨(before.moved m).law, fun k k' hk hk' hne => ?_⟩
    rcases m.releasePoint with h | h
    · exact absurd (Option.some.inj (hk'.symm.trans (h.trans hk))) hne
    · cases hk'.symm.trans h
  · have after := before.removed horizon bounds sorted head safe
    refine ⟨(after.moved m).law, fun k k' hk hk' hne => ?_⟩
    rcases m.releasePoint with h | h
    · obtain rfl : i.key = k' := Option.some.inj (h.symm.trans hk')
      rcases Key.not_lt (law.not_lt_leastHead head hk) with above | same
      · exact above
      · exact absurd same.symm hne
    · cases hk'.symm.trans h

end Sys2Proof.Machine
end

section
/-! SUPPORT. The candidates of a record, the conditions of a match and the nearest of the matches (R45 to R47), and their
statement (O33). -/

namespace Sys2Proof.Machine

/-! ## The candidates (R45) -/

/-- The own event of an element that the release engine holds in flight (R42). -/
theorem State.ownInFlight_iff (s : State) (n : Nat) (x : PendingEntry) : s.ownInFlight n = some x ↔
    ∃ r, s.engine.inFlight = some r ∧ r.item = .own x ∧ x.element = n := by
  unfold State.ownInFlight
  cases s.engine.inFlight with
  | none => simp
  | some r =>
    simp only [Option.some.injEq, exists_eq_left']
    cases r.item with
    | own y =>
      simp only [Item.own.injEq]
      constructor
      · intro h
        split at h <;> cases h
        exact ⟨rfl, ‹_›⟩
      · rintro ⟨rfl, hy⟩
        exact if_pos hy
    | remote _ => simp
    | timer _ => simp

theorem State.ownInFlight_eq_none_iff (s : State) (n : Nat) : s.ownInFlight n = none ↔
    ∀ x, ¬ ∃ r, s.engine.inFlight = some r ∧ r.item = .own x ∧ x.element = n := by
  rw [Option.eq_none_iff_forall_ne_some]
  simp only [ne_eq, State.ownInFlight_iff]

/-- The last release of an element as a candidate, where it records a source 0 .. 31 (R45). -/
theorem State.releasedCandidate_of_idle {s : State} {n : Nat} (h : s.ownInFlight n = none) (y : Candidate) :
    s.releasedCandidate n = some y ↔ ∃ f l, s.elementAt n = some f ∧ f.lastRelease = some l ∧ l.source ≤ 31 ∧
      y = s.releasedAs l.time l.source l.position := by
  simp only [State.releasedCandidate, h]
  constructor
  · intro hy
    split at hy
    · rename_i l hl
      obtain ⟨f, hf, hl⟩ := Option.bind_eq_some_iff.1 hl
      split at hy <;> cases hy
      exact ⟨f, l, hf, hl, ‹_›, rfl⟩
    · cases hy
  · rintro ⟨f, l, hf, hl, hs, rfl⟩
    simp only [hf, Option.bind_some, hl, if_pos hs]

theorem State.releasedCandidate_iff (s : State) (n : Nat) (y : Candidate) : s.releasedCandidate n = some y ↔
    (∃ x, s.ownInFlight n = some x ∧ y = s.releasedAs x.key.time x.key.source x.position) ∨
    s.ownInFlight n = none ∧ ∃ f l, s.elementAt n = some f ∧ f.lastRelease = some l ∧ l.source ≤ 31 ∧
      y = s.releasedAs l.time l.source l.position := by
  cases h : s.ownInFlight n with
  | none =>
    rw [State.releasedCandidate_of_idle h]
    simp
  | some x =>
    simp only [State.releasedCandidate, h, Option.some.injEq, exists_eq_left', reduceCtorEq, false_and, or_false]
    exact eq_comm

theorem State.mem_candidates_iff (s : State) (n : Nat) (y : Candidate) : y ∈ s.candidates n ↔
    (∃ p ∈ s.pendingQueue, p.element = n ∧ y = s.pendingCandidate p) ∨ s.releasedCandidate n = some y := by
  simp only [State.candidates, List.mem_append, Option.mem_toList, List.mem_map, List.mem_filter,
    beq_iff_eq]
  constructor
  · rintro (h | ⟨p, ⟨hp, he⟩, rfl⟩)
    · exact .inr h
    · exact .inl ⟨p, hp, he, rfl⟩
  · rintro (⟨p, hp, he, rfl⟩ | h)
    · exact .inr ⟨p, ⟨hp, he⟩, rfl⟩
    · exact .inl h

/-- A candidate is taken with the window of its source (R45). -/
theorem State.window_of_mem_candidates {s : State} {n : Nat} {y : Candidate} (h : y ∈ s.candidates n) :
    y.window = s.windowOf y.source := by
  rcases (s.mem_candidates_iff n y).1 h with ⟨p, -, -, rfl⟩ | hr
  · rfl
  · rcases (s.releasedCandidate_iff n y).1 hr with ⟨x, -, rfl⟩ | ⟨-, f, l, -, -, -, rfl⟩ <;> rfl

/-- The released candidate stands first: every later one is pending. -/
theorem State.candidates_pending (s : State) (n : Nat) :
    (s.candidates n).Pairwise fun _ y => y.pending.isSome = true := by
  have pending : ∀ y ∈ (s.pendingQueue.filter fun x => x.element == n).map s.pendingCandidate,
      y.pending.isSome = true := by
    intro y hy
    obtain ⟨p, -, rfl⟩ := List.mem_map.1 hy
    rfl
  refine List.pairwise_append.2 ⟨?_, List.pairwise_of_forall_mem_list fun _ _ y hy => pending y hy,
    fun _ _ y hy => pending y hy⟩
  cases s.releasedCandidate n with
  | none => exact .nil
  | some c => exact List.pairwise_singleton _ _

/-- The pending candidates stand in key order (R39, R47). -/
theorem State.candidates_sorted {s : State} (h : s.ListsSorted) (n : Nat) :
    (s.candidates n).Pairwise fun x y => ∀ p q, x.pending = some p → y.pending = some q → p.key.lt q.key = true := by
  have released {c : Candidate} (hc : c ∈ (s.releasedCandidate n).toList) : c.pending = none := by
    rcases (s.releasedCandidate_iff n c).1 (Option.mem_toList.1 hc) with ⟨x, -, rfl⟩ | ⟨-, f, l, -, -, -, rfl⟩ <;> rfl
  refine List.pairwise_append.2 ⟨?_, ?_, fun c hc y _ p q hp => by cases (released hc).symm.trans hp⟩
  · cases s.releasedCandidate n with
    | none => exact .nil
    | some c => exact List.pairwise_singleton _ _
  · refine List.pairwise_map.2 ((h.pendingQueue.filter _).imp fun hlt p q hp hq => ?_)
    cases hp
    cases hq
    exact hlt

/-! ## The conditions and the choice (R46, R47) -/

theorem timeDistance_eq (a b : Nat) : timeDistance a b = ((a : Int) - b).natAbs := by
  unfold timeDistance
  omega

theorem State.candidateMatches_iff (s : State) (e : Intake) (x : Candidate) : s.candidateMatches e x = true ↔
    x.position = e.position ∧ x.source ≠ e.key.source ∧
      timeDistance e.key.time x.time ≤ max (s.windowOf e.key.source) x.window := by
  simp only [State.candidateMatches, Bool.and_eq_true, beq_iff_eq, bne_iff_ne, ne_eq, decide_eq_true_eq, and_assoc]

theorem nearest_eq_none_iff (t : Nat) (xs : List Candidate) : nearest t xs = none ↔ xs = [] := by
  cases xs with
  | nil => exact ⟨fun _ => rfl, fun _ => rfl⟩
  | cons x xs =>
    simp only [nearest, reduceCtorEq, iff_false]
    split
    · exact Option.some_ne_none x
    · split <;> exact Option.some_ne_none _

/-- The nearest candidate is nearer than every one before it and at least as near as every one after it (R47). -/
theorem nearest_split {t : Nat} {x : Candidate} {xs : List Candidate} (h : nearest t xs = some x) :
    ∃ before after, xs = before ++ x :: after ∧
      (∀ y ∈ before, timeDistance t x.time < timeDistance t y.time) ∧
      ∀ y ∈ after, timeDistance t x.time ≤ timeDistance t y.time := by
  induction xs generalizing x with
  | nil => cases h
  | cons c cs ih =>
    simp only [nearest] at h
    split at h
    · rename_i hn
      cases h
      obtain rfl := (nearest_eq_none_iff t cs).1 hn
      exact ⟨[], [], rfl, List.forall_mem_nil _, List.forall_mem_nil _⟩
    · rename_i z hz
      obtain ⟨before, after, rfl, nearer, asNear⟩ := ih hz
      split at h <;> cases h
      · rename_i hlt
        refine ⟨c :: before, after, rfl, fun y hy => ?_, asNear⟩
        rcases List.mem_cons.1 hy with rfl | hy
        · exact hlt
        · exact nearer y hy
      · rename_i hle
        refine ⟨[], before ++ z :: after, rfl, List.forall_mem_nil _, fun y hy => (Nat.not_lt.1 hle).trans ?_⟩
        rcases List.mem_append.1 hy with hy | hy
        · exact (nearer y hy).le
        · rcases List.mem_cons.1 hy with rfl | hy
          · exact le_rfl
          · exact asNear y hy

/-- The candidates of the record in intake that match it. -/
theorem State.mem_matches_iff (s : State) (e : Intake) (y : Candidate) :
    y ∈ (s.candidates e.element).filter (s.candidateMatches e) ↔ y ∈ s.candidates e.element ∧
      y.position = e.position ∧ y.source ≠ e.key.source ∧
      timeDistance e.key.time y.time ≤ max (s.windowOf e.key.source) (s.windowOf y.source) := by
  rw [List.mem_filter, State.candidateMatches_iff]
  refine and_congr_right fun hy => ?_
  rw [State.window_of_mem_candidates hy]

/-- The match is nearest, and of equally near ones that which stands first: the released one, then that of least key. -/
theorem State.findMatch_spec {s : State} {e : Intake} {x : Candidate} (h : s.findMatch e = some x) {y : Candidate}
    (hy : y ∈ (s.candidates e.element).filter (s.candidateMatches e)) :
    timeDistance e.key.time x.time ≤ timeDistance e.key.time y.time ∧
    (timeDistance e.key.time y.time = timeDistance e.key.time x.time → x ≠ y → y.pending.isSome = true ∧
      (s.ListsSorted → ∀ p q, x.pending = some p → y.pending = some q → p.key.lt q.key = true)) := by
  obtain ⟨before, after, split, nearer, asNear⟩ := nearest_split h
  have pending := (s.candidates_pending e.element).filter (s.candidateMatches e)
  have sorted (hs : s.ListsSorted) := (State.candidates_sorted hs e.element).filter (s.candidateMatches e)
  rw [split] at hy pending sorted
  rcases List.mem_append.1 hy with hy | hy
  · have := nearer y hy
    exact ⟨this.le, fun heq => by omega⟩
  · rcases List.mem_cons.1 hy with rfl | hy
    · exact ⟨le_rfl, fun _ hne => absurd rfl hne⟩
    · have first {R : Candidate → Candidate → Prop} (hp : (before ++ x :: after).Pairwise R) : R x y :=
        (List.pairwise_cons.1 (List.pairwise_append.1 hp).2.1).1 y hy
      exact ⟨asNear y hy, fun _ _ => ⟨first pending, fun hs => first (sorted hs)⟩⟩

/-- Settles O33: the candidates are listed with the released one first and the pending ones in key order, and the first of
the nearest matches is chosen. -/
theorem theNearestCandidateMatches : Obligations.TheNearestCandidateMatches := by
  intro s e released flying
  refine ⟨fun y => ?_, fun n => rfl, timeDistance_eq, ?_⟩
  · rw [State.mem_candidates_iff, State.releasedCandidate_iff, State.ownInFlight_eq_none_iff]
    simp only [State.ownInFlight_iff]
    rfl
  intro matching
  have matches_iff (y : Candidate) : y ∈ (s.candidates e.element).filter (s.candidateMatches e) ↔ matching y :=
    s.mem_matches_iff e y
  refine ⟨?_, fun x hx => ⟨(matches_iff x).1 (mem_of_nearest hx), fun y hy => ?_⟩⟩
  · rw [State.findMatch, nearest_eq_none_iff, List.eq_nil_iff_forall_not_mem]
    exact forall_congr' fun y => not_congr (matches_iff y)
  · exact State.findMatch_spec hx ((matches_iff y).2 hy)

end Sys2Proof.Machine
end

section
/-! SUPPORT. The failures of the transmitter and the expiries (R41, R63 to R65, R67, R89, R107), each act by the condition
it takes effect under, and their statement (O56). -/

namespace Sys2Proof.Machine

/-! ## The rows -/

theorem exec_collision (bit : Nat) (s : State) : exec (.collision bit) s = .next (s.collide bit) := rfl

theorem exec_transmitError (bit : Nat) (s : State) : exec (.transmitError bit) s = .next (s.transmitError bit) := rfl

theorem exec_backoffDone (quietBits : Nat) (s : State) :
    exec (.backoffDone quietBits) s = .next (s.countBackoff quietBits) := rfl

theorem exec_muteExpiry (s : State) : exec .muteExpiry s = .next s.expireMute := rfl

theorem exec_peerSilenceTimeout (p : BitVec 4) (s : State) :
    exec (.peerSilenceTimeout p) s = .next (s.silencePeer p.toNat) := rfl

theorem exec_stallTimeout (s : State) : exec .stallTimeout s = .next s.stallAct := rfl

/-! ## The length of a frame (R57) -/

@[simp] theorem length_bitsOf (w n : Nat) : (bitsOf w n).length = w := by
  induction w with
  | zero => rfl
  | succ w ih => simp only [bitsOf, List.length_cons, ih]

@[simp] theorem ChangeEntry.length_bits (c : ChangeEntry) : c.bits.length = 104 := by
  simp only [ChangeEntry.bits, List.length_append, length_bitsOf, List.length_singleton]

theorem Frame.length_symbols (f : Frame) : f.symbols.length = 128 + 104 * f.changes.length := by
  have changes : (f.changes.flatMap ChangeEntry.bits).length = f.changes.length * 104 := by
    rw [List.length_flatMap]
    simp only [ChangeEntry.length_bits, List.map_const', List.sum_replicate, smul_eq_mul]
  simp only [Frame.symbols, preambleSymbols, delimiterSymbols, Frame.bits, Frame.coveredBits, Frame.headerBits,
    List.length_append, List.length_map, List.length_range, length_bitsOf, List.length_singleton, changes]
  omega

/-! ## The LINK condition re-formed (R137) -/

/-- The LINK condition re-formed on a state whose attention unit is that of `s`. -/
theorem State.linkFollows_reformLink {s t : State} (h : t.attention = s.attention) : s.LinkFollows t.reformLink where
  frame := by rw [← h]; rfl
  link := t.reformLink_agrees
  flag := by rw [← h]; rfl

/-- A report writes the attention unit as the attention unit and the station time give it. -/
theorem State.report_attention_congr {s t : State} (kind : ErrorKind) (subject : Option Nat)
    (ha : t.attention = s.attention) (ht : t.station.time = s.station.time) :
    (t.report kind subject).attention = (s.report kind subject).attention := by
  unfold State.report
  simp only [ha, ht]
  split <;> rfl

/-! ## Failures (R41, R63, R65, R67) -/

/-- A failure before the sixteenth in succession: the frame is abandoned and the transmitter tries again. -/
theorem State.failFrame_retries {s : State} (h : s.tx.failures < 15) (retry : TxState) :
    s.failFrame retry = { s with
      outgoing := abandonCopies s.outgoing, tx := { s.tx with failures := s.tx.failures + 1, state := retry } } := by
  have few : ¬ failureLimit ≤ s.tx.failures + 1 := by
    simp only [failureLimit]
    omega
  simp only [State.failFrame, if_neg few]

/-- The sixteenth failure in succession mutes the transmitter for 200 ms. -/
theorem State.failFrame_mutes {s : State} (h : s.tx.failures = 15) (retry : TxState) :
    s.failFrame retry = { s with
      outgoing := abandonCopies s.outgoing
      tx := { s.tx with failures := 16, state := .muted (some 200000) }
      attention := (s.failFrame retry).attention } ∧
    (s.report .muted none).LinkFollows (s.failFrame retry) := by
  set muted : State := { s with
    outgoing := abandonCopies s.outgoing, tx := { s.tx with failures := 16, state := .muted (some 200000) } }
  have act : s.failFrame retry = (muted.report .muted none).reformLink := by
    simp only [State.failFrame, h]
    rfl
  rw [act]
  refine ⟨?_, State.linkFollows_reformLink (State.report_attention_congr _ _ rfl rfl)⟩
  have frame := (muted.reported_report .muted none).frame
  rw [frame]
  rfl

section
variable {s : State}

theorem State.collide_sending {f : Frame} (h : s.tx.state = .sending f) {bit : Nat} (hl : 1 ≤ bit) (hu : bit ≤ 64) :
    s.collide bit = s.failFrame (.backoff (backoffBits s.station.number)) := by
  simp only [State.collide, h]
  exact if_pos ⟨hl, hu⟩

theorem State.collide_ignored {bit : Nat} (h : (∀ f, s.tx.state ≠ .sending f) ∨ bit = 0 ∨ 64 < bit) :
    s.collide bit = s := by
  unfold State.collide
  split
  · rename_i f hf
    refine if_neg fun hb => ?_
    rcases h with hn | h
    · exact hn f hf
    · simp only [collisionWindow] at hb
      omega
  all_goals rfl

theorem State.transmitError_sending {f : Frame} (h : s.tx.state = .sending f) {bit : Nat} (hl : 64 < bit)
    (hu : bit ≤ 128 + 104 * f.changes.length) : s.transmitError bit = s.failFrame .waiting := by
  simp only [State.transmitError, h, f.length_symbols]
  exact if_pos ⟨hl, hu⟩

theorem State.transmitError_ignored {bit : Nat}
    (h : ∀ f, s.tx.state = .sending f → bit ≤ 64 ∨ 128 + 104 * f.changes.length < bit) : s.transmitError bit = s := by
  unfold State.transmitError
  split
  · rename_i f hf
    refine if_neg fun hb => ?_
    have := h f hf
    simp only [collisionWindow, f.length_symbols] at hb
    omega
  all_goals rfl

/-! ## Backoff and mute (R64, R67) -/

theorem State.countBackoff_backoff {n : Nat} (h : s.tx.state = .backoff n) (quietBits : Nat) :
    s.countBackoff quietBits = { s with
      tx := { s.tx with state := if n ≤ quietBits then .waiting else .backoff (n - quietBits) } } := by
  simp only [State.countBackoff, h]

theorem State.countBackoff_ignored (h : ∀ n, s.tx.state ≠ .backoff n) (quietBits : Nat) :
    s.countBackoff quietBits = s := by
  unfold State.countBackoff
  split
  · exact absurd ‹_› (h _)
  all_goals rfl

theorem State.expireMute_expired (h : s.tx.state = .muted (some 0)) :
    s.expireMute = ({ s with tx := { s.tx with state := .waiting, failures := 0 } } : State).reformLink := by
  simp only [State.expireMute, h, if_true]

theorem State.expireMute_ignored (h : ∀ n, s.tx.state = .muted n → n ≠ some 0) : s.expireMute = s := by
  unfold State.expireMute
  split
  · rename_i n hn
    exact if_neg fun h0 => h _ hn (congrArg some h0)
  all_goals rfl

/-! ## Silence (R89) -/

theorem State.inProcessing_eq_true_iff {n : Nat} : s.inProcessing n = true ↔
    ∃ pr, s.processing = some pr ∧ pr.frame.sender = n ∧ pr.tracked = false := by
  unfold State.inProcessing
  cases s.processing with
  | none => simp
  | some pr => simp

/-- A peer silent for 40 ms with no accepted frame in processing becomes SILENT. -/
theorem State.silencePeer_silent {n k : Nat} (ha : (s.peer n).state = .active) (hk : (s.peer n).silence = some k)
    (hl : 40000 ≤ k) (hp : s.inProcessing n = false) :
    s.silencePeer n = (s.updatePeer n fun p => { p with state := .silent, silence := none }).reformLink := by
  simp only [State.silencePeer, hk]
  exact if_pos ⟨ha, hl, hp⟩

/-- A peer not ACTIVE or without a timer, one whose timer is below 40 ms, and one with an accepted frame in processing stay
as they are (log entry 22). -/
theorem State.silencePeer_ignored {n : Nat} (h : (s.peer n).state ≠ .active ∨
    (∀ k, (s.peer n).silence = some k → k < 40000) ∨ s.inProcessing n = true) : s.silencePeer n = s := by
  unfold State.silencePeer
  split
  · rename_i k hk
    refine if_neg fun ⟨active, long, idle⟩ => ?_
    rcases h with hs | hs | hs
    · exact hs active
    · exact absurd (hs k hk) (Nat.not_lt.2 long)
    · rw [hs] at idle
      cases idle
  · rfl

theorem State.peer_reformLink (n : Nat) : s.reformLink.peer n = s.peer n :=
  State.peer_congr s.reformLink_peers n

theorem State.peer_updatePeer (n m : Nat) (f : Peer → Peer) :
    (s.updatePeer n f).peer m = if m = n ∧ n < 16 then f (s.peer n) else s.peer m :=
  s.peer_setPeer n m (f (s.peer n))

/-! ## Stall (R107) -/

theorem State.stallAct_stalled {k : Nat} (h : s.clock.stallTimer = some k) (hk : 100000 ≤ k) :
    s.stallAct = { s with
      clock := { s.clock with stall := true, stallTimer := none }
      attention := { s.attention with flags := { s.attention.flags with stall := true } } } := by
  simp only [State.stallAct, h]
  exact if_pos hk

theorem State.stallAct_ignored (h : ∀ k, s.clock.stallTimer = some k → k < 100000) : s.stallAct = s := by
  unfold State.stallAct
  split
  · rename_i k hk
    exact if_neg (Nat.not_le.2 (h k hk))
  · rfl

end

/-- Settles O56: each failure and each expiry takes effect under its condition, and outside it its row does nothing. -/
theorem failuresAndExpiriesTakeEffect : Obligations.FailuresAndExpiriesTakeEffect := by
  intro s
  refine ⟨fun f bit hf => ⟨fun hl hu few => ?_, fun hl hu few => ?_, fun c hc last => ?_⟩,
    fun bit => ⟨fun h => ?_, fun h => ?_⟩, fun quiet h => ?_, fun n quiet h => ?_, fun h => ?_, fun h => ?_,
    fun p k active timer => ⟨fun long idle => ?_, fun short => ?_⟩, fun p h => ?_, fun k h hk => ?_, fun h => ?_⟩
  · rw [exec_collision, State.collide_sending hf hl hu, State.failFrame_retries few]
    rfl
  · rw [exec_transmitError, State.transmitError_sending hf hl hu, State.failFrame_retries few]
    rfl
  · rcases hc with ⟨rfl, hl, hu⟩ | ⟨rfl, hl, hu⟩
    · rw [exec_collision, State.collide_sending hf hl hu]
      exact ⟨_, rfl, State.failFrame_mutes last _⟩
    · rw [exec_transmitError, State.transmitError_sending hf hl hu]
      exact ⟨_, rfl, State.failFrame_mutes last _⟩
  · rw [exec_collision, State.collide_ignored h]
  · rw [exec_transmitError, State.transmitError_ignored h]
  · rw [exec_backoffDone, State.countBackoff_ignored h]
  · rw [exec_backoffDone, State.countBackoff_backoff h]
  · rw [exec_muteExpiry, State.expireMute_expired h]
    exact ⟨_, rfl, rfl, State.linkFollows_reformLink rfl⟩
  · rw [exec_muteExpiry, State.expireMute_ignored h]
  · have unprocessed : s.inProcessing p.toNat = false := by
      rw [← Bool.not_eq_true, State.inProcessing_eq_true_iff]
      rintro ⟨pr, hpr, sender, accepted⟩
      rw [idle pr hpr sender] at accepted
      cases accepted
    rw [exec_peerSilenceTimeout, State.silencePeer_silent active timer long unprocessed]
    refine ⟨_, rfl, rfl, ?_, fun n hn => ?_, State.linkFollows_reformLink rfl⟩
    · exact (State.peer_reformLink _).trans ((s.peer_updatePeer _ _ _).trans (if_pos ⟨rfl, p.isLt⟩))
    · exact (State.peer_reformLink _).trans ((s.peer_updatePeer _ _ _).trans (if_neg fun h => hn h.1))
  · have below (k' : Nat) (h' : (s.peer p.toNat).silence = some k') : k' < 40000 := by
      cases timer.symm.trans h'
      exact short
    rw [exec_peerSilenceTimeout, State.silencePeer_ignored (.inr (.inl below))]
  · rw [exec_peerSilenceTimeout, State.silencePeer_ignored]
    rcases h with h | h | h
    · exact .inl h
    · exact .inr (.inl fun k hk => by cases h.symm.trans hk)
    · exact .inr (.inr (State.inProcessing_eq_true_iff.2 h))
  · rw [exec_stallTimeout, State.stallAct_stalled h hk]
  · rw [exec_stallTimeout, State.stallAct_ignored h]

end Sys2Proof.Machine
end

section
/-! SUPPORT. A console command decided at once (R135), and the three that act on the hold cause set and the step (R100, R101)
with their statement (O37). -/

namespace Sys2Proof.Machine

/-! ## A command decided at once (R135, R136) -/

/-- A command that waits for no frame processing is decided as its write ends, where a delivery entry is free. -/
theorem State.submit_decided {s : State} (h : s.DecidesAtOnce) {c : Command} (hc : waitsForProcessing c = false) :
    s.submit c = s.written.decideCommand c := by
  have can : s.canDecide c = true := by
    simp only [State.canDecide, State.roomForReply, h.room, hc, decide_true, Bool.not_false, Bool.true_or, Bool.and_self]
  rw [State.submit_spec h.writing, if_pos can]

theorem State.submit_refused {s : State} (h : s.DecidesAtOnce) {c : Command} (hc : waitsForProcessing c = false)
    {r : RefuseReason} (ht : s.written.commandTest c = some r) :
    s.submit c = s.written.withReply (commandKind c) (some r) false := by
  rw [State.submit_decided h hc, State.decideCommand_refused ht]

/-- The reply of an accepted command other than STATUS. -/
theorem State.enqueue_reply (u : State) {c : Command} (h : ∀ n, c ≠ .status n) :
    u.enqueue (u.replyBody c none) = u.withReply (commandKind c) none (rateClamped c) := by
  cases c with
  | status n => exact absurd rfl (h n)
  | _ => rfl

theorem State.submit_accepted {s : State} (h : s.DecidesAtOnce) {c : Command} (hc : waitsForProcessing c = false)
    (hs : ∀ n, c ≠ .status n) (ht : s.written.commandTest c = none) :
    s.submit c = (s.written.commandEffect c).withReply (commandKind c) none (rateClamped c) := by
  rw [State.submit_decided h hc, State.decideCommand_accepted ht, State.enqueue_reply _ hs]

/-- A well-formed command outside its states is refused with WRONG_STATE. -/
theorem State.commandTest_wrongState {s : State} {c : Command} (hf : commandFormHolds c = true)
    (ha : commandAccepted s.station.state c = false) : s.commandTest c = some .wrongState := by
  rw [State.commandTest_spec, hf, ha]
  rfl

/-- A well-formed command in one of its states is put to its own test. -/
theorem State.commandTest_own {s : State} {c : Command} (hf : commandFormHolds c = true)
    (ha : commandAccepted s.station.state c = true) : s.commandTest c = s.ownTest c := by
  rw [State.commandTest_spec, hf, ha]
  rfl

/-! ## The wish for a frame (R60) -/

/-- An act that leaves the transmitter to the wish for a frame turns it WAITING exactly where a frame is wanted. -/
theorem State.txFollows_wantFrame {s u : State} (h : u.tx = s.tx) : s.TxFollows u.wantFrame := by
  have same : u.wantFrame.frameWanted = u.frameWanted := rfl
  have wanted : u.frameWanted = true ↔ u.wantFrame.Wanted := by rw [← State.frameWanted_iff, same]
  rw [State.wantFrame] at wanted ⊢
  refine ⟨?_, fun idle hw => ?_, fun hn => ?_⟩
  · rw [h]
  · exact if_pos ⟨h ▸ idle, wanted.2 hw⟩
  · rw [← h]
    exact if_neg fun ⟨idle, hw⟩ => hn.elim (fun ne => ne (h ▸ idle)) fun unwanted => unwanted (wanted.1 hw)

/-- A reply queued leaves the transmitter and the wish for a frame. -/
theorem State.TxFollows.withReply {s t : State} (h : s.TxFollows t) (kind : Byte) (reason : Option RefuseReason)
    (clamped : Bool) : s.TxFollows (t.withReply kind reason clamped) :=
  ⟨h.frame, h.wanted, h.unwanted⟩

/-! ## HOLD, RESUME and STEP (R100, R101) -/

theorem State.txFollows_holdAct (s : State) : s.TxFollows s.written.holdAct := State.txFollows_wantFrame rfl

theorem State.txFollows_resumeAct (s : State) : s.TxFollows s.written.resumeAct := State.txFollows_wantFrame rfl

theorem exec_hold (n : Byte) (s : State) : exec (.hold n) s = .next (s.submit (.hold n)) := rfl

theorem exec_resume (n : Byte) (s : State) : exec (.resume n) s = .next (s.submit (.resume n)) := rfl

theorem exec_step (n : Byte) (s : State) : exec (.step n) s = .next (s.submit (.step n)) := rfl

theorem HoldCauses.resumable_iff (c : HoldCauses) :
    c.resumable = true ↔ c.localHold = true ∨ c.step = true ∨ c.brk = true := by
  simp only [HoldCauses.resumable, Bool.or_eq_true, or_assoc]

theorem HoldCauses.resumable_eq_false {c : HoldCauses} (hl : c.localHold = false) (hs : c.step = false)
    (hb : c.brk = false) : c.resumable = false := by
  simp only [HoldCauses.resumable, hl, hs, hb, Bool.or_self]

/-- RESUME asks for one of the causes it clears. -/
theorem State.ownTest_resume (s : State) (n : Byte) :
    s.ownTest (.resume n) = if s.clock.causes.resumable = true then none else some .notHeld := rfl

/-- STEP asks for no step armed, then for one of the causes that RESUME clears. -/
theorem State.ownTest_step (s : State) (n : Byte) : s.ownTest (.step n) =
    if s.clock.stepArmed = true then some .busy
    else if s.clock.causes.resumable = true then none else some .notHeld := rfl

/-- HOLD and RESUME are accepted in READY and REPLAYING. -/
theorem commandAccepted_hold_resume {st : StationState} (h : st = .ready ∨ st = .replaying) (n : Byte) :
    commandAccepted st (.hold n) = true ∧ commandAccepted st (.resume n) = true := by
  rcases h with rfl | rfl <;> exact ⟨rfl, rfl⟩

theorem commandAccepted_hold_resume_eq_false {st : StationState} (hr : st ≠ .ready) (hp : st ≠ .replaying) (n : Byte) :
    commandAccepted st (.hold n) = false ∧ commandAccepted st (.resume n) = false := by
  simp only [commandAccepted, beq_eq_false_iff_ne.2 hr, beq_eq_false_iff_ne.2 hp, Bool.or_self, and_self]

section
variable {s : State} (h : s.DecidesAtOnce)
include h

/-- RESUME decided in READY or REPLAYING. -/
theorem State.submit_resume (hs : s.station.state = .ready ∨ s.station.state = .replaying) :
    s.submit (.resume 0) = if s.clock.causes.resumable = true then s.written.resumeAct.withReply 3 none false
      else s.written.withReply 3 (some .notHeld) false := by
  have own : s.written.commandTest (.resume 0) = _ :=
    State.commandTest_own rfl (commandAccepted_hold_resume hs 0).2
  rw [State.ownTest_resume] at own
  split
  · rename_i held
    exact State.submit_accepted h rfl (fun _ => Command.noConfusion) (own.trans (if_pos held))
  · rename_i free
    exact State.submit_refused h rfl (own.trans (if_neg free))

/-- STEP decided in REPLAYING. -/
theorem State.submit_step (hp : s.station.state = .replaying) :
    s.submit (.step 0) = if s.clock.stepArmed = true then s.written.withReply 4 (some .busy) false
      else if s.clock.causes.resumable = true then s.written.stepAct.withReply 4 none false
      else s.written.withReply 4 (some .notHeld) false := by
  have accepted : commandAccepted s.written.station.state (.step 0) = true := beq_iff_eq.2 hp
  have own : s.written.commandTest (.step 0) = _ := State.commandTest_own rfl accepted
  rw [State.ownTest_step] at own
  split
  · rename_i armed
    exact State.submit_refused h rfl (own.trans (if_pos armed))
  · rename_i unarmed
    have own := own.trans (if_neg unarmed)
    split
    · rename_i held
      exact State.submit_accepted h rfl (fun _ => Command.noConfusion) (own.trans (if_pos held))
    · rename_i free
      exact State.submit_refused h rfl (own.trans (if_neg free))

end

/-- Settles O37: each command by the test that decides it; HOLD and RESUME leave the transmitter to the wish for a frame,
STEP leaves it as it was. -/
theorem holdResumeAndStepActOnTheClock : Obligations.HoldResumeAndStepActOnTheClock := by
  intro s h
  have wrong (c : Command) (hc : waitsForProcessing c = false) (hf : commandFormHolds c = true)
      (ha : commandAccepted s.station.state c = false) :
      s.submit c = s.written.withReply (commandKind c) (some .wrongState) false :=
    State.submit_refused h hc (State.commandTest_wrongState hf ha)
  refine ⟨fun hr hp => ⟨?_, ?_⟩, fun hp => ?_, fun hs => ?_, fun hs held => ?_, fun hs hl hst hb => ?_,
    fun hp armed => ?_, fun hp unarmed => ⟨fun held => ?_, fun hl hst hb => ?_⟩⟩
  · rw [exec_hold, wrong _ rfl rfl (commandAccepted_hold_resume_eq_false hr hp 0).1]
    rfl
  · rw [exec_resume, wrong _ rfl rfl (commandAccepted_hold_resume_eq_false hr hp 0).2]
    rfl
  · rw [exec_step, wrong (.step 0) rfl rfl (beq_eq_false_iff_ne.2 hp)]
    rfl
  · have accepted : s.written.commandTest (.hold 0) = none :=
      State.commandTest_own rfl (commandAccepted_hold_resume hs 0).1
    rw [exec_hold, State.submit_accepted h rfl (fun _ => Command.noConfusion) accepted]
    exact ⟨_, rfl, rfl, s.txFollows_holdAct.withReply _ _ _⟩
  · rw [exec_resume, State.submit_resume h hs, if_pos ((HoldCauses.resumable_iff _).2 held)]
    exact ⟨_, rfl, rfl, s.txFollows_resumeAct.withReply _ _ _⟩
  · rw [exec_resume, State.submit_resume h hs,
      if_neg (Bool.eq_false_iff.1 (HoldCauses.resumable_eq_false hl hst hb))]
  · rw [exec_step, State.submit_step h hp, if_pos armed]
  · rw [exec_step, State.submit_step h hp, if_neg (Bool.eq_false_iff.1 unarmed),
      if_pos ((HoldCauses.resumable_iff _).2 held)]
    rfl
  · rw [exec_step, State.submit_step h hp, if_neg (Bool.eq_false_iff.1 unarmed),
      if_neg (Bool.eq_false_iff.1 (HoldCauses.resumable_eq_false hl hst hb))]

end Sys2Proof.Machine
end

section
/-! SUPPORT. RESTART by command (R151, R153, R154): what every block holds after it, and its statement (O43). -/

namespace Sys2Proof.Machine

/-! ## What is re-formed outside REPLAYING -/

/-- Outside REPLAYING no lag test is taken. -/
theorem State.retimed_of_not_replaying {s : State} (hr : s.station.state ≠ .replaying) (b : State) :
    s.retimed b = s.reformBounds.reformPeerHold.watchStall b := by
  have untested : s.reformBounds.reformPeerHold.testLag b = s.reformBounds.reformPeerHold :=
    if_neg fun ⟨replaying, _⟩ => hr replaying
  rw [State.retimed, untested]

/-- Outside REPLAYING no lag test is taken and no stall counted: of the clock, `settle` re-forms the PEER cause alone. -/
theorem State.settle_clock_of_not_replaying {s : State} (hr : s.station.state ≠ .replaying)
    (hs : s.clock.stall = false) (b : State) : (s.settle b).clock = { s.clock with
      causes := { s.clock.causes with peer := (s.settle b).clock.causes.peer }, stallTimer := none } := by
  have flowing : s.reformBounds.reformPeerHold.stallHolds = false := by
    rw [← Bool.not_eq_true, State.stallHolds_iff]
    exact fun stalls => hr stalls.1
  rw [State.settle_eq, State.retimed_of_not_replaying hr]
  simp only [State.wantFrame_clock, State.reformLink_clock, State.watchStall, flowing, Bool.not_false, Bool.or_true,
    if_true]
  simp only [State.reformPeerHold, State.reformBounds, hs, Bool.false_and]

/-- Outside REPLAYING `settle` re-forms the LINK condition and its flag alone in the attention unit. -/
theorem State.settle_attention_of_not_replaying {s : State} (hr : s.station.state ≠ .replaying) (b : State) :
    (s.settle b).attention = { s.attention with
      flags := { s.attention.flags with link := (s.settle b).attention.flags.link }
      linkCondition := (s.settle b).attention.linkCondition } := by
  rw [State.settle_eq, State.retimed_of_not_replaying hr]
  rfl

theorem State.settle_ownAnnounced (s b : State) : (s.settle b).horizon.ownAnnounced = s.horizon.ownAnnounced := by
  rw [State.settle_eq, State.wantFrame_horizon, State.reformLink_horizon, State.retimed_spec]

/-- In service with no frame sent in the epoch an IDLE transmitter becomes WAITING (R60). -/
theorem State.settle_tx_of_none_sent {s : State} (hs : s.inService = true) (hn : s.tx.lastSent = none) (b : State) :
    (s.settle b).tx = { s.tx with state := if s.tx.state = .idle then .waiting else s.tx.state } := by
  have wanted : ((s.retimed b).reformLink).frameWanted = true := by
    rw [State.frameWanted_iff, State.retimed_spec]
    exact .inl ⟨hs, .inl (by rw [State.reformLink_tx, hn]; exact nofun)⟩
  simp only [State.settle_eq, State.wantFrame, wanted, and_true]
  rw [State.retimed_spec]
  rfl

/-! ## The start of an epoch, block by block -/

/-- A declared source starts the epoch OPEN, its first segment in force (R8, R23, R32). -/
theorem Source.epochStart_declared {r : Source} (h : r.state ≠ .undeclared) : r.epochStart = { r with
    state := .opened, current := r.firstSegment, next := none, expectedSeq := 0, lastRaw := none
    watermark := some (corrected (r.firstSegment.getD ⟨0, 0, 0⟩) (r.startBound.getD 0))
    nextOrdinal := some 0, counters := SourceCounters.zero, skew := SkewStats.zero } := by
  unfold Source.epochStart
  split
  · exact absurd ‹_› h
  · rfl

theorem Source.epochStart_undeclared {r : Source} (h : r.state = .undeclared) : r.epochStart = r := by
  simp only [Source.epochStart, h]

theorem State.peer_epochStart (s : State) (cause : RelabelCause) {n : Nat} (hn : n < 16) :
    (s.epochStart cause).peer n = (s.peer n).epochStart s.station.number s.settings.expectedMask n := by
  simp only [State.peer, State.epochStart, Vector.getElem?_eq_getElem hn, Vector.getElem_mapIdx, Option.getD_some]

/-- No peer requests a hold at the start of an epoch. -/
theorem State.hold_of_mem_epochStart {s : State} {cause : RelabelCause} {p : Peer}
    (h : p ∈ (s.epochStart cause).peers.toList) : p.hold = false := by
  simp only [State.epochStart, Vector.mem_toList_iff, Vector.mem_mapIdx] at h
  obtain ⟨n, hn, rfl⟩ := h
  rfl

theorem FeedPort.restarted_eq (p : FeedPort) : p.restarted =
    if p.intake.isSome = true then ⟨.ready, some ⟨7, .discarded, some .restarted, none⟩, none⟩ else p := by
  unfold FeedPort.restarted
  cases p.intake <;> rfl

/-! ## RESTART (R151 to R154) -/

/-- What a restart writes before anything is re-formed. -/
def State.restartWrites (s : State) (cause : RestartCause) (epoch : Nat) : State :=
  { s.epochStart .restart with
    station := { s.station with state := .ready, epoch := epoch, restartRequest := cause.request }
    feed := s.feed.restarted
    tx := s.tx.restarted
    rx := { s.rx with buffers := [] }
    delivery := { s.delivery with
      queue := [⟨epoch, .restarted cause s.station.epoch epoch s.settings.startTime⟩] }
    console := { s.console with skew := none } }

theorem State.restartAct_eq (s : State) (cause : RestartCause) (epoch : Nat) :
    s.restartAct cause epoch = (s.restartWrites cause epoch).settle s := rfl

/-- A restart brings every block to the epoch's starting values (RESTART TABLE). -/
theorem State.restarted_restartAct (s : State) (cause : RestartCause) (epoch : Nat) :
    s.Restarted (s.restartAct cause epoch) epoch cause.request := by
  have ready : (s.restartWrites cause epoch).station.state ≠ .replaying := nofun
  have agree := (s.restartWrites cause epoch).settle_agrees s
  have clock := State.settle_clock_of_not_replaying (s := s.restartWrites cause epoch) ready rfl s
  have tx := State.settle_tx_of_none_sent (s := s.restartWrites cause epoch) rfl rfl s
  have attention := State.settle_attention_of_not_replaying ready s
  have frame := (s.restartWrites cause epoch).settle_frame s
  have ownAnnounced := (s.restartWrites cause epoch).settle_ownAnnounced s
  rw [← State.restartAct_eq] at *
  set t := s.restartAct cause epoch
  have source (n : Nat) : t.source n = (s.source n).epochStart := State.source_of_mapIdx (by rw [frame]; rfl) n
  have calm : t.clock.causes.peer = false := by
    rw [← Bool.not_eq_true]
    intro requested
    obtain ⟨p, hp, -, hold⟩ := agree.2.1.1 requested
    have calm : p.hold = false := State.hold_of_mem_epochStart (s := s) (cause := .restart) (by rwa [frame] at hp)
    cases calm.symm.trans hold
  exact {
    station := by rw [frame]; rfl
    kept := by rw [frame]; exact ⟨rfl, rfl, rfl, rfl⟩
    feed := by rw [frame]; exact s.feed.restarted_eq
    undeclared := fun n h => by rw [source, Source.epochStart_undeclared h]
    sources := fun n h => by rw [source, Source.epochStart_declared h]
    watermarks := fun n g b h hg hb => by rw [source, Source.epochStart_declared h, hg, hb]; rfl
    elements := State.elementAt_of_mapIdx (f := Element.epochStart) (by rw [frame]; rfl)
    lists := by rw [frame]; exact ⟨rfl, rfl, rfl, rfl⟩
    engine := by rw [frame]; exact ⟨rfl, rfl⟩
    islands := by rw [frame]; exact ⟨rfl, rfl, rfl⟩
    peers := fun n hn => by rw [frame]; exact s.peer_epochStart .restart hn
    horizon := ⟨ownAnnounced, agree.1⟩
    clock := by rw [clock, calm]; rfl
    transmitter := by rw [tx]; rfl
    transmitterState := by
      have wanted : t.tx.state = if s.tx.restarted.state = .idle then .waiting else s.tx.restarted.state := by
        rw [tx]; rfl
      rw [wanted]
      rcases s.tx with ⟨_ | _ | _ | _ | _, _, _, _, _⟩ <;> rfl
    receiver := by rw [frame]; rfl
    attention := by rw [attention]; exact ⟨rfl, rfl, rfl⟩ }

/-- The end of the command's write and its reply do not touch what a restart leaves. -/
theorem State.Restarted.written_withReply {s t : State} {epoch : Nat} {request : Bool}
    (h : s.written.Restarted t epoch request) (kind : Byte) (reason : Option RefuseReason) (clamped : Bool) :
    s.Restarted (t.withReply kind reason clamped) epoch request :=
  { h with horizon := ⟨h.horizon.1, h.horizon.2.lw, h.horizon.2.safeTime, h.horizon.2.limiting⟩ }

theorem exec_restart (n option : Byte) (s : State) : exec (.restart n option) s = .next (s.submit (.restart n option)) :=
  rfl

/-- A well-formed RESTART written in service takes its effect at once. -/
theorem State.submit_restart {s : State} (h : s.writtenInService) {option : Byte} (ho : option.toNat ≤ 1) :
    s.submit (.restart 1 option) = (s.written.restartAct (.command (option.toNat == 1))
      ((s.station.epoch + 1) % 256)).withReply 16 none false := by
  have form : commandFormHolds (.restart 1 option) = true := (yesNo_isSome_iff option).2 ho
  have accepted : commandAccepted s.written.station.state (.restart 1 option) = true := by
    rw [← h.service]
    simp only [commandAccepted, State.inService, State.written]
    cases s.station.state <;> rfl
  rw [State.submit_accepted ⟨h.writing, h.room⟩ rfl (fun _ => Command.noConfusion) (State.commandTest_own form accepted),
    ← yesNo_getD]
  rfl

/-- Settles O43: RESTART passes its tests, and a restart reaches every block. -/
theorem restartReachesEveryBlock : Obligations.RestartReachesEveryBlock := by
  intro s option h ho
  have short : option.toNat ≤ 1 := by rcases ho with rfl | rfl <;> decide
  have named : (option.toNat == 1) = (option == 1) := by rcases ho with rfl | rfl <;> rfl
  have frame := (s.written.restartWrites (.command (option == 1)) ((s.station.epoch + 1) % 256)).settle_frame s.written
  rw [exec_restart, State.submit_restart h short, named]
  refine ⟨_, rfl, (s.written.restarted_restartAct _ _).written_withReply _ _ _, ?_, ?_⟩
  · rw [State.restartAct_eq, frame]
    rfl
  · rw [State.restartAct_eq, frame]
    rfl

end Sys2Proof.Machine
end

section
/-! SUPPORT. The heartbeat, the build of a frame, and a frame sent whole (R60 to R62, R66, R77, R78), and their statement
(O55). -/

namespace Sys2Proof.Machine

/-! ## The rows -/

theorem exec_heartbeat (s : State) : exec .heartbeat s = .next s.heartbeatAct := rfl

theorem exec_frameBuild (quietBits : Nat) (s : State) : exec (.frameBuild quietBits) s = .next (s.buildFrame quietBits) :=
  rfl

theorem exec_frameSentWhole (s : State) : exec .frameSentWhole s = .next s.frameSent := rfl

section
variable {s : State}

/-! ## The heartbeat (R60) -/

/-- The heartbeat is due 10 ms after the end of the last frame sent whole. -/
theorem State.heartbeatDue_iff : s.heartbeatDue = true ↔ ∃ e, s.tx.lastEnd = some e ∧ 10000 ≤ s.elapsed e := by
  unfold State.heartbeatDue
  cases s.tx.lastEnd with
  | none => exact ⟨nofun, nofun⟩
  | some e => exact ⟨fun h => ⟨e, rfl, of_decide_eq_true h⟩, fun ⟨_, he, h⟩ => Option.some.inj he ▸ decide_eq_true h⟩

theorem State.heartbeatAct_due (hi : s.tx.state = .idle) (hs : s.inService = true)
    (hd : ∃ e, s.tx.lastEnd = some e ∧ 10000 ≤ s.elapsed e) :
    s.heartbeatAct = { s with tx := { s.tx with state := .waiting } } :=
  if_pos ⟨hi, hs, State.heartbeatDue_iff.2 hd⟩

theorem State.heartbeatAct_ignored (h : s.tx.state ≠ .idle ∨ s.inService = false ∨
    ∀ e, s.tx.lastEnd = some e → s.elapsed e < 10000) : s.heartbeatAct = s := by
  refine if_neg fun ⟨idle, service, due⟩ => ?_
  obtain ⟨e, he, long⟩ := State.heartbeatDue_iff.1 due
  rcases h with h | h | h
  · exact h idle
  · cases h.symm.trans service
  · exact absurd (h e he) (Nat.not_lt.2 long)

/-! ## The build of a frame (R61, R62, R77) -/

/-- The spacing has run 50 µs after the end of the last frame sent whole, or none has been sent. -/
theorem State.spacingMet_iff : s.spacingMet = true ↔ ∀ e, s.tx.lastEnd = some e → 50 ≤ s.elapsed e := by
  unfold State.spacingMet
  cases s.tx.lastEnd with
  | none => exact ⟨fun _ => nofun, fun _ => rfl⟩
  | some e => exact ⟨fun h _ he => Option.some.inj he ▸ of_decide_eq_true h, fun h => decide_eq_true (h e rfl)⟩

/-- A built frame carries the content that a frame built now would carry, and the first eight copies. -/
theorem State.builtFrame_eq : s.builtFrame = {
    sender := s.station.number, epoch := s.station.epoch, sequence := s.tx.sequence
    senderState := s.contentNow.senderState, horizon := s.contentNow.horizon, hold := s.contentNow.hold
    restart := s.contentNow.restart
    changes := (s.outgoing.take 8).map fun c => ChangeEntry.mk c.key.time c.key.source c.key.ordinal c.tie
      c.position c.cause c.quality c.carried } := by
  rw [← s.ownContent]
  rfl

theorem State.buildFrame_built {quietBits : Nat} (hw : s.tx.state = .waiting) (hq : 12 ≤ quietBits)
    (hp : ∀ e, s.tx.lastEnd = some e → 50 ≤ s.elapsed e) (hs : s.inService = true) :
    s.buildFrame quietBits = { s with
      outgoing := holdFirst s.outgoing, tx := { s.tx with state := .sending s.builtFrame } } :=
  if_pos ⟨hw, hq, State.spacingMet_iff.2 hp, hs⟩

theorem State.buildFrame_ignored {quietBits : Nat} (h : s.tx.state ≠ .waiting ∨ quietBits < 12 ∨
    (∃ e, s.tx.lastEnd = some e ∧ s.elapsed e < 50) ∨ s.inService = false) : s.buildFrame quietBits = s := by
  refine if_neg fun ⟨waiting, quiet, spaced, service⟩ => ?_
  rcases h with h | h | ⟨e, he, short⟩ | h
  · exact h waiting
  · exact absurd quiet (Nat.not_le.2 h)
  · exact absurd (State.spacingMet_iff.1 spaced e he) (Nat.not_le.2 short)
  · cases h.symm.trans service

/-! ## A frame sent whole (R66, R78) -/

/-- An entry becomes ANNOUNCED where a copy of its key was held. -/
theorem announceEntries_heldKeys (cs : List OutgoingCopy) (es : List PendingEntry) :
    announceEntries (heldKeys cs) es =
      es.map fun x => { x with announced := x.announced || cs.any fun c => c.held && c.key == x.key } := by
  refine List.map_congr_left fun x _ => ?_
  have carried : (heldKeys cs).contains x.key = cs.any fun c => c.held && c.key == x.key := by
    rw [Bool.eq_iff_iff, List.contains_iff_mem]
    simp only [heldKeys, List.mem_map, List.mem_filter, List.any_eq_true, Bool.and_eq_true, beq_iff_eq, and_assoc]
  rw [carried]
  cases cs.any fun c => c.held && c.key == x.key with
  | true => simp only [if_true, Bool.or_true]
  | false => simp only [Bool.false_eq_true, if_false, Bool.or_false]

/-- What the end of frame `f` writes in the horizon unit and the transmitter (R66). -/
def State.sentWrites (s : State) (f : Frame) : State :=
  { s with
    horizon := { s.horizon with ownAnnounced := some f.horizon }
    tx := {
      state := .idle, sequence := (s.tx.sequence + 1) % 256, failures := 0
      lastSent := some ⟨f.horizon, f.hold, f.restart, f.senderState⟩
      lastEnd := some s.station.time } }

theorem State.frameSent_sending {f : Frame} (h : s.tx.state = .sending f) :
    s.frameSent = ({ s.sentWrites f with
      pendingQueue := announceEntries (heldKeys s.outgoing) s.pendingQueue
      outgoing := s.outgoing.filter fun c => !c.held } : State).settleComplete s := by
  simp only [State.frameSent, h]
  rfl

theorem State.frameSent_ignored (h : ∀ f, s.tx.state ≠ .sending f) : s.frameSent = s := by
  unfold State.frameSent
  split
  · exact absurd ‹_› (h _)
  all_goals rfl

/-- The end of frame `f` writes its horizon and the transmitter of its own, and the completion test is taken. -/
theorem State.reformedToEnd_frameSent {f : Frame} (h : s.tx.state = .sending f) :
    (s.sentWrites f).ReformedToEnd s.frameSent := by
  rw [State.frameSent_sending h]
  exact State.settleComplete_reformedWith ⟨rfl, rfl, rfl, rfl, rfl, ⟨rfl, rfl⟩, rfl, rfl, rfl, id⟩ rfl rfl rfl rfl

end

/-- Settles O55: each of the three rows under its conditions, and outside them. -/
theorem framesAreBuiltAndSent : Obligations.FramesAreBuiltAndSent := by
  intro s
  refine ⟨fun hi hs hd => ?_, fun h => ?_, fun quiet hw hq hp hs => ?_, fun quiet h => ?_, fun f hf => ?_, fun h => ?_⟩
  · rw [exec_heartbeat, State.heartbeatAct_due hi hs hd]
  · rw [exec_heartbeat, State.heartbeatAct_ignored h]
  · rw [exec_frameBuild, State.buildFrame_built hw hq hp hs, State.builtFrame_eq]
    rfl
  · rw [exec_frameBuild, State.buildFrame_ignored h]
  · refine ⟨_, exec_frameSentWhole s, ?_, State.reformedToEnd_frameSent hf⟩
    rw [← announceEntries_heldKeys, State.frameSent_sending hf, State.settleComplete_frame]
    rfl
  · rw [exec_frameSentWhole, State.frameSent_ignored h]

end Sys2Proof.Machine
end

section
/-! SUPPORT. The bits of a frame (file 11, R57, R58): a number through its bits, the fields of a bit sequence, what the
receiver finds in an opened frame, and the statement that frames and EVENT records are read back (O18). -/

namespace Sys2Proof.Machine

/-! ## Numbers and their bits -/

theorem numberOf_append_singleton (bs : Bits) (b : Bool) : numberOf (bs ++ [b]) = 2 * numberOf bs + b.toNat := by
  simp only [numberOf, List.foldl_append, List.foldl_cons, List.foldl_nil]

theorem numberOf_singleton (b : Bool) : numberOf [b] = b.toNat := Nat.zero_add _

/-- Bits in front weigh by the number of bits after them. -/
theorem numberOf_append (as bs : Bits) : numberOf (as ++ bs) = numberOf as * 2 ^ bs.length + numberOf bs := by
  induction bs using List.reverseRecOn with
  | nil => exact (congrArg numberOf (List.append_nil as)).trans (Nat.mul_one _).symm
  | append_singleton bs b ih =>
    rw [← List.append_assoc, numberOf_append_singleton, ih, numberOf_append_singleton, List.length_append,
      List.length_singleton, pow_succ]
    ring

/-- The low bits of a number spell it modulo their weight. -/
theorem numberOf_bitsOf (w n : Nat) : numberOf (bitsOf w n) = n % 2 ^ w := by
  induction w with
  | zero => exact (Nat.mod_one n).symm
  | succ w ih =>
    have first : bitsOf (w + 1) n = [n.testBit w] ++ bitsOf w n := rfl
    rw [first, numberOf_append, numberOf_singleton, ih, length_bitsOf, Nat.mod_pow_succ, Nat.toNat_testBit]
    ring

/-! ## Fields -/

/-- A field that lies within the front part. -/
theorem fieldAt_append_left {as : Bits} {start len : Nat} (h : start + len ≤ as.length) (bs : Bits) :
    fieldAt (as ++ bs) start len = fieldAt as start len := by
  have room : len ≤ (as.drop start).length := by rw [List.length_drop]; omega
  rw [fieldAt, List.drop_append_of_le_length (by omega), List.take_append_of_le_length room]
  rfl

/-- A field that lies within the part after the front one. -/
theorem fieldAt_append_right {as : Bits} {start : Nat} (h : as.length ≤ start) (bs : Bits) (len : Nat) :
    fieldAt (as ++ bs) start len = fieldAt bs (start - as.length) len := by
  rw [fieldAt, List.drop_append, List.drop_eq_nil_of_le h, List.nil_append]
  rfl

/-- A field of some bits taken out of a sequence. -/
theorem fieldAt_slice {start len total : Nat} (h : start + len ≤ total) (bs : Bits) (first : Nat) :
    fieldAt ((bs.drop first).take total) start len = fieldAt bs (first + start) len := by
  rw [fieldAt, List.drop_take, List.take_take, List.drop_drop, Nat.min_eq_left (by omega)]
  rfl

theorem fieldAt_bitsOf {w n : Nat} (h : n < 2 ^ w) : fieldAt (bitsOf w n) 0 w = n := by
  rw [fieldAt, List.drop_zero, List.take_of_length_le (length_bitsOf w n).le, numberOf_bitsOf, Nat.mod_eq_of_lt h]

theorem fieldAt_singleton (b : Bool) : fieldAt [b] 0 1 = b.toNat := numberOf_singleton b

theorem toNat_beq_one (b : Bool) : (b.toNat == 1) = b := by cases b <;> rfl

/-! ## A change entry (CHANGE ENTRY TABLE) -/

theorem Position.ofCode_code (p : Position) : Position.ofCode p.code = some p := by cases p <;> rfl

theorem Position.code_lt {p : Position} (h : p ≠ .unknown) : p.code < 2 ^ 2 := by
  cases p with
  | unknown => exact absurd rfl h
  | _ => decide

/-- A change entry is read back from its 104 bits. -/
theorem changeOfBits_bits {c : ChangeEntry} (h : c.Fits) : changeOfBits c.bits = c := by
  have time : c.time < 2 ^ 40 := h.time.trans (by decide)
  have source : c.source < 2 ^ 6 := h.source.trans_lt (by decide)
  simp (disch := simp only [List.length_append, List.length_singleton, length_bitsOf, Nat.reduceAdd, Nat.reduceLeDiff,
    le_refl]) only [changeOfBits, ChangeEntry.bits, fieldAt_append_left, fieldAt_append_right, List.length_append,
    length_bitsOf, Nat.reduceAdd, Nat.reduceSub, fieldAt_bitsOf time, fieldAt_bitsOf source,
    fieldAt_bitsOf h.ordinal, fieldAt_bitsOf h.tie, fieldAt_bitsOf (Position.code_lt h.position),
    fieldAt_bitsOf h.cause, fieldAt_bitsOf h.quality, fieldAt_singleton, toNat_beq_one, Position.ofCode_code,
    Option.getD_some]

/-- The entries after one another: the bits of the entry at place `i`. -/
theorem slice_flatMap_bits (cs : List ChangeEntry) (rest : Bits) {i : Nat} (h : i < cs.length) :
    ((cs.flatMap ChangeEntry.bits ++ rest).drop (104 * i)).take 104 = cs[i].bits := by
  induction cs generalizing i with
  | nil => exact absurd h (Nat.not_lt_zero i)
  | cons c cs ih =>
    rw [List.flatMap_cons, List.append_assoc]
    cases i with
    | zero => exact List.take_left' c.length_bits
    | succ i =>
      have past : 104 * (i + 1) = c.bits.length + 104 * i := by rw [c.length_bits]; ring
      rw [past, List.drop_length_add_append]
      exact ih (Nat.lt_of_succ_lt_succ h)

/-- The change entries are read back from behind a header. -/
theorem changesOfBits_bits {header : Bits} (hl : header.length = 72) {cs : List ChangeEntry} (h : ∀ c ∈ cs, c.Fits)
    (rest : Bits) : changesOfBits (header ++ (cs.flatMap ChangeEntry.bits ++ rest)) cs.length = cs := by
  refine List.ext_getElem (by rw [changesOfBits, List.length_map, List.length_range]) fun i _ hi => ?_
  simp only [changesOfBits, List.getElem_map, List.getElem_range]
  rw [← hl, List.drop_length_add_append, slice_flatMap_bits cs rest hi, changeOfBits_bits (h _ (List.getElem_mem hi))]

/-! ## What the receiver finds (R71, R156) -/

/-- The frame that bits spell, its sender state read (FRAME HEADER TABLE). -/
def frameOfBits (bs : Bits) (st : SenderState) : Frame where
  sender := fieldAt bs 0 4
  epoch := fieldAt bs 4 8
  sequence := fieldAt bs 12 8
  senderState := st
  horizon := fieldAt bs 22 40
  hold := fieldAt bs 62 1 == 1
  restart := fieldAt bs 63 1 == 1
  changes := changesOfBits bs (fieldAt bs 64 4)

/-- The CRC field holds the check value over header and entries (R58). -/
def CrcHolds (bs : Bits) : Prop :=
  (crcOf (bs.take (72 + 104 * fieldAt bs 64 4))).toNat = fieldAt bs (72 + 104 * fieldAt bs 64 4) 32

/-- The test of R71 on the CRC, which compares words. -/
theorem crcHolds_iff (bs : Bits) : CrcHolds bs ↔
    crcOf (bs.take (72 + 104 * fieldAt bs 64 4)) = BitVec.ofNat 32 (fieldAt bs (72 + 104 * fieldAt bs 64 4) 32) := by
  rw [← BitVec.toNat_inj, BitVec.toNat_ofNat, Nat.mod_eq_of_lt (fieldAt_lt _ _ _)]
  rfl

section
variable {bs : Bits}

theorem receive_short (h : bs.length < 72) : receive bs = .bad := if_pos h

theorem receive_badCount (h : 72 ≤ bs.length) (hn : 8 < fieldAt bs 64 4) : receive bs = .badCount :=
  (if_neg (Nat.not_lt.2 h)).trans (if_pos hn)

/-- A frame that is whole, whose CRC holds and whose values R156 lets through, is good. -/
theorem receive_good (hn : fieldAt bs 64 4 ≤ 8) (hl : 104 + 104 * fieldAt bs 64 4 ≤ bs.length) (hc : CrcHolds bs)
    {st : SenderState} (hs : SenderState.ofCode (fieldAt bs 20 2) = some st)
    (hv : ∀ c ∈ changesOfBits bs (fieldAt bs 64 4), c.valueGood = true) : receive bs = .good (frameOfBits bs st) := by
  unfold receive
  dsimp only
  rw [if_neg (by omega), if_neg (by rw [frameEntries]; omega), if_neg (by rw [frameLength]; omega),
    if_neg (not_not.2 ((crcHolds_iff bs).1 hc)), hs]
  exact if_pos (List.all_eq_true.2 hv)

/-- A frame cut short, one whose CRC does not hold and one with a value of R156 are bad. -/
theorem receive_bad (h : 72 ≤ bs.length) (hn : fieldAt bs 64 4 ≤ 8) (hb : bs.length < 104 + 104 * fieldAt bs 64 4 ∨
    ¬ CrcHolds bs ∨ SenderState.ofCode (fieldAt bs 20 2) = none ∨
      ∃ c ∈ changesOfBits bs (fieldAt bs 64 4), c.valueGood = false) : receive bs = .bad := by
  unfold receive
  dsimp only
  rw [if_neg (Nat.not_lt.2 h), if_neg (by rw [frameEntries]; omega)]
  split
  · rfl
  · rename_i whole
    split
    · rfl
    · rename_i crc
      split
      · rfl
      · rename_i st hst
        refine if_neg fun good => ?_
        rcases hb with hb | hb | hb | ⟨c, hc, value⟩
        · exact whole (by rw [frameLength]; omega)
        · exact hb ((crcHolds_iff bs).2 (not_not.1 crc))
        · cases hb.symm.trans hst
        · cases value.symm.trans (List.all_eq_true.1 good c hc)

end

/-! ## A frame read back (R57, R58) -/

theorem SenderState.ofCode_code (x : SenderState) : SenderState.ofCode x.code = some x := by cases x <;> rfl

theorem SenderState.code_lt (x : SenderState) : x.code < 2 ^ 2 := by cases x <;> decide

theorem Frame.length_headerBits (f : Frame) : f.headerBits.length = 72 := by
  simp only [Frame.headerBits, List.length_append, length_bitsOf, List.length_singleton]

theorem Frame.length_coveredBits (f : Frame) : f.coveredBits.length = 72 + 104 * f.changes.length := by
  have symbols := f.length_symbols
  simp only [Frame.symbols, Frame.bits, preambleSymbols, delimiterSymbols, List.length_append, List.length_map,
    List.length_range, length_bitsOf] at symbols
  omega

/-- A field of the header in the bits of the frame. -/
theorem Frame.fieldAt_bits (f : Frame) {start len : Nat} (h : start + len ≤ 72) :
    fieldAt f.bits start len = fieldAt f.headerBits start len := by
  rw [Frame.bits, Frame.coveredBits, List.append_assoc, fieldAt_append_left (f.length_headerBits.symm ▸ h)]

section
variable {f : Frame} (h : f.Fits)
include h

/-- The header read back: every field but the change entries. -/
theorem Frame.header_fields : fieldAt f.headerBits 0 4 = f.sender ∧ fieldAt f.headerBits 4 8 = f.epoch ∧
    fieldAt f.headerBits 12 8 = f.sequence ∧ fieldAt f.headerBits 20 2 = f.senderState.code ∧
    fieldAt f.headerBits 22 40 = f.horizon ∧ fieldAt f.headerBits 62 1 = f.hold.toNat ∧
    fieldAt f.headerBits 63 1 = f.restart.toNat ∧ fieldAt f.headerBits 64 4 = f.changes.length := by
  have count : f.changes.length < 2 ^ 4 := h.count.trans_lt (by decide)
  simp (disch := simp only [List.length_append, List.length_singleton, length_bitsOf, Nat.reduceAdd, Nat.reduceLeDiff,
    le_refl]) only [Frame.headerBits, fieldAt_append_left, fieldAt_append_right, List.length_append,
    List.length_singleton, length_bitsOf, Nat.reduceAdd, Nat.reduceSub, fieldAt_bitsOf h.sender, fieldAt_bitsOf h.epoch,
    fieldAt_bitsOf h.sequence, fieldAt_bitsOf f.senderState.code_lt, fieldAt_bitsOf h.horizon, fieldAt_singleton,
    fieldAt_bitsOf count, and_self]

theorem Frame.count_bits : fieldAt f.bits 64 4 = f.changes.length := by
  rw [f.fieldAt_bits (by decide)]
  exact (Frame.header_fields h).2.2.2.2.2.2.2

theorem Frame.changesOfBits_bits : changesOfBits f.bits f.changes.length = f.changes := by
  rw [Frame.bits, Frame.coveredBits, List.append_assoc]
  exact Machine.changesOfBits_bits f.length_headerBits h.changes _

/-- The CRC field holds the check value over header and entries. -/
theorem Frame.crcHolds_bits : CrcHolds f.bits := by
  have covered : f.bits.take (72 + 104 * f.changes.length) = f.coveredBits :=
    List.take_left' f.length_coveredBits
  rw [CrcHolds, Frame.count_bits h, covered, Frame.bits, ← f.length_coveredBits, fieldAt_append_right le_rfl,
    Nat.sub_self, fieldAt_bitsOf (crcOf f.coveredBits).isLt]

theorem frameOfBits_bits : frameOfBits f.bits f.senderState = f := by
  obtain ⟨sender, epoch, sequence, -, horizon, hold, restart, -⟩ := Frame.header_fields h
  simp (disch := decide) only [frameOfBits, f.fieldAt_bits, sender, epoch, sequence, horizon, hold, restart,
    toNat_beq_one]
  rw [← f.fieldAt_bits (by decide), Frame.count_bits h, Frame.changesOfBits_bits h]

/-- The receiver finds the frame that the transmitter sent. -/
theorem receive_bits : receive f.bits = .good f := by
  have count := Frame.count_bits h
  have sender : SenderState.ofCode (fieldAt f.bits 20 2) = some f.senderState := by
    rw [f.fieldAt_bits (by decide), (Frame.header_fields h).2.2.2.1, SenderState.ofCode_code]
  rw [receive_good (by rw [count]; exact h.count) ?_ (Frame.crcHolds_bits h) sender ?_, frameOfBits_bits h]
  · rw [count, Frame.bits, List.length_append, f.length_coveredBits, length_bitsOf]
    omega
  · rw [count, Frame.changesOfBits_bits h]
    intro c hc
    have fits := h.changes c hc
    simp only [ChangeEntry.valueGood, Bool.and_eq_true, decide_eq_true_eq, bne_iff_ne]
    exact ⟨fits.source, fits.time.ne⟩

end

/-! ## An EVENT record read back (EVENT RECORD BODY TABLE) -/

/-- Bytes in front weigh by the number of bytes after them. -/
theorem foldl_bytes (bs : List Byte) (n : Nat) : bs.foldl (fun n b => 256 * n + b.toNat) n =
    n * 256 ^ bs.length + numberOfBytes bs := by
  induction bs using List.reverseRecOn with
  | nil => exact (Nat.mul_one n).symm
  | append_singleton bs b ih =>
    simp only [numberOfBytes, List.foldl_append, List.foldl_cons, List.foldl_nil, List.length_append,
      List.length_singleton, pow_succ] at ih ⊢
    rw [ih]
    ring

theorem numberOfBytes_bytesOf (n v : Nat) : numberOfBytes (bytesOf n v) = v % 256 ^ n := by
  have length (n : Nat) : (bytesOf n v).length = n := by
    induction n with
    | zero => rfl
    | succ n ih => rw [bytesOf, List.length_cons, ih]
  induction n with
  | zero => exact (Nat.mod_one v).symm
  | succ n ih =>
    rw [bytesOf, numberOfBytes, List.foldl_cons, foldl_bytes, ih, length, BitVec.toNat_ofNat,
      Nat.mod_pow_succ (b := 256)]
    ring

/-- A word of `n` bytes is read back. -/
theorem ofNat_numberOfBytes {w : Nat} (x : BitVec w) {n : Nat} (h : 2 ^ w = 256 ^ n) :
    BitVec.ofNat w (numberOfBytes (bytesOf n x.toNat)) = x := by
  rw [numberOfBytes_bytesOf, ← h, Nat.mod_eq_of_lt x.isLt, BitVec.ofNat_toNat, BitVec.setWidth_eq]

theorem eventOfBytes_bytes (b : EventBody) :
    eventOfBytes (kindEvent :: 14 :: eventBodyBytes b) = some (.event ⟨14, 16⟩ b) := by
  have read : eventOfBytes (kindEvent :: 14 :: eventBodyBytes b) = some (.event ⟨14, 16⟩ { b with
      sequence := BitVec.ofNat 16 (numberOfBytes (bytesOf 2 b.sequence.toNat))
      raw := BitVec.ofNat 48 (numberOfBytes (bytesOf 6 b.raw.toNat))
      point := BitVec.ofNat 16 (numberOfBytes (bytesOf 2 b.point.toNat)) }) := rfl
  rw [read, ofNat_numberOfBytes b.sequence (by norm_num), ofNat_numberOfBytes b.raw (by norm_num),
    ofNat_numberOfBytes b.point (by norm_num)]

/-- Settles O18: a frame by its header, its entries and its CRC; an EVENT record by its multi-byte fields. -/
theorem framesAndEventsAreReadBack : Obligations.FramesAndEventsAreReadBack :=
  ⟨fun f h => ⟨receive_bits h, rfl, f.length_symbols⟩, eventOfBytes_bytes⟩

end Sys2Proof.Machine
end

section
/-! SUPPORT. The receiver (R56, R58, R70 to R74, R156): the check register, the fields of a frame received, the rows under
their conditions, and their statement (O57). -/

namespace Sys2Proof.Machine

/-! ## The check register (R58) -/

/-- The check register after some bits. -/
def crcRegister (bits : Bits) : BitVec 32 := bits.foldl crcStep (BitVec.allOnes 32)

theorem crcOf_eq (bits : Bits) : crcOf bits = ~~~ crcRegister bits := rfl

theorem crcRegister_append_singleton (bits : Bits) (b : Bool) : crcRegister (bits ++ [b]) =
    if (crcRegister bits).msb = b then crcRegister bits <<< 1 else (crcRegister bits <<< 1) ^^^ 0x04C11DB7#32 := by
  have step : crcRegister (bits ++ [b]) = crcStep (crcRegister bits) b := by
    simp only [crcRegister, List.foldl_append, List.foldl_cons, List.foldl_nil]
  rw [step, crcStep]
  by_cases h : (crcRegister bits).msb = b
  · rw [if_pos h, if_neg (by rw [h, bne_self_eq_false]; exact Bool.false_ne_true)]
  · rw [if_neg h, if_pos (bne_iff_ne.2 h)]
    rfl

/-! ## Fields, bit by bit -/

theorem fieldAt_zero (bits : Bits) (start : Nat) : fieldAt bits start 0 = 0 := rfl

/-- A field one bit longer. -/
theorem fieldAt_succ {bits : Bits} {start len : Nat} {b : Bool} (h : bits[start + len]? = some b) :
    fieldAt bits start (len + 1) = 2 * fieldAt bits start len + b.toNat := by
  rw [fieldAt, List.take_add_one, List.getElem?_drop, h, Option.toList_some, numberOf_append_singleton]
  rfl

/-- A field of one bit is 1 exactly where that bit is set. -/
theorem fieldAt_one_iff (bits : Bits) (i : Nat) : (fieldAt bits i 1 == 1) = true ↔ bits[i]? = some true := by
  cases h : bits[i]? with
  | none =>
    have empty : fieldAt bits i 1 = 0 := by
      rw [fieldAt, List.drop_eq_nil_of_le (List.getElem?_eq_none_iff.1 h)]
      rfl
    rw [empty]
    exact ⟨nofun, nofun⟩
  | some b =>
    rw [fieldAt_succ h, fieldAt_zero]
    cases b <;> decide

/-! ## The fields of a frame received (FRAME HEADER TABLE, CHANGE ENTRY TABLE, R156) -/

/-- Of the four codes of two bits, 3 names no sender state. -/
theorem SenderState.ofCode_eq_none_iff {n : Nat} (h : n < 4) : SenderState.ofCode n = none ↔ n = 3 := by
  interval_cases n <;> decide

theorem SenderState.of_ofCode {n : Nat} {st : SenderState} (h : SenderState.ofCode n = some st) :
    (st = .ready ↔ n = 0) ∧ (st = .replaying ↔ n = 1) ∧ (st = .complete ↔ n = 2) := by
  unfold SenderState.ofCode at h
  split at h <;> cases h <;> decide

/-- The four positions that a change entry names by two bits. -/
theorem Position.of_twoBits {n : Nat} (h : n < 4) :
    ((Position.ofCode n).getD .bad = .opened ↔ n = 0) ∧ ((Position.ofCode n).getD .bad = .closed ↔ n = 1) ∧
    ((Position.ofCode n).getD .bad = .intermediate ↔ n = 2) ∧ ((Position.ofCode n).getD .bad = .bad ↔ n = 3) := by
  interval_cases n <;> decide

/-- The change entry at place `i` of the bits received. -/
def changeAt (bits : Bits) (i : Nat) : ChangeEntry := changeOfBits ((bits.drop (72 + 104 * i)).take 104)

theorem changesOfBits_eq (bits : Bits) (n : Nat) : changesOfBits bits n = (List.range n).map (changeAt bits) := rfl

theorem eq_changeAt {bits : Bits} {n i : Nat} {c : ChangeEntry} (h : (changesOfBits bits n)[i]? = some c) :
    c = changeAt bits i := by
  obtain ⟨_, rfl⟩ := List.getElem?_eq_some_iff.1 h
  simp only [changesOfBits_eq, List.getElem_map, List.getElem_range]

/-- A field of the entry at place `i`, in the bits received. -/
theorem fieldAt_changeAt (bits : Bits) (i : Nat) {start len : Nat} (h : start + len ≤ 104) :
    fieldAt ((bits.drop (72 + 104 * i)).take 104) start len = fieldAt bits (72 + 104 * i + start) len :=
  fieldAt_slice h bits _

theorem changeAt_eq (bits : Bits) (i : Nat) : changeAt bits i = {
    time := fieldAt bits (72 + 104 * i) 40, source := fieldAt bits (72 + 104 * i + 40) 6
    ordinal := fieldAt bits (72 + 104 * i + 46) 32, tie := fieldAt bits (72 + 104 * i + 78) 10
    position := (Position.ofCode (fieldAt bits (72 + 104 * i + 88) 2)).getD .bad
    cause := fieldAt bits (72 + 104 * i + 90) 8, quality := fieldAt bits (72 + 104 * i + 98) 2
    carried := fieldAt bits (72 + 104 * i + 100) 1 == 1 } := by
  simp (disch := decide) only [changeAt, changeOfBits, fieldAt_changeAt, Nat.add_zero]

/-- R156: an entry's source number is above 31 or its time is END. -/
theorem changeAt_valueBad_iff (bits : Bits) (i : Nat) : (changeAt bits i).valueGood = false ↔
    31 < fieldAt bits (72 + 104 * i + 40) 6 ∨ fieldAt bits (72 + 104 * i) 40 = 1099511627775 := by
  rw [changeAt_eq, ← Bool.not_eq_true]
  simp only [ChangeEntry.valueGood, Bool.and_eq_true, decide_eq_true_eq, bne_iff_ne, endTime]
  omega

/-- The values that R156 names, in the bits received. -/
def ValueBad (bits : Bits) : Prop :=
  fieldAt bits 20 2 = 3 ∨ ∃ i < fieldAt bits 64 4,
    31 < fieldAt bits (72 + 104 * i + 40) 6 ∨ fieldAt bits (72 + 104 * i) 40 = 1099511627775

theorem valueBad_iff (bits : Bits) : ValueBad bits ↔ SenderState.ofCode (fieldAt bits 20 2) = none ∨
    ∃ c ∈ changesOfBits bits (fieldAt bits 64 4), c.valueGood = false := by
  rw [SenderState.ofCode_eq_none_iff (fieldAt_lt bits 20 2), changesOfBits_eq]
  simp only [List.mem_map, List.mem_range, exists_exists_and_eq_and, changeAt_valueBad_iff]
  rfl

/-- What the receiver finds is good with no value of R156: the frame as its bits lay it out. -/
theorem receive_good_of_not_valueBad {bits : Bits} (hn : fieldAt bits 64 4 ≤ 8)
    (hl : 104 + 104 * fieldAt bits 64 4 ≤ bits.length) (hc : CrcHolds bits) (hv : ¬ ValueBad bits) :
    ∃ st, SenderState.ofCode (fieldAt bits 20 2) = some st ∧ receive bits = .good (frameOfBits bits st) := by
  rw [valueBad_iff, not_or] at hv
  obtain ⟨st, hst⟩ := Option.ne_none_iff_exists'.1 hv.1
  refine ⟨st, hst, receive_good hn hl hc hst fun c hm => ?_⟩
  rw [← Bool.not_eq_false]
  exact fun bad => hv.2 ⟨c, hm, bad⟩

/-! ## The preamble (R56, R70) -/

theorem exec_syncReject (p : Preamble) (delimiter : Byte) (s : State) :
    exec (.syncReject p delimiter) s = .next (s.rejectSync p delimiter) := rfl

theorem exec_frameOpened (p : Preamble) (delimiter : Byte) (s : State) :
    exec (.frameOpened p delimiter) s = .next (s.openFrame p delimiter) := rfl

theorem exec_frameReceive (bits : Bits) (own : Bool) (s : State) :
    exec (.frameReceive bits own) s = .next (s.receiveFrame bits own) := rfl

theorem preambleOpens_iff (duration : Nat) (delimiter : Byte) : preambleOpens duration delimiter = true ↔
    1520000 ≤ duration ∧ duration ≤ 1680000 ∧ delimiter = Config.startDelimiter := by
  simp only [preambleOpens, preambleInRate, Bool.and_eq_true, decide_eq_true_eq, and_assoc]

/-- A receiver not sampling an open frame takes a preamble after 12 quiet bit times. -/
theorem RxPhase.searches_iff (x : RxPhase) (quietBits : Nat) :
    x.searches quietBits = true ↔ (x = .searching ∨ x = .awaitQuiet) ∧ 12 ≤ quietBits := by
  have quiet : decide (quietGap ≤ quietBits) = true ↔ 12 ≤ quietBits := decide_eq_true_iff
  unfold RxPhase.searches
  rw [Bool.and_eq_true, quiet]
  cases x <;> simp

section
variable {s : State}

/-- A preamble out of rate or without its delimiter is a SYNC error. -/
theorem State.rejectSync_rejected {p : Preamble} {delimiter : Byte} (hs : s.rx.phase.searches p.quietBits = true)
    (hp : ¬ preambleOpens p.duration delimiter = true) : s.rejectSync p delimiter =
      ({ s with rx := { s.rx with phase := .awaitQuiet, sync := satSucc 65535 s.rx.sync } } : State).report .sync none :=
  if_pos ⟨hs, Bool.eq_false_iff.2 hp⟩

theorem State.rejectSync_ignored {p : Preamble} {delimiter : Byte} (h : ¬ s.rx.phase.searches p.quietBits = true ∨
    preambleOpens p.duration delimiter = true) : s.rejectSync p delimiter = s :=
  if_neg fun ⟨searches, closed⟩ => h.elim (fun hs => hs searches) fun opens => Bool.eq_false_iff.1 closed opens

theorem State.openFrame_opened {p : Preamble} {delimiter : Byte} (hs : s.rx.phase.searches p.quietBits = true)
    (hp : preambleOpens p.duration delimiter = true) :
    s.openFrame p delimiter = { s with rx := { s.rx with phase := .sampling p.duration } } :=
  if_pos ⟨hs, hp⟩

theorem State.openFrame_ignored {p : Preamble} {delimiter : Byte} (h : ¬ s.rx.phase.searches p.quietBits = true ∨
    ¬ preambleOpens p.duration delimiter = true) : s.openFrame p delimiter = s :=
  if_neg fun ⟨searches, opens⟩ => h.elim (fun hs => hs searches) fun closed => closed opens

/-! ## The end of an open frame (R71 to R74) -/

/-- The state with the receiver searching for a preamble again. -/
def State.searching (s : State) : State := { s with rx := { s.rx with phase := .searching } }

theorem State.receiveFrame_ignored (h : ∀ period, s.rx.phase ≠ .sampling period) (bits : Bits) (own : Bool) :
    s.receiveFrame bits own = s := by
  unfold State.receiveFrame
  split
  · exact absurd ‹_› (h _)
  all_goals rfl

section
variable {period : Nat} (h : s.rx.phase = .sampling period) {bits : Bits}
include h

theorem State.receiveFrame_bad (hr : receive bits = .bad) (own : Bool) :
    s.receiveFrame bits own = s.discardFrame .searching := by
  simp only [State.receiveFrame, h, hr]

theorem State.receiveFrame_badCount (hr : receive bits = .badCount) (own : Bool) :
    s.receiveFrame bits own = s.discardFrame .awaitQuiet := by
  simp only [State.receiveFrame, h, hr]

/-- A good frame is the station's own, or goes by its sender. -/
theorem State.receiveFrame_good {f : Frame} (hr : receive bits = .good f) (own : Bool) :
    s.receiveFrame bits own =
      if own = true then s.searching
      else if f.sender = s.station.number then s.searching.duplicateStation else s.searching.placeFrame f := by
  simp only [State.receiveFrame, h, hr]
  rfl

end

/-- A duplicate station abandons its frame and is muted for good, with one report (R73). -/
theorem State.duplicateStation_spec (s : State) :
    s.duplicateStation = { s with
      outgoing := abandonCopies s.outgoing, tx := { s.tx with state := .muted none }
      attention := s.duplicateStation.attention } ∧
    ∀ u : State, s.attention = u.attention → s.station.time = u.station.time →
      (u.report .dupStation none).LinkFollows s.duplicateStation := by
  refine ⟨?_, fun u ha ht => State.linkFollows_reformLink (State.report_attention_congr _ _ ha ht)⟩
  have frame := (State.reported_report { s with
    outgoing := abandonCopies s.outgoing, tx := { s.tx with state := .muted none } } .dupStation none).frame
  unfold State.duplicateStation
  rw [frame]
  rfl

/-- A frame of another station before commit is counted and dropped (R72). -/
theorem State.placeFrame_dropped (h : s.inService = false) (f : Frame) :
    s.placeFrame f = { s with rx := { s.rx with good := satSucc 65535 s.rx.good } } :=
  if_pos (by rw [h]; rfl)

theorem State.placeFrame_placed (h : s.inService = true) (hb : s.rx.buffers.length < 2) (f : Frame) :
    s.placeFrame f = { s with
      rx := { s.rx with good := satSucc 65535 s.rx.good, buffers := s.rx.buffers ++ [f] } } :=
  (if_neg (by rw [h]; exact Bool.false_ne_true)).trans (if_pos hb)

/-- With both buffers full the frame is lost with RX_OVERRUN. -/
theorem State.placeFrame_lost (h : s.inService = true) (hb : 2 ≤ s.rx.buffers.length) (f : Frame) :
    s.placeFrame f = ({ s with rx := { s.rx with overrun := satSucc 65535 s.rx.overrun } } : State).report .rxOverrun none :=
  (if_neg (by rw [h]; exact Bool.false_ne_true)).trans (if_neg (Nat.not_lt.2 hb))

end

/-! ## The statement -/

/-- Past a change count of at most 8: a frame cut short, with a wrong CRC or with a value of R156 is bad, and every other is
the frame with each field at its bits. -/
theorem receive_laid_out {bits : Bits} (h : 72 ≤ bits.length) (hn : fieldAt bits 64 4 ≤ 8) :
    (bits.length < 104 + 104 * fieldAt bits 64 4 ∨ ¬ CrcHolds bits ∨ ValueBad bits → receive bits = .bad) ∧
    (104 + 104 * fieldAt bits 64 4 ≤ bits.length → CrcHolds bits → ¬ ValueBad bits →
      ∃ st, SenderState.ofCode (fieldAt bits 20 2) = some st ∧ receive bits = .good (frameOfBits bits st)) :=
  ⟨fun hb => receive_bad h hn (by rwa [← valueBad_iff]), receive_good_of_not_valueBad hn⟩

/-- Settles O57: the check register and the fields by one bit more, a frame received by its layout, and each row of the
receiver under its conditions. -/
theorem theReceiverChecksFrames : Obligations.TheReceiverChecksFrames := by
  refine ⟨⟨crcRegister, rfl, crcRegister_append_singleton, crcOf_eq⟩,
    fun bits start len => ⟨fieldAt_zero bits start, fun b hb => fieldAt_succ hb⟩,
    fun bits => ⟨receive_short, receive_badCount, fun h hn => ⟨(receive_laid_out h hn).1, fun hl hc hv => ?_⟩⟩,
    fun s => ⟨fun quiet duration delimiter => ⟨fun hs hp => ?_, fun hs hp => ?_, fun hi => ?_, fun hi => ?_⟩,
      fun bits own h => ?_, fun period bits own h => ⟨fun hr => ?_, fun hr => ?_, fun f hr =>
        ⟨fun ho => ?_, fun ho hd => ?_, fun ho hd => ⟨fun hs => ?_, fun hs hb => ?_, fun hs hb => ?_⟩⟩⟩⟩⟩
  · obtain ⟨st, hst, good⟩ := (receive_laid_out h hn).2 hl hc hv
    obtain ⟨ready, replaying, complete⟩ := SenderState.of_ofCode hst
    refine ⟨frameOfBits bits st, good, rfl, rfl, rfl, ready, replaying, complete, rfl, fieldAt_one_iff _ _,
      fieldAt_one_iff _ _, ?_, fun i c hi => ?_⟩
    · simp only [frameOfBits, changesOfBits, List.length_map, List.length_range]
    · rw [eq_changeAt hi, changeAt_eq]
      obtain ⟨opened, closed, intermediate, bad⟩ := Position.of_twoBits (fieldAt_lt bits (72 + 104 * i + 88) 2)
      exact ⟨rfl, rfl, rfl, rfl, opened, closed, intermediate, bad, rfl, rfl, fieldAt_one_iff _ _⟩
  · rw [exec_syncReject, State.rejectSync_rejected ((RxPhase.searches_iff _ _).2 hs) (hp ∘ (preambleOpens_iff _ _).1)]
    exact ⟨_, rfl, State.reported_report _ _ _⟩
  · rw [exec_frameOpened, State.openFrame_opened ((RxPhase.searches_iff _ _).2 hs) ((preambleOpens_iff _ _).2 hp)]
  · rw [exec_syncReject, State.rejectSync_ignored]
    rwa [RxPhase.searches_iff, preambleOpens_iff]
  · rw [exec_frameOpened, State.openFrame_ignored]
    rwa [RxPhase.searches_iff, preambleOpens_iff]
  · rw [exec_frameReceive, State.receiveFrame_ignored h]
  · rw [exec_frameReceive, State.receiveFrame_bad h hr]
    exact ⟨_, rfl, State.reported_report _ _ _⟩
  · rw [exec_frameReceive, State.receiveFrame_badCount h hr]
    exact ⟨_, rfl, State.reported_report _ _ _⟩
  all_goals rw [exec_frameReceive, State.receiveFrame_good h hr]
  · rw [if_pos ho]
    rfl
  · rw [if_neg (Bool.eq_false_iff.1 ho), if_pos hd]
    obtain ⟨frame, link⟩ := s.searching.duplicateStation_spec
    exact ⟨_, rfl, frame, link s rfl rfl⟩
  all_goals rw [if_neg (Bool.eq_false_iff.1 ho), if_neg hd]
  · rw [State.placeFrame_dropped (s := s.searching) hs]
    rfl
  · rw [State.placeFrame_placed (s := s.searching) hs hb]
    rfl
  · rw [State.placeFrame_lost (s := s.searching) hs hb]
    exact ⟨_, rfl, State.reported_report _ _ _⟩

end Sys2Proof.Machine
end

section
/-! SUPPORT. The tick (R95, R103, R105 to R107): what the clock's part of it writes, case by case, what is tested after it, and
its statement (O54). -/

namespace Sys2Proof.Machine

theorem exec_clockAdvance (s : State) : exec .clockAdvance s = .next s.tick := rfl

theorem HoldCauses.isEmpty_iff (c : HoldCauses) : c.isEmpty = true ↔ c = HoldCauses.empty := by
  obtain ⟨startPending, localHold, step, brk, peer, lag⟩ := c
  simp [HoldCauses.isEmpty, HoldCauses.empty, and_assoc]

/-! ## Where the clock moves (R95, R103, R105) -/

/-- The clock runs: REPLAYING with an empty hold cause set (R95). -/
def State.Runs (s : State) : Prop := s.station.state = .replaying ∧ s.clock.causes = HoldCauses.empty

/-- The advance reaches the hold-at time `h` (R103; at the end of the range log entry 34). -/
def State.Reaches (s : State) (h : Nat) : Prop :=
  s.clock.holdAt = some h ∧ s.clock.integer < maxTime ∧ (h < s.clock.advanced ∨ h = s.clock.advanced ∧ h = maxTime)

/-- The integer part after an advance that reaches no hold-at time; it saturates (R95). -/
def Clock.nextInteger (c : Clock) : Nat := if maxTime ≤ c.integer then c.integer else min c.advanced maxTime

/-- The fraction after an advance that reaches no hold-at time; it stands where the clock stood at 2^40 - 2 (log entry 23). -/
def Clock.nextFraction (c : Clock) : Nat :=
  if maxTime ≤ c.integer then c.fraction else if maxTime < c.advanced then 0 else c.advancedFraction

/-- The state with the clock at another reading. -/
def State.clockAt (s : State) (integer fraction : Nat) : State :=
  { s with clock := { s.clock with integer := integer, fraction := fraction } }

/-- The skip test would jump from reading `now` to the skip lead before the least head `i` (R105). -/
structure State.SkipsTo (s : State) (now : Nat) (i : Item) : Prop where
  head : s.leastHead = some i
  enabled : s.clock.skipEnable = true
  safe : i.key.time < s.horizon.safeTime
  far : s.settings.skipThreshold * 1000 < i.key.time - now
  ahead : now + s.settings.skipLead * 1000 < i.key.time

section
variable {s : State}

theorem State.clockRuns_iff : s.clockRuns = true ↔ s.Runs := by
  rw [State.clockRuns, Bool.and_eq_true, beq_iff_eq, HoldCauses.isEmpty_iff]
  rfl

theorem State.clockAct_held (h : ¬ s.Runs) : s.clockAct = s := if_neg (State.clockRuns_iff.not.2 h)

theorem State.advanceClock_reached {h : Nat} (hr : s.Reaches h) : s.advanceClock = s.reachHoldAt h := by
  obtain ⟨holdAt, below, reached⟩ := hr
  simp only [State.advanceClock, if_neg (Nat.not_le.2 below), holdAt]
  exact if_pos reached

theorem State.advanceClock_passes (hr : ∀ h, ¬ s.Reaches h) :
    s.advanceClock = s.clockAt s.clock.nextInteger s.clock.nextFraction := by
  unfold State.advanceClock
  split
  · rename_i saturated
    simp only [Clock.nextInteger, Clock.nextFraction, if_pos saturated]
    rfl
  · rename_i below
    have plain : s.plainAdvance = s.clockAt s.clock.nextInteger s.clock.nextFraction := by
      simp only [Clock.nextInteger, Clock.nextFraction, if_neg below]
      rfl
    split
    · rename_i h holdAt
      rw [if_neg fun reached => hr h ⟨holdAt, Nat.not_le.1 below, reached⟩, plain]
    · exact plain

/-- With BREAK set the clock no longer runs, and no skip test is taken. -/
theorem State.skipTest_reachHoldAt (s : State) (h : Nat) : (s.reachHoldAt h).skipTest = s.reachHoldAt h := by
  refine if_neg fun ⟨_, runs⟩ => ?_
  have empty := congrArg HoldCauses.brk (State.clockRuns_iff.1 runs).2
  cases empty

/-- The skip test from a reading at which it jumps. -/
theorem State.skipTest_jumps {now fraction : Nat} (hr : s.Runs) {i : Item} (h : s.SkipsTo now i) :
    (s.clockAt now fraction).skipTest = (s.clockAt now fraction).jumpTo (i.key.time - s.settings.skipLead * 1000) := by
  have runs : (s.clockAt now fraction).clockRuns = true := State.clockRuns_iff.2 hr
  have head : (s.clockAt now fraction).headTime = some i.key.time := congrArg (Option.map _) h.head
  have target : (s.clockAt now fraction).skipTarget = some (i.key.time - s.settings.skipLead * 1000) := by
    simp only [State.skipTarget, head]
    exact if_pos ⟨h.safe, h.far, h.ahead⟩
  have on : (s.clockAt now fraction).clock.skipEnable = true := h.enabled
  simp only [State.skipTest, on, runs, target, and_self, if_true]

theorem State.skipTest_stays {now fraction : Nat} (h : ∀ i, ¬ s.SkipsTo now i) :
    (s.clockAt now fraction).skipTest = s.clockAt now fraction := by
  unfold State.skipTest
  split
  · rename_i test
    split
    · rename_i target ht
      unfold State.skipTarget at ht
      split at ht
      · rename_i time head
        obtain ⟨i, hi, rfl⟩ := Option.map_eq_some_iff.1 head
        split at ht
        · rename_i jumps
          exact absurd ⟨hi, test.1, jumps.1, jumps.2.1, jumps.2.2⟩ (h i)
        · cases ht
      · cases ht
    · rfl
  · rfl

/-- A jump with no hold-at time below its target. -/
theorem State.jumpTo_plain {target : Nat} (h : ∀ x, s.clock.holdAt = some x → target ≤ x) (now fraction : Nat) :
    (s.clockAt now fraction).jumpTo target = s.clockAt target 0 := by
  unfold State.jumpTo
  dsimp only
  split
  · rename_i x hx
    exact if_neg (Nat.not_lt.2 (h x hx))
  · rfl

/-- A jump past a hold-at time reaches it instead (R103). -/
theorem State.jumpTo_reached {target x : Nat} (hx : s.clock.holdAt = some x) (h : x < target) (now fraction : Nat) :
    (s.clockAt now fraction).jumpTo target = s.reachHoldAt x := by
  have holdAt : (s.clockAt now fraction).clock.holdAt = some x := hx
  simp only [State.jumpTo, holdAt]
  exact if_pos h

/-! ## The clock's part of a tick -/

theorem State.clockAct_reached (hr : s.Runs) {h : Nat} (hh : s.Reaches h) : s.clockAct = s.reachHoldAt h := by
  rw [State.clockAct, if_pos (State.clockRuns_iff.2 hr), State.advanceClock_reached hh, State.skipTest_reachHoldAt]

theorem State.clockAct_passes (hr : s.Runs) (hh : ∀ h, ¬ s.Reaches h) :
    s.clockAct = (s.clockAt s.clock.nextInteger s.clock.nextFraction).skipTest := by
  rw [State.clockAct, if_pos (State.clockRuns_iff.2 hr), State.advanceClock_passes hh]

/-- The clock's part of a tick takes the clock to another reading, or to a hold-at time. -/
theorem State.clockAct_cases (s : State) :
    (∃ integer fraction, s.clockAct = s.clockAt integer fraction) ∨ ∃ h, s.clockAct = s.reachHoldAt h := by
  by_cases hr : s.Runs
  · by_cases hh : ∃ h, s.Reaches h
    · obtain ⟨h, hh⟩ := hh
      exact .inr ⟨h, State.clockAct_reached hr hh⟩
    · rw [State.clockAct_passes hr (not_exists.1 hh)]
      by_cases hs : ∃ i, s.SkipsTo s.clock.nextInteger i
      · obtain ⟨i, hi⟩ := hs
        rw [State.skipTest_jumps hr hi]
        by_cases hx : ∃ x, s.clock.holdAt = some x ∧ x < i.key.time - s.settings.skipLead * 1000
        · obtain ⟨x, holdAt, below⟩ := hx
          exact .inr ⟨x, State.jumpTo_reached holdAt below _ _⟩
        · exact .inl ⟨_, _, State.jumpTo_plain (fun x holdAt => Nat.not_lt.1 fun below => hx ⟨x, holdAt, below⟩) _ _⟩
      · exact .inl ⟨_, _, State.skipTest_stays (not_exists.1 hs)⟩
  · exact .inl ⟨s.clock.integer, s.clock.fraction, State.clockAct_held hr⟩

/-- The clock's part of a tick writes the reading, the hold-at time and BREAK with its flag alone. -/
theorem State.clockAct_frame (s : State) : s.clockAct = { s with
    clock := { s.clock with
      integer := s.clockAct.clock.integer, fraction := s.clockAct.clock.fraction, holdAt := s.clockAct.clock.holdAt
      causes := { s.clock.causes with brk := s.clockAct.clock.causes.brk } }
    attention := { s.attention with flags := { s.attention.flags with brk := s.clockAct.attention.flags.brk } } } := by
  rcases s.clockAct_cases with ⟨integer, fraction, act⟩ | ⟨h, act⟩ <;> rw [act] <;> rfl

/-! ## The timers (R67, R89) -/

theorem Peer.tick_eq (p : Peer) : p.tick = { p with silence := p.tick.silence } := by
  unfold Peer.tick
  split <;> rfl

theorem Peer.tick_active {p : Peer} (h : p.state = .active) {k : Nat} (hk : p.silence = some k) :
    p.tick.silence = some (min (k + 1) 40000) := by
  simp only [Peer.tick, h, hk]
  rfl

theorem Peer.tick_stopped {p : Peer} (h : p.state ≠ .active ∨ p.silence = none) : p.tick.silence = p.silence := by
  unfold Peer.tick
  split
  · rename_i active
    rcases h with h | h
    · exact absurd active h
    · rw [h]; rfl
  all_goals rfl

theorem State.peer_countTime (s : State) (n : Nat) : s.countTime.peer n = (s.peer n).tick := by
  simp only [State.peer, State.countTime, Vector.getElem?_mapIdx]
  cases s.peers[n]? <;> rfl

theorem TxState.tick_of_not_timed {x : TxState} (h : ∀ k, x ≠ .muted (some k)) : x.tick = x := by
  unfold TxState.tick
  split
  · exact absurd rfl (h _)
  all_goals rfl

/-! ## The tick (R106, R107) -/

/-- The state of a tick before its lag and stall tests. -/
def State.ticked (s : State) : State := s.countTime.clockAct

theorem State.tick_eq (s : State) : s.tick = (s.ticked.testLag s.countTime).watchStall s.countTime := rfl

theorem State.ticked_horizon (s : State) : s.ticked.horizon = s.horizon := by
  rw [State.ticked, State.clockAct_frame]
  rfl

/-- The tests of a tick write LAG with its flag and the stall timer alone: the safe time stands, so STALL does. -/
theorem State.tick_frame (s : State) : s.tick = { s.ticked with
    clock := { s.ticked.clock with
      causes := { s.ticked.clock.causes with lag := s.tick.clock.causes.lag }
      stallTimer := s.tick.clock.stallTimer }
    attention := { s.ticked.attention with flags := { s.ticked.attention.flags with
      lag := s.tick.attention.flags.lag } } } := by
  have stands : ¬ s.countTime.horizon.safeTime < (s.ticked.testLag s.countTime).horizon.safeTime := by
    rw [State.testLag_horizon, State.ticked_horizon]
    exact lt_irrefl _
  rw [State.tick_eq]
  simp only [State.watchStall, stands, decide_false, Bool.not_false, Bool.and_true]
  rw [State.testLag_spec]

end

/-- A tick leaves everything but station time, the silence timers, the transmitter, the clock and the attention unit. -/
theorem State.tick_keeps (s : State) : s.tick = { s with
    station := { s.station with time := (s.station.time + 1) % timeModulus }
    peers := s.countTime.peers, tx := s.countTime.tx, clock := s.tick.clock, attention := s.tick.attention } := by
  rw [State.tick_frame, State.ticked, State.clockAct_frame]
  rfl

/-- What the tick leaves of the clock and the attention unit of `s`. -/
theorem State.tick_clock (s : State) : s.tick.clock = { s.clock with
    integer := s.tick.clock.integer, fraction := s.tick.clock.fraction, holdAt := s.tick.clock.holdAt
    causes := { s.clock.causes with brk := s.tick.clock.causes.brk, lag := s.tick.clock.causes.lag }
    stallTimer := s.tick.clock.stallTimer } := by
  rw [State.tick_frame, State.ticked, State.clockAct_frame]
  rfl

theorem State.tick_attention (s : State) : s.tick.attention = { s.attention with flags := { s.attention.flags with
    brk := s.tick.attention.flags.brk, lag := s.tick.attention.flags.lag } } := by
  rw [State.tick_frame, State.ticked, State.clockAct_frame]
  rfl

theorem State.tick_leastHead (s : State) : s.tick.leastHead = s.leastHead :=
  State.leastHead_congr (by rw [State.tick_keeps]) (by rw [State.tick_keeps]) (by rw [State.tick_keeps])

theorem State.ticked_leastHead (s : State) : s.ticked.leastHead = s.leastHead := by
  rw [State.ticked, State.clockAct_frame]
  rfl

/-- The lag test of a tick is taken on the state after the advance, where one of its inputs changed in the tick. -/
theorem State.lagTested_tick (s : State) : s.LagTested s.tick ↔
    s.ticked.station.state = .replaying ∧ s.ticked.lagInputs ≠ s.countTime.lagInputs := by
  have integer : s.tick.clock.integer = s.ticked.clock.integer := by rw [State.tick_frame]
  have tickState : s.tick.station.state = s.station.state := by rw [State.tick_keeps]
  have state : s.ticked.station.state = s.station.state := by rw [State.ticked, State.clockAct_frame]; rfl
  have horizon : s.tick.horizon = s.horizon := by rw [State.tick_keeps]
  rw [State.lagInputs_ne_iff, State.LagTested, s.ticked_leastHead, s.ticked_horizon, integer, tickState, state, horizon,
    s.tick_leastHead]
  refine and_congr_left fun _ => or_iff_left fun ⟨replaying, complete⟩ => ?_
  cases replaying.symm.trans complete

/-- The advance leaves LAG to the test. -/
theorem State.ticked_lag (s : State) : s.ticked.clock.causes.lag = s.clock.causes.lag := by
  rw [State.ticked, State.clockAct_frame]
  rfl

theorem State.tick_lag (s : State) : s.tick.clock.causes.lag =
    if s.ticked.station.state = .replaying ∧ s.ticked.lagInputs ≠ s.countTime.lagInputs then s.ticked.lagAfter
    else s.clock.causes.lag := by
  rw [← s.ticked_lag]
  exact s.ticked.testLag_cause s.countTime

theorem State.lagFollows_tick (s : State) : s.LagFollows s.tick := by
  have head : s.tick.leastHead = s.ticked.leastHead := by rw [s.tick_leastHead, s.ticked_leastHead]
  have same : s.tick.horizon = s.ticked.horizon ∧ s.tick.clock.integer = s.ticked.clock.integer ∧
      s.tick.settings = s.ticked.settings := by rw [State.tick_frame]; exact ⟨rfl, rfl, rfl⟩
  obtain ⟨horizon, integer, settings⟩ := same
  refine ⟨fun untested => ?_, fun tested i hi hs hl => ?_, fun tested i hi hs hl hu => ?_, fun tested hb => ?_⟩
  · rw [s.tick_lag, if_neg (s.lagTested_tick.not.1 untested)]
  all_goals rw [s.tick_lag, if_pos (s.lagTested_tick.1 tested)]
  · rw [head] at hi; rw [horizon] at hs; rw [settings, integer] at hl
    exact State.lagAfter_above hi hs hl
  · rw [head] at hi; rw [horizon] at hs; rw [settings, integer] at hl hu
    rw [State.lagAfter_between hi hs hl hu, s.ticked_lag]
  · rw [head, horizon, settings, integer] at hb
    exact State.lagAfter_below hb

theorem State.tick_lagFlag (s : State) : s.tick.attention.flags.lag =
    (s.attention.flags.lag || (s.tick.clock.causes.lag && !s.clock.causes.lag)) := by
  have flag : s.ticked.attention.flags.lag = s.attention.flags.lag := by
    rw [State.ticked, State.clockAct_frame]
    rfl
  rw [← s.ticked_lag, ← flag]
  exact s.ticked.testLag_flag s.countTime

/-- The stall timer counts, starts or is stopped; STALL stands through a tick (log entries 12, 36). -/
theorem State.tick_stallTimer (s : State) : s.tick.clock.stallTimer =
    if (s.clock.stall || !s.tick.stallHolds) = true then none else some (s.countTime.clock.stallTimer.getD 0) := by
  set tested := s.ticked.testLag s.countTime
  have safe : tested.horizon.safeTime = s.countTime.horizon.safeTime := by
    simp only [tested, State.testLag_horizon, State.ticked_horizon]
    rfl
  have clock : tested.clock.stall = s.clock.stall ∧ tested.clock.stallTimer = s.countTime.clock.stallTimer := by
    simp only [tested]
    rw [State.testLag_spec, State.ticked, State.clockAct_frame]
    exact ⟨rfl, rfl⟩
  have watched : s.tick.clock.stallTimer =
      if ((tested.clock.stall && !decide (s.countTime.horizon.safeTime < tested.horizon.safeTime)) ||
        !s.tick.stallHolds) = true then none
      else if s.countTime.horizon.safeTime = tested.horizon.safeTime then some (tested.clock.stallTimer.getD 0)
      else some 0 := rfl
  rw [watched, safe, clock.1, clock.2, if_pos rfl]
  simp only [lt_irrefl, decide_false, Bool.not_false, Bool.and_true]

/-! ## The reading a tick leaves -/

section
variable {s : State}

/-- A clock that does not run stands, and no lag test is taken. -/
theorem State.tick_held (h : ¬ s.Runs) :
    s.tick.clock = { s.clock with stallTimer := s.tick.clock.stallTimer } ∧ s.tick.attention = s.attention := by
  have untested : s.countTime.testLag s.countTime = s.countTime := if_neg fun changed => changed.2 rfl
  rw [State.tick_eq, State.ticked, State.clockAct_held (s := s.countTime) h, untested]
  simp only [State.watchStall, lt_irrefl, decide_false, Bool.not_false, Bool.and_true]
  exact ⟨rfl, rfl⟩

/-- A tick that reaches a hold-at time breaks there (R103). -/
theorem State.tick_breaks {h : Nat} (act : s.ticked = s.countTime.reachHoldAt h) :
    s.tick.clock.integer = h ∧ s.tick.clock.fraction = 0 ∧ s.tick.clock.holdAt = none ∧
    s.tick.clock.causes.brk = true ∧ s.tick.attention.flags.brk = true := by
  rw [State.tick_frame, act]
  exact ⟨rfl, rfl, rfl, rfl, rfl⟩

/-- A tick that reaches no hold-at time leaves it and BREAK. -/
theorem State.tick_passes {integer fraction : Nat} (act : s.ticked = s.countTime.clockAt integer fraction) :
    (s.tick.clock.holdAt = s.clock.holdAt ∧ s.tick.clock.causes.brk = s.clock.causes.brk ∧
      s.tick.attention.flags.brk = s.attention.flags.brk) ∧
    s.tick.clock.integer = integer ∧ s.tick.clock.fraction = fraction := by
  rw [State.tick_frame, act]
  exact ⟨⟨rfl, rfl, rfl⟩, rfl, rfl⟩

/-- The timers of a tick do not touch what the clock's part of it reads. -/
theorem State.ticked_reached (hr : s.Runs) {h : Nat} (hh : s.Reaches h) : s.ticked = s.countTime.reachHoldAt h :=
  State.clockAct_reached (s := s.countTime) hr hh

theorem State.ticked_stays (hr : s.Runs) (hh : ∀ h, ¬ s.Reaches h) (hs : ∀ i, ¬ s.SkipsTo s.clock.nextInteger i) :
    s.ticked = s.countTime.clockAt s.clock.nextInteger s.clock.nextFraction := by
  refine (State.clockAct_passes (s := s.countTime) hr hh).trans (State.skipTest_stays fun i jumps => hs i ?_)
  exact ⟨jumps.head, jumps.enabled, jumps.safe, jumps.far, jumps.ahead⟩

theorem State.ticked_jumps (hr : s.Runs) (hh : ∀ h, ¬ s.Reaches h) {i : Item}
    (hs : s.SkipsTo s.clock.nextInteger i) :
    s.ticked = (s.countTime.clockAt s.clock.nextInteger s.clock.nextFraction).jumpTo
      (i.key.time - s.settings.skipLead * 1000) :=
  (State.clockAct_passes (s := s.countTime) hr hh).trans
    (State.skipTest_jumps (s := s.countTime) hr ⟨hs.head, hs.enabled, hs.safe, hs.far, hs.ahead⟩)

end

/-- Settles O54: the timers by the peers' and the transmitter's own, the clock by the case of its part of the tick, and the
tests on the state after it. -/
theorem theTickAdvancesTheClock : Obligations.TheTickAdvancesTheClock := by
  intro s
  have peers (n : Nat) : s.tick.peer n = (s.peer n).tick := by
    rw [← s.peer_countTime]
    exact State.peer_congr (by rw [State.tick_keeps]) n
  have tx : s.tick.tx = { s.tx with state := s.tx.state.tick } := by rw [State.tick_keeps]; rfl
  refine ⟨s.tick, exec_clockAdvance s, ?_, fun n => ?_, fun n k _ ha hk => ?_, fun n h => ?_, fun k h => ?_, fun h => ?_,
    ?_⟩
  · rw [State.tick_keeps]; rfl
  · rw [peers]; exact (s.peer n).tick_eq
  · rw [peers]; exact Peer.tick_active ha hk
  · rw [peers]; exact Peer.tick_stopped h
  · rw [tx, h]; rfl
  · rw [tx, TxState.tick_of_not_timed h]
  intro c last sum next runs reached now skips breaksAt passes
  have unreached (hn : ¬ reached) (h : Nat) : ¬ s.Reaches h := fun hh => hn ⟨hh.2.1, h, hh.1, hh.2.2⟩
  have jumps {i : Item} (hs : skips i) : s.SkipsTo s.clock.nextInteger i := by
    obtain ⟨head, enabled, -, safe, far, ahead⟩ := hs
    exact ⟨head, enabled, safe, far, ahead⟩
  refine ⟨s.tick_clock, s.tick_attention, State.tick_held, fun hr hh h holdAt => ?_, fun hr hn hs => ?_,
    fun hr i hs => ?_, s.lagFollows_tick, s.tick_lagFlag, fun h => ?_, fun stall stalls => ?_⟩
  · obtain ⟨below, x, hx, past⟩ := hh
    cases hx.symm.trans holdAt
    exact State.tick_breaks (State.ticked_reached hr ⟨hx, below, past⟩)
  · refine State.tick_passes (State.ticked_stays hr (unreached hn) fun i skip => hs i ?_)
    exact ⟨skip.head, skip.enabled, hn, skip.safe, skip.far, skip.ahead⟩
  · have act := State.ticked_jumps hr (unreached hs.2.2.1) (jumps hs)
    refine ⟨fun above => State.tick_passes ?_, fun h holdAt below => State.tick_breaks ?_⟩
    · rw [act]
      exact State.jumpTo_plain (s := s.countTime) above _ _
    · rw [act]
      exact State.jumpTo_reached (s := s.countTime) holdAt below _ _
  · have stopped : (s.clock.stall || !s.tick.stallHolds) = true := by
      rwa [← State.stallHolds_iff, Bool.not_eq_true, ← Bool.not_eq_true', ← Bool.or_eq_true] at h
    rw [s.tick_stallTimer, if_pos stopped]
  · have counts : ¬ (s.clock.stall || !s.tick.stallHolds) = true := by
      rw [stall, s.tick.stallHolds_iff.2 stalls]
      exact Bool.false_ne_true
    rw [s.tick_stallTimer, if_neg counts]
    simp only [State.countTime]
    cases c.stallTimer <;> rfl

end Sys2Proof.Machine
end

section
/-! SUPPORT. The tables that the bounds are formed from (file 05): acts that leave the sources' bounds, the peer entries, the
frames held, the outgoing change set and the announced horizon, and what the bounds then are. -/

namespace Sys2Proof.Machine

/-! ## The bounds through what they are formed from (R75, R90, R91) -/

/-- The stored horizon of a counted peer; another takes no part (R80). -/
def Peer.bound (p : Peer) : Option Nat := if p.counted = true then some p.horizon else none

theorem Peer.bound_beq (p : Peer) (t : Nat) : (p.bound == some t) = (p.counted && p.horizon == t) := by
  unfold Peer.bound
  cases p.counted <;> simp

theorem State.countedHorizons_eq (s : State) : s.countedHorizons = s.peers.toList.filterMap Peer.bound := by
  simp only [State.countedHorizons, ← List.filterMap_eq_map', ← List.filterMap_eq_filter, List.filterMap_filterMap]
  congr 1
  funext p
  unfold Peer.bound
  cases hc : p.counted <;> simp [Option.guard, hc]

/-- What a list's entries are bounded by gives the bounds of the list and the first entry at one of them. -/
theorem bounds_of_map_eq {α : Type} {f : α → Option Nat} {xs ys : List α} (h : ys.map f = xs.map f) :
    ys.filterMap f = xs.filterMap f ∧
      ∀ t, (ys.findIdx? fun x => f x == some t) = xs.findIdx? fun x => f x == some t := by
  have filtered (zs : List α) : zs.filterMap f = (zs.map f).filterMap id := by rw [List.filterMap_map]; rfl
  have found (zs : List α) (t : Nat) :
      (zs.findIdx? fun x => f x == some t) = (zs.map f).findIdx? (· == some t) := by rw [List.findIdx?_map]; rfl
  exact ⟨by rw [filtered, filtered, h], fun t => by rw [found, found, h]⟩

theorem State.map_sources_congr {s t : State} {β : Type} {f : Source → β} (h : ∀ n, f (t.source n) = f (s.source n)) :
    t.sources.toList.map f = s.sources.toList.map f := by
  refine List.ext_getElem (by simp) fun n hn _ => ?_
  have hn : n < 32 := by simpa using hn
  simpa [State.source, hn] using h n

theorem State.map_peers_congr {s t : State} {β : Type} {f : Peer → β} (h : ∀ n, f (t.peer n) = f (s.peer n)) :
    t.peers.toList.map f = s.peers.toList.map f := by
  refine List.ext_getElem (by simp) fun n hn _ => ?_
  have hn : n < 16 := by simpa using hn
  simpa [State.peer, hn] using h n

theorem State.localWatermark_congr {s t : State} (hc : t.beforeCommit = s.beforeCommit)
    (hr : ∀ n, (t.source n).bound = (s.source n).bound) : t.localWatermark = s.localWatermark := by
  simp only [State.localWatermark, hc, (bounds_of_map_eq (State.map_sources_congr hr)).1]

/-- The bounds stay those of their inputs where neither these nor the bounds change. -/
theorem State.BoundsAgree.congr {s t : State} (h : s.BoundsAgree) (hc : t.beforeCommit = s.beforeCommit)
    (hr : ∀ n, (t.source n).bound = (s.source n).bound) (hp : ∀ n, (t.peer n).bound = (s.peer n).bound)
    (lw : t.horizon.lw = s.horizon.lw) (safe : t.horizon.safeTime = s.horizon.safeTime)
    (limiting : t.horizon.limiting = s.horizon.limiting) : t.BoundsAgree := by
  have watermark := State.localWatermark_congr hc hr
  obtain ⟨-, sourceAt⟩ := bounds_of_map_eq (State.map_sources_congr hr)
  obtain ⟨horizons, peerAt⟩ := bounds_of_map_eq (State.map_peers_congr hp)
  have safeBound : t.safeBound = s.safeBound := by
    simp only [State.safeBound, State.countedHorizons_eq, hc, watermark, horizons]
  refine ⟨by rw [lw, watermark, h.lw], by rw [safe, safeBound, h.safeTime], ?_⟩
  simp only [limiting, h.limiting, State.limitingCause, State.firstSourceAt, State.firstPeerAt, ← Peer.bound_beq, hc,
    safeBound, sourceAt, peerAt]

/-- Before the first commit the bounds do not depend on the tables (R76). -/
theorem State.boundsAgree_beforeCommit {s t : State} (h : s.BoundsAgree) (hs : s.beforeCommit = true)
    (ht : t.beforeCommit = true) (hh : t.horizon = s.horizon) : t.BoundsAgree := by
  have formed (u : State) (hu : u.beforeCommit = true) :
      u.localWatermark = 0 ∧ u.safeBound = 0 ∧ u.limitingCause = .none := by
    simp only [State.localWatermark, State.safeBound, State.limitingCause, hu, if_true, and_self]
  obtain ⟨lw, safe, limiting⟩ := formed s hs
  obtain ⟨lw', safe', limiting'⟩ := formed t ht
  exact ⟨by rw [hh, h.lw, lw, lw'], by rw [hh, h.safeTime, safe, safe'], by rw [hh, h.limiting, limiting, limiting']⟩

/-! ## Acts that leave the tables -/

/-- A peer with no silence timer unless it is ACTIVE (R89). -/
def Peer.TimerSound (p : Peer) : Prop := p.state ≠ .active → p.silence = none

/-- From `p` to `q` a peer entry keeps its bound; it stays NOT_EXPECTED, and its silence timer starts only in ACTIVE. -/
structure Peer.Kept (p q : Peer) : Prop where
  bound : q.bound = p.bound
  unexpected : p.state = .notExpected → q.state = .notExpected
  timer : p.TimerSound → q.TimerSound

theorem Peer.Kept.refl (p : Peer) : p.Kept p := ⟨rfl, id, id⟩

theorem Peer.Kept.trans {p q r : Peer} (h : p.Kept q) (h' : q.Kept r) : p.Kept r :=
  ⟨h'.bound.trans h.bound, h'.unexpected ∘ h.unexpected, h'.timer ∘ h.timer⟩

theorem Peer.counted_congr {p q : Peer} (h : q.state = p.state) : q.counted = p.counted := by
  unfold Peer.counted
  rw [h]

theorem Peer.kept_of_parts {p q : Peer} (hs : q.state = p.state) (hh : q.horizon = p.horizon)
    (hsil : p.state ≠ .active → q.silence = p.silence) : p.Kept q := by
  refine ⟨by simp only [Peer.bound, Peer.counted_congr hs, hh], hs.trans, fun sound inactive => ?_⟩
  rw [hs] at inactive
  rw [hsil inactive, sound inactive]

theorem Source.bound_congr {r r' : Source} (hs : r'.state = r.state) (hw : r'.watermark = r.watermark) :
    r'.bound = r.bound := by
  have opened : r'.isOpen = r.isOpen := by unfold Source.isOpen; rw [hs]
  simp only [Source.bound, opened, hw]

/-- From `s` to `t` the sources' states and watermarks, the peers' bounds, the frames held, the outgoing change set, the
frame on the line and the announced horizon stay as they are, no record enters intake, and the bounds stay as they are or
are re-formed. -/
structure State.TablesKept (s t : State) : Prop where
  number : t.station.number = s.station.number
  commit : t.beforeCommit = s.beforeCommit
  sources : ∀ n, (t.source n).state = (s.source n).state ∧ (t.source n).watermark = (s.source n).watermark
  intake : t.feed.intake = none ∨ t.feed.intake = s.feed.intake
  outgoing : t.outgoing = s.outgoing
  sending : ∀ f, t.tx.state = .sending f ↔ s.tx.state = .sending f
  peers : ∀ n, (s.peer n).Kept (t.peer n)
  buffers : t.rx.buffers = s.rx.buffers
  processing : ∀ pr, t.processing = some pr → ∃ pr', s.processing = some pr' ∧ pr.frame = pr'.frame
  ownAnnounced : t.horizon.ownAnnounced = s.horizon.ownAnnounced
  bounds : t.BoundsAgree ∨ t.horizon = s.horizon

/-- The parts of the state that `State.TablesKept` speaks of. -/
def State.tableParts (s : State) :=
  (s.station.number, s.station.state, s.sources, s.feed.intake, s.outgoing, s.tx.state, s.peers, s.rx.buffers,
    s.processing, s.horizon)

theorem State.tablesKept_of_parts {s t : State} (h : t.tableParts = s.tableParts) : s.TablesKept t := by
  simp only [State.tableParts, Prod.mk.injEq] at h
  obtain ⟨number, state, sources, intake, outgoing, tx, peers, buffers, processing, horizon⟩ := h
  exact {
    number := number
    commit := State.beforeCommit_congr state
    sources := fun n => by rw [State.source_congr sources]; exact ⟨rfl, rfl⟩
    intake := .inr intake
    outgoing := outgoing
    sending := fun f => by rw [tx]
    peers := fun n => by rw [State.peer_congr peers]; exact .refl _
    buffers := buffers
    processing := fun pr hpr => ⟨pr, processing ▸ hpr, rfl⟩
    ownAnnounced := by rw [horizon]
    bounds := .inr horizon }

theorem State.TablesKept.refl (s : State) : s.TablesKept s := State.tablesKept_of_parts rfl

theorem State.TablesKept.sourceBound {s t : State} (k : s.TablesKept t) (n : Nat) :
    (t.source n).bound = (s.source n).bound :=
  Source.bound_congr (k.sources n).1 (k.sources n).2

theorem State.BoundsAgree.kept {s t : State} (h : s.BoundsAgree) (k : s.TablesKept t) : t.BoundsAgree := by
  rcases k.bounds with agree | same
  · exact agree
  · exact h.congr k.commit k.sourceBound (fun n => (k.peers n).bound) (by rw [same]) (by rw [same]) (by rw [same])

theorem State.TablesKept.trans {s t u : State} (k : s.TablesKept t) (k' : t.TablesKept u) : s.TablesKept u where
  number := k'.number.trans k.number
  commit := k'.commit.trans k.commit
  sources n := ⟨(k'.sources n).1.trans (k.sources n).1, (k'.sources n).2.trans (k.sources n).2⟩
  intake := k'.intake.elim .inl fun h => k.intake.imp h.trans h.trans
  outgoing := k'.outgoing.trans k.outgoing
  sending f := (k'.sending f).trans (k.sending f)
  peers n := (k.peers n).trans (k'.peers n)
  buffers := k'.buffers.trans k.buffers
  processing pr hpr := by
    obtain ⟨pr', hpr', frame⟩ := k'.processing pr hpr
    obtain ⟨pr'', hpr'', frame'⟩ := k.processing pr' hpr'
    exact ⟨pr'', hpr'', frame.trans frame'⟩
  ownAnnounced := k'.ownAnnounced.trans k.ownAnnounced
  bounds := by
    rcases k'.bounds with agree | same
    · exact .inl agree
    · rcases k.bounds with agree | same'
      · exact .inl (agree.congr k'.commit k'.sourceBound (fun n => (k'.peers n).bound) (by rw [same]) (by rw [same])
          (by rw [same]))
      · exact .inr (same.trans same')

/-! ## The writes that acts share, after an act `s` to `t` that leaves the tables -/

section
variable {s t u : State}

theorem State.TablesKept.same (k : s.TablesKept t) (h : u.tableParts = t.tableParts) : s.TablesKept u :=
  k.trans (State.tablesKept_of_parts h)

theorem State.TablesKept.report {e : ErrorKind} {x : Option Nat} (k : s.TablesKept t) :
    s.TablesKept (t.report e x) := by
  rw [(t.reported_report e x).frame]
  exact k.same rfl

theorem State.TablesKept.enqueue {b : RecordBody} (k : s.TablesKept t) : s.TablesKept (t.enqueue b) := k.same rfl

theorem State.TablesKept.reformLink (k : s.TablesKept t) : s.TablesKept t.reformLink := k.same rfl

theorem State.TablesKept.startRelabel {c : RelabelCause} (k : s.TablesKept t) : s.TablesKept (t.startRelabel c) :=
  k.same rfl

theorem State.TablesKept.endRelabel {c : RelabelCause} (k : s.TablesKept t) : s.TablesKept (t.endRelabel c) := by
  cases c <;> exact k.same rfl

theorem State.TablesKept.setElement {n : Nat} {e : Element} (k : s.TablesKept t) : s.TablesKept (t.setElement n e) :=
  k.same rfl

theorem State.TablesKept.setTimer {source n time : Nat} (k : s.TablesKept t) :
    s.TablesKept (t.setTimer source n time) := k.same rfl

theorem State.TablesKept.cancelTimer {source n : Nat} (k : s.TablesKept t) : s.TablesKept (t.cancelTimer source n) :=
  k.same rfl

/-- The record in intake ends with its answer, where one is there. -/
theorem State.TablesKept.placeAnswer {a : Answer} (k : s.TablesKept t) : s.TablesKept (t.placeAnswer a) :=
  k.trans { State.TablesKept.refl t with intake := .inl rfl, bounds := .inr rfl }

theorem State.TablesKept.toLoading (k : s.TablesKept t) : s.TablesKept t.toLoading :=
  k.trans { State.TablesKept.refl t with commit := t.beforeCommit_toLoading, bounds := .inr rfl }

/-- A source written with its state and watermark as they were. -/
theorem State.TablesKept.setSource {n : Nat} {r : Source} (k : s.TablesKept t) (hs : r.state = (t.source n).state)
    (hw : r.watermark = (t.source n).watermark) : s.TablesKept (t.setSource n r) := by
  refine k.trans { State.TablesKept.refl t with sources := fun m => ?_, bounds := .inr rfl }
  rw [State.source_setSource]
  split
  · rename_i hm
    rw [hm.1]
    exact ⟨hs, hw⟩
  · exact ⟨rfl, rfl⟩

theorem State.TablesKept.countSource {n : Nat} {f : SourceCounters → SourceCounters} (k : s.TablesKept t) :
    s.TablesKept (t.countSource n f) :=
  k.setSource rfl rfl

/-- The transmitter written with the frame on the line, if any, as it was. -/
theorem State.TablesKept.transmit {tx : Transmitter} (k : s.TablesKept t)
    (h : ∀ f, tx.state = .sending f ↔ t.tx.state = .sending f) : s.TablesKept { t with tx := tx } :=
  k.trans { State.TablesKept.refl t with sending := h, bounds := .inr rfl }

theorem State.TablesKept.wantFrame (k : s.TablesKept t) : s.TablesKept t.wantFrame := by
  have frame : t.wantFrame = { t with tx := t.wantFrame.tx } := rfl
  rcases t.wantFrame_tx with h | ⟨idle, h⟩ <;> rw [frame, h]
  · exact k
  · refine k.transmit fun f => ?_
    rw [idle]
    exact ⟨TxState.noConfusion, TxState.noConfusion⟩

/-- The completion test leaves the station in service. -/
theorem State.beforeCommit_settleComplete (u b : State) : (u.settleComplete b).beforeCommit = u.beforeCommit := by
  have state : (u.retimed b).station.state = u.station.state := by rw [State.retimed_spec]
  have same : (u.settleComplete b).beforeCommit = ((u.retimed b).testCompletion b).beforeCommit :=
    State.beforeCommit_congr (by rw [State.settleComplete_eq, State.wantFrame_station, State.reformLink_station])
  rw [same]
  rcases ((u.retimed b).completionFrame_testCompletion b).kept with hk | ⟨hr, hc, -⟩
  · exact State.beforeCommit_congr (hk.trans state)
  · simp only [State.beforeCommit, hc, ← state, hr]
    rfl

theorem State.settleComplete_ownAnnounced (u b : State) :
    (u.settleComplete b).horizon.ownAnnounced = u.horizon.ownAnnounced := by
  rw [State.settleComplete_eq, State.wantFrame_horizon, State.reformLink_horizon, State.testCompletion_horizon,
    State.retimed_spec]

/-- The wish for a frame puts no frame on the line (R60). -/
theorem State.wantFrame_sending_iff (u : State) (f : Frame) :
    u.wantFrame.tx.state = .sending f ↔ u.tx.state = .sending f := by
  rcases u.wantFrame_tx with h | ⟨idle, h⟩ <;> rw [h]
  rw [idle]
  exact ⟨TxState.noConfusion, TxState.noConfusion⟩

theorem State.settle_sending_iff (u b : State) (f : Frame) :
    (u.settle b).tx.state = .sending f ↔ u.tx.state = .sending f := by
  rw [State.settle_eq, State.wantFrame_sending_iff, State.reformLink_tx, State.retimed_spec]

theorem State.settleComplete_sending_iff (u b : State) (f : Frame) :
    (u.settleComplete b).tx.state = .sending f ↔ u.tx.state = .sending f := by
  rw [State.settleComplete_eq, State.wantFrame_sending_iff, State.reformLink_tx, State.testCompletion_tx,
    State.retimed_spec]

/-- The bounds are re-formed after an act (R76). -/
theorem State.TablesKept.settle {b : State} (k : s.TablesKept t) : s.TablesKept (t.settle b) := by
  refine k.trans ⟨?_, State.beforeCommit_congr (by rw [State.settle_station]), fun n => ?_, .inr ?_, ?_,
    t.settle_sending_iff b, fun n => ?_, ?_, fun pr hpr => ⟨pr, ?_, rfl⟩, t.settle_ownAnnounced b,
    .inl (t.settle_agrees b).1⟩
  · rw [State.settle_station]
  · rw [State.source_congr (t.settle_sources b)]
    exact ⟨rfl, rfl⟩
  · rw [State.settle_feed]
  · rw [State.settle_outgoing]
  · rw [State.peer_congr (t.settle_peers b)]
    exact .refl _
  · rw [State.settle_rx]
  · rwa [State.settle_processing] at hpr

theorem State.TablesKept.settleComplete {b : State} (k : s.TablesKept t) : s.TablesKept (t.settleComplete b) := by
  refine k.trans ⟨?_, t.beforeCommit_settleComplete b, fun n => ?_, .inr ?_, ?_, t.settleComplete_sending_iff b,
    fun n => ?_, ?_, fun pr hpr => ⟨pr, ?_, rfl⟩, t.settleComplete_ownAnnounced b, .inl (t.settleComplete_agrees b).1⟩
  · rw [State.settleComplete_eq, State.wantFrame_station, State.reformLink_station, State.testCompletion_spec]
    split <;> rw [State.retimed_spec]
  · rw [State.source_congr (t.settleComplete_sources b)]
    exact ⟨rfl, rfl⟩
  · rw [State.settleComplete_feed]
  · rw [State.settleComplete_outgoing]
  · rw [State.peer_congr (t.settleComplete_peers b)]
    exact .refl _
  · rw [State.settleComplete_rx]
  · rwa [State.settleComplete_processing] at hpr

end

end Sys2Proof.Machine
end

section
/-! SUPPORT. The acts that leave the tables: delivery, islands, SNAPSHOT, the clock, the release engine, silence, and the
console commands but START, EXCLUDE, INCLUDE and RESTART. -/

namespace Sys2Proof.Machine

/-! ## Delivery (R98, R124, R141), islands (file 08), SNAPSHOT (R122) -/

theorem State.tablesKept_queueHoldState (s : State) : s.TablesKept s.queueHoldState := by
  unfold State.queueHoldState
  split
  · exact .same (.refl s) rfl
  · exact .refl s

theorem State.tablesKept_queueComplete (s : State) : s.TablesKept s.queueComplete := by
  unfold State.queueComplete
  split
  · exact .same (.refl s) rfl
  · exact .refl s

theorem State.tablesKept_emitSkew (s : State) : s.TablesKept s.emitSkew := by
  unfold State.emitSkew
  split
  · exact .refl s
  · split
    · exact .refl s
    · split
      · exact .same (.refl s) rfl
      · exact .refl s

theorem State.tablesKept_computeRelabel (s : State) : s.TablesKept s.computeRelabel := by
  unfold State.computeRelabel
  split
  · exact .refl s
  · split
    · exact .refl s
    · dsimp only
      split
      · exact .settleComplete (.endRelabel (.same (.refl s) rfl))
      · exact .same (.refl s) rfl

theorem State.tablesKept_emitIslands (s : State) : s.TablesKept s.emitIslands := by
  unfold State.emitIslands
  split
  · exact .refl s
  · split
    · exact .refl s
    · split
      · exact .settleComplete (.endRelabel (.enqueue (.refl s)))
      · exact .refl s

theorem State.tablesKept_beginEmission (s : State) : s.TablesKept s.beginEmission := by
  unfold State.beginEmission
  split
  · exact .same (.refl s) rfl
  · exact .refl s

theorem State.tablesKept_emitElement (s : State) : s.TablesKept s.emitElement := by
  unfold State.emitElement
  split
  · exact .refl s
  · exact .refl s
  · split
    · exact .refl s
    · split
      · exact .same (.refl s) rfl
      · exact .refl s

theorem State.tablesKept_emitLabels (s : State) : s.TablesKept s.emitLabels := by
  unfold State.emitLabels
  split
  · exact .refl s
  · exact .refl s
  · split
    · exact .same (.refl s) rfl
    · exact .refl s

/-! ## The clock (R95), stall (R107) and silence (R89) -/

theorem Peer.kept_tick (p : Peer) : p.Kept p.tick := by
  rw [Peer.tick_eq]
  exact Peer.kept_of_parts rfl rfl fun inactive => Peer.tick_stopped (.inl inactive)

/-- A tick counts the silence timers of ACTIVE peers and leaves the rest of the tables. -/
theorem State.tablesKept_tick (s : State) : s.TablesKept s.tick := by
  have counted : s.TablesKept s.countTime := {
    State.TablesKept.refl s with
    sending := s.tx.state.tick_sending_iff
    peers := fun n => by rw [State.peer_countTime]; exact Peer.kept_tick _
    bounds := .inr rfl }
  rw [State.tick_keeps]
  exact counted.same rfl

theorem State.tablesKept_stallAct (s : State) : s.TablesKept s.stallAct := by
  unfold State.stallAct
  split
  · split
    · exact .same (.refl s) rfl
    · exact .refl s
  · exact .refl s

/-- An ACTIVE peer that turns SILENT stays counted, and its timer stops. -/
theorem State.tablesKept_silencePeer (s : State) (n : Nat) : s.TablesKept (s.silencePeer n) := by
  unfold State.silencePeer
  split
  · split
    · rename_i h
      refine .reformLink { State.TablesKept.refl s with peers := fun m => ?_, bounds := .inr rfl }
      rw [State.peer_updatePeer]
      split
      · rename_i hm
        rw [hm.1]
        refine ⟨?_, fun unexpected => ?_, fun _ _ => rfl⟩
        · simp only [Peer.bound, Peer.counted, h.1]
        · cases h.1.symm.trans unexpected
      · exact .refl _
    · exact .refl s
  · exact .refl s

/-! ## Release (R112 to R121) and the apply step (R114) -/

section
variable {s t : State}

theorem State.TablesKept.handleTravel (k : s.TablesKept t) (n : Nat) (e : Element) (prev : Position) (time : Nat) :
    s.TablesKept (t.handleTravel n e prev time).1 := by
  unfold State.handleTravel
  split
  · exact k
  · split
    · split
      · exact .setTimer (.setElement k)
      · exact k
    · split
      · split
        · exact .cancelTimer (.setElement k)
        · exact .setElement k
      · split
        · exact .cancelTimer (.setElement k)
        · exact k

theorem State.TablesKept.handleChatter (k : s.TablesKept t) (n : Nat) (e : Element) (time : Nat) :
    s.TablesKept (t.handleChatter n e time).1 := by
  have counted (x : Element) : s.TablesKept
      (if x.windowCount = t.settings.chatterN then
        ((t.setElement n { x with chatter := .chattering }).setTimer quietSource n
          (time + t.settings.chatterQ * 1000), true, false)
      else (t.setElement n x, false, false)).1 := by
    split
    · exact .setTimer (.setElement k)
    · exact .setElement k
  unfold State.handleChatter
  split
  · exact .setTimer (.setElement k)
  · split
    · exact k
    · exact counted _

theorem State.TablesKept.applyOwn (k : s.TablesKept t) (x : PendingEntry) (e : Element) :
    s.TablesKept (t.applyOwn x e).state := by
  have counted : s.TablesKept ((t.setElement x.element { e with
      current := x.position, lastRelease := some ⟨x.key.time, x.key.source, x.position⟩ }).countSource x.key.source
      fun c => { c with released := satSucc max32 c.released, pending := c.pending - 1 }) :=
    .countSource (.setElement k)
  unfold State.applyOwn
  dsimp only
  split
  · exact counted
  · exact .handleChatter (.handleTravel counted _ _ _ _) _ _ _

theorem State.TablesKept.finishRecords {r : ReleaseInFlight} (k : s.TablesKept t) : s.TablesKept (t.finishRecords r) :=
  k.same rfl

theorem State.TablesKept.afterRecord {r : ReleaseInFlight} (k : s.TablesKept t) : s.TablesKept (t.afterRecord r) := by
  unfold State.afterRecord
  split
  · exact k.finishRecords
  · exact k.same rfl

theorem State.TablesKept.enterFlight {i : Item} {record : Option RecordBody} {relabels : Bool} (k : s.TablesKept t) :
    s.TablesKept (t.enterFlight i record relabels) := by
  have started : s.TablesKept (if relabels = true then t.startRelabel (.item i.key) else t) := by
    split
    · exact .startRelabel k
    · exact k
  unfold State.enterFlight
  dsimp only
  split
  · exact started.same rfl
  · exact started.afterRecord

theorem State.TablesKept.releaseItem (k : s.TablesKept t) (i : Item) : s.TablesKept (t.releaseItem i) := by
  cases i with
  | own x =>
    simp only [State.releaseItem, State.releaseOwn]
    split
    · exact k
    · exact (k.applyOwn x _).enterFlight
  | remote r =>
    simp only [State.releaseItem, State.releaseRemote]
    split
    · exact k
    · exact .enterFlight (.setElement k)
  | timer x =>
    simp only [State.releaseItem, State.releaseTravel, State.releaseQuiet]
    split
    · split
      · exact k
      · exact .enterFlight (.setElement k)
    · split
      · exact k
      · exact .enterFlight (.setElement k)

end

theorem State.tablesKept_releaseAct (s : State) : s.TablesKept s.releaseAct := by
  unfold State.releaseAct
  split
  · exact .refl s
  · rename_i i _
    split
    · have removed : s.TablesKept (s.removed i) := by cases i <;> exact .same (.refl s) rfl
      have stepped : s.TablesKept ((s.removed i).completeStep i.key.time) := by
        rw [State.completeStep_eq, State.steppedTo_frame]
        exact removed.same rfl
      exact .settleComplete (stepped.releaseItem i)
    · exact .refl s

theorem State.tablesKept_queueReleaseRecord (s : State) : s.TablesKept s.queueReleaseRecord := by
  unfold State.queueReleaseRecord
  split
  · exact .refl s
  · split
    · split
      · exact .settleComplete (.afterRecord (.enqueue (.refl s)))
      · rename_i w _ _
        have hit (b : RecordBody) : s.TablesKept ((s.enqueue b).watchHit w) := .same (.refl s) rfl
        exact .settleComplete (hit _).finishRecords
      · exact .refl s
    · exact .refl s

/-- The hand-over taken leaves the frame in processing (R114). -/
theorem State.tablesKept_takeHandOver (s : State) : s.TablesKept s.takeHandOver :=
  { State.TablesKept.refl s with
    processing := fun pr hpr => by
      obtain ⟨pr', hpr', rfl⟩ := Option.map_eq_some_iff.1 hpr
      exact ⟨pr', hpr', rfl⟩
    bounds := .inr rfl }

theorem State.tablesKept_lateApply (s : State) : s.TablesKept s.lateApply := by
  unfold State.lateApply
  split
  · exact .refl s
  · rename_i r _
    split
    · have taken := s.tablesKept_takeHandOver
      split
      · exact taken
      · rename_i e _
        have queued : s.TablesKept
            ((s.takeHandOver.writeRemote r e).enqueue (.remote (remoteRecord r e.current true))) :=
          .enqueue (.setElement taken)
        dsimp only
        split
        · exact .settleComplete (.startRelabel (queued.same rfl))
        · exact .settleComplete queued
    · exact .refl s

/-! ## Link: what leaves the outgoing change set and the buffers (file 04) -/

theorem State.tablesKept_heartbeatAct (s : State) : s.TablesKept s.heartbeatAct := by
  unfold State.heartbeatAct
  split
  · rename_i h
    refine .transmit (.refl s) fun f => ?_
    rw [h.1]
    exact ⟨TxState.noConfusion, TxState.noConfusion⟩
  · exact .refl s

theorem State.tablesKept_countBackoff (s : State) (quietBits : Nat) : s.TablesKept (s.countBackoff quietBits) := by
  unfold State.countBackoff
  split
  · rename_i n hn
    refine .transmit (.refl s) fun f => ?_
    rw [hn]
    dsimp only
    split <;> exact ⟨TxState.noConfusion, TxState.noConfusion⟩
  all_goals exact .refl s

theorem State.tablesKept_expireMute (s : State) : s.TablesKept s.expireMute := by
  unfold State.expireMute
  split
  · rename_i n hn
    split
    · refine .reformLink (.transmit (.refl s) fun f => ?_)
      rw [hn]
      exact ⟨TxState.noConfusion, TxState.noConfusion⟩
    · exact .refl s
  all_goals exact .refl s

theorem State.tablesKept_rejectSync (s : State) (p : Preamble) (delimiter : Byte) :
    s.TablesKept (s.rejectSync p delimiter) := by
  unfold State.rejectSync
  split
  · exact .report (.same (.refl s) rfl)
  · exact .refl s

theorem State.tablesKept_openFrame (s : State) (p : Preamble) (delimiter : Byte) :
    s.TablesKept (s.openFrame p delimiter) := by
  unfold State.openFrame
  split
  · exact .same (.refl s) rfl
  · exact .refl s

/-! ## Ports and commands -/

theorem State.tablesKept_feedWriteStart (s : State) : s.TablesKept s.feedWriteStart := by
  unfold State.feedWriteStart
  split
  · exact .same (.refl s) rfl
  · exact .report (.refl s)

theorem State.tablesKept_commandWriteStart (s : State) : s.TablesKept s.commandWriteStart := by
  unfold State.commandWriteStart
  split
  · exact .report (.refl s)
  · exact .same (.refl s) rfl

theorem State.tablesKept_watchAct (s : State) (n : Nat) (w : WatchMark) : s.TablesKept (s.watchAct n w) := by
  unfold State.watchAct
  split
  · exact .setElement (.refl s)
  · exact .refl s

/-- START begins the replay of a station in READY (R99). -/
theorem State.tablesKept_startAct {s : State} (h : s.station.state = .ready) : s.TablesKept s.startAct := by
  unfold State.startAct
  refine .settle { State.TablesKept.refl s with commit := ?_, bounds := .inr rfl }
  simp only [State.beforeCommit, h]
  rfl

end Sys2Proof.Machine
end

section
/-! SUPPORT. What a step can do to the tables that the bounds, the peer entries and the announced horizon rest on: the
relation `State.ActMoves`, which says it of every act but the build of a frame and the end of one sent whole. -/

namespace Sys2Proof.Machine

/-! ## The moves -/

/-- A frame is buffered or in processing. -/
def State.Holds (s : State) (f : Frame) : Prop := f ∈ s.rx.buffers ∨ ∃ pr, s.processing = some pr ∧ pr.frame = f

/-- From `s` to `t` an epoch begins or power comes on: no horizon has been announced, no silence timer runs, the own peer
entry is NOT_EXPECTED, and no frame enters a buffer (R79, R146, R150, R153). -/
structure State.EpochBegins (s t : State) : Prop extends s.Emptied t where
  ownAnnounced : t.horizon.ownAnnounced = none
  silence : ∀ n, (t.peer n).TimerSound
  own : (t.peer t.station.number).state = .notExpected
  received : t.rx.buffers = [] ∨ t.station.number = s.station.number ∧ t.rx.buffers = s.rx.buffers
  processing : t.processing = none

/-- How an act moves the tables, write by write. -/
inductive State.TableMoves : State → State → Prop where
  | kept {s t : State} (k : s.TablesKept t) : TableMoves s t
  | trans {s t u : State} (m : TableMoves s t) (m' : TableMoves t u) : TableMoves s u
  | epoch {s t : State} (e : s.EpochBegins t) : TableMoves s t
  /-- A record of a source is taken, which opens none and lowers no watermark (R10, R17, R18). -/
  | source {s : State} {n : Nat} {r : Source} (hi : s.feed.intake = none) (hr : (s.source n).BoundRises r) :
    TableMoves s (s.setSource n r)
  | admitted {s : State} {n : Nat} {r : Source} {e : Intake} (hs : s.inService = true) (h : s.Admits n r e) :
    TableMoves s { s.setSource n r with feed := { s.feed with intake := some e } }
  /-- The record in intake is inserted or merged; what is announced of it has its time (R40, R52, R55). -/
  | answered {s : State} {e : Intake} {copies : List OutgoingCopy} (he : s.feed.intake = some e)
    (hc : ∀ c ∈ copies, c.key.time = e.key.time ∨ c ∈ s.outgoing) :
    TableMoves s { s with outgoing := copies, feed := { s.feed with intake := none } }
  /-- The frame on the line is abandoned (R41). -/
  | abandoned {s : State} {tx : Transmitter} (ht : ∀ f, tx.state ≠ .sending f) :
    TableMoves s { s with outgoing := abandonCopies s.outgoing, tx := tx }
  /-- The entry of a frame's sender is written (R81 to R88, R92). -/
  | framed {s : State} {f : Frame} {p : Peer} (hf : s.Holds f) (hp : (s.peer f.sender).TimerSound → p.TimerSound) :
    TableMoves s (s.setPeer f.sender p)
  /-- The entry of an expected peer is written (R92, R93). -/
  | peered {s : State} {n : Nat} {p : Peer} (hn : (s.peer n).state ≠ .notExpected) (hp : p.TimerSound) :
    TableMoves s (s.setPeer n p)
  /-- A good frame of another station is buffered (R72, R73). -/
  | buffered {s : State} {f : Frame} {x : Receiver} (hf : f.sender ≠ s.station.number)
    (hx : x.buffers = s.rx.buffers ++ [f]) : TableMoves s { s with rx := x }
  /-- A frame processing ends (R81). -/
  | freed {s : State} : TableMoves s s.endProcessing
  /-- A frame processing stands (R81, R85). -/
  | stands {s : State} {pr : Processing} (hf : s.Holds pr.frame) : TableMoves s { s with processing := some pr }

theorem State.TableMoves.refl (s : State) : s.TableMoves s := .kept (.refl s)

/-- A whole act: it moves the tables, and the bounds agree after it where they did before it. -/
structure State.ActMoves (s t : State) : Prop where
  moves : s.TableMoves t
  bounds : s.BoundsAgree → t.BoundsAgree

section
variable {s t u : State}

theorem State.ActMoves.kept (k : s.TablesKept t) : s.ActMoves t := ⟨.kept k, fun h => h.kept k⟩

theorem State.ActMoves.refl (s : State) : s.ActMoves s := .kept (.refl s)

theorem State.ActMoves.trans (m : s.ActMoves t) (m' : t.ActMoves u) : s.ActMoves u :=
  ⟨.trans m.moves m'.moves, m'.bounds ∘ m.bounds⟩

/-- What leaves the tables follows a whole act. -/
theorem State.ActMoves.then (m : s.ActMoves t) (k : t.TablesKept u) : s.ActMoves u := m.trans (.kept k)

theorem State.TableMoves.then (m : s.TableMoves t) (k : t.TablesKept u) : s.TableMoves u := .trans m (.kept k)

/-- An act whose bounds are re-formed at its end (R76). -/
theorem State.TableMoves.settle (m : s.TableMoves t) (b : State) : s.ActMoves (t.settle b) :=
  ⟨m.then (.settle (.refl t)), fun _ => (t.settle_agrees b).1⟩

theorem State.TableMoves.settleComplete (m : s.TableMoves t) (b : State) : s.ActMoves (t.settleComplete b) :=
  ⟨m.then (.settleComplete (.refl t)), fun _ => (t.settleComplete_agrees b).1⟩

end

/-! ## The start of an epoch (R146, R150, R153) -/

theorem Peer.timerSound_epochStart (own : Nat) (mask : BitVec 16) (n : Nat) (p : Peer) :
    (p.epochStart own mask n).TimerSound := fun _ => rfl

/-- The peer entries at the start of an epoch: no timer runs, and the own entry is NOT_EXPECTED (R79). -/
theorem State.peers_of_epochStart {s t : State} {cause : RelabelCause} (h : t.peers = (s.epochStart cause).peers)
    (hn : t.station.number = s.station.number) :
    (∀ n, (t.peer n).TimerSound) ∧ (t.peer t.station.number).state = .notExpected := by
  have peer (n : Nat) : t.peer n = (s.epochStart cause).peer n := State.peer_congr h n
  refine ⟨fun n => ?_, ?_⟩
  · rw [peer]
    rcases Nat.lt_or_ge n 16 with hn | hn
    · rw [s.peer_epochStart cause hn]
      exact Peer.timerSound_epochStart _ _ _ _
    · rw [State.peer_of_ge _ hn]
      exact fun _ => rfl
  · rw [peer, hn]
    rcases Nat.lt_or_ge s.station.number 16 with hn | hn
    · rw [s.peer_epochStart cause hn]
      exact if_neg fun expected => expected.1 rfl
    · rw [State.peer_of_ge _ hn]
      rfl

theorem State.actMoves_restartAct (s : State) (cause : RestartCause) (epoch : Nat) :
    s.ActMoves (s.restartAct cause epoch) := by
  have emptied : s.Emptied (s.restartWrites cause epoch) :=
    State.emptied_of_epoch rfl rfl rfl (FeedPort.restarted_intake _) rfl rfl le_rfl (.inr rfl)
      fun _ => Transmitter.not_sending_restarted _
  obtain ⟨timers, own⟩ := State.peers_of_epochStart (s := s) (t := s.restartWrites cause epoch) (cause := .restart)
    rfl rfl
  rw [State.restartAct_eq]
  exact State.TableMoves.settle (.epoch ⟨emptied, rfl, timers, own, .inl rfl, rfl⟩) s

/-- COMMIT is taken before the first commit of all, where no frame is on the line (R68, R149). -/
theorem State.actMoves_commitAct {s : State} (h : s.beforeCommit = true) : s.ActMoves s.commitAct := by
  unfold State.commitAct
  refine State.TableMoves.settle (.epoch ?_) s
  obtain ⟨timers, own⟩ := State.peers_of_epochStart (s := s) (t := s.epochStart .commit) (cause := .commit) rfl rfl
  exact ⟨State.emptied_of_epoch rfl rfl rfl rfl rfl rfl (Nat.zero_le 1) (.inl rfl) fun free => free h, rfl, timers, own,
    .inr ⟨rfl, rfl⟩, rfl⟩

theorem State.peer_powerOn (straps n : Nat) : (State.powerOn straps).peer n = Peer.powerOn := by
  simp only [State.peer, State.powerOn, Vector.getElem?_replicate]
  split <;> rfl

theorem State.actMoves_powerOnAct (s : State) (straps : BitVec 4) : s.ActMoves (s.powerOnAct straps) := by
  have peer (n : Nat) : (s.powerOnAct straps).peer n = Peer.powerOn := State.peer_powerOn straps.toNat n
  exact ⟨.epoch ⟨s.emptied_powerOnAct straps, rfl, fun n => by rw [peer]; exact fun _ => rfl, by rw [peer]; rfl,
    .inl rfl, rfl⟩, fun _ => ⟨rfl, rfl, rfl⟩⟩

/-! ## Feed records (file 01) -/

section
variable {s : State}

/-- A description record, before commit, leaves the bounds at what they are there (R76). -/
theorem State.actMoves_takeDeclare (hi : s.feed.intake = none) (hc : s.beforeCommit = true) (b : DeclareBody) :
    s.ActMoves (s.takeDeclare b) := by
  unfold State.takeDeclare
  dsimp only
  split
  · exact .kept (.placeAnswer (.refl s))
  · have closed (x : Source) (hx : x.isOpen = false) : (s.source b.source.toNat).BoundRises x := fun opened => by
      cases hx.symm.trans opened
    refine State.ActMoves.then ⟨.source hi (closed _ rfl), fun h => ?_⟩ (.placeAnswer (.toLoading (.refl _)))
    exact State.boundsAgree_beforeCommit h hc hc rfl

theorem State.tablesKept_takeElement (b : ElementBody) : s.TablesKept (s.takeElement b) := by
  unfold State.takeElement
  split
  · exact .placeAnswer (.refl s)
  · exact .placeAnswer (.toLoading (.setElement (.refl s)))

theorem State.tablesKept_takePoint (b : PointBody) : s.TablesKept (s.takePoint b) := by
  unfold State.takePoint
  split
  · exact .placeAnswer (.refl s)
  · refine .placeAnswer (.toLoading ?_)
    exact .same (.refl s) rfl

theorem State.tablesKept_takeSegment (b : SegmentBody) : s.TablesKept (s.takeSegment b) := by
  unfold State.takeSegment
  dsimp only
  split
  · exact .placeAnswer (.refl s)
  · split
    · exact .placeAnswer (.refl s)
    · exact .placeAnswer (.setSource (.refl s) rfl rfl)

theorem State.actMoves_takeProgress (hi : s.feed.intake = none) (b : ProgressBody) :
    s.ActMoves (s.takeProgress b) := by
  unfold State.takeProgress
  dsimp only
  split
  · exact .kept (.placeAnswer (.refl s))
  · rename_i hc
    refine State.TableMoves.settle (State.TableMoves.then (.source hi ?_) (.placeAnswer (.refl _))) s
    refine Source.boundRises_of_max (State.isOpen_of_sourceCheck hc)
      (t := corrected ((s.source b.source.toNat).promote b.bound.toNat).segment b.bound.toNat) ?_
    dsimp only
    rw [Source.promote_watermark]

theorem State.actMoves_takeEndSource (hi : s.feed.intake = none) (n : Byte) : s.ActMoves (s.takeEndSource n) := by
  unfold State.takeEndSource
  dsimp only
  split
  · exact .kept (.placeAnswer (.refl s))
  · exact State.TableMoves.settleComplete (State.TableMoves.then (.source hi fun opened => by cases opened) (.placeAnswer (.refl _))) s

theorem State.actMoves_admitEvent (hs : s.inService = true) {b : EventBody}
    (ho : (s.source b.source.toNat).isOpen = true) {ordinal : Nat}
    (hn : (s.source b.source.toNat).nextOrdinal = some ordinal) {p : PointEntry}
    (ha : s.admission b.source.toNat p.element = none) (position : Position) (c : SequenceClass) :
    s.ActMoves (s.admitEvent b p position c ordinal) := by
  obtain ⟨room, roomForCopy⟩ := State.room_of_admission ha
  let r := (s.source b.source.toNat).promote b.raw.toNat
  have admits : s.Admits b.source.toNat (r.commitEvent b ordinal)
      (Sys2Proof.Machine.intakeOf s r b p position c ordinal) := {
    number := Source.lt_of_isOpen ho
    source := rfl
    ordinal := hn
    next := rfl
    opened := ho
    rises := by
      refine Source.boundRises_of_max ho (t := corrected r.segment b.raw.toNat) ?_
      simp only [Source.commitEvent, heldTime, r, Source.promote_watermark, Nat.max_comm]
    live := rfl
    watermark := rfl
    room := room
    roomForCopy := roomForCopy }
  rw [State.admitEvent_eq, State.eventReports_frame]
  refine State.TableMoves.settle ?_ s
  exact .trans (.admitted hs admits) (.kept (.same (.refl _) rfl))

theorem State.actMoves_takeEvent (hs : s.inService = true) (b : EventBody) : s.ActMoves (s.takeEvent b) := by
  unfold State.takeEvent
  dsimp only
  split
  · exact .kept (.placeAnswer (.refl s))
  · rename_i hc
    have ho := State.isOpen_of_sourceCheck hc
    split
    · exact .kept (.placeAnswer (.refl s))
    · rename_i ordinal hn
      split
      · exact .kept (.placeAnswer (.report (.countSource (.refl s))))
      · rename_i p _
        have admitted (c : SequenceClass) : s.ActMoves (match s.admission b.source.toNat p.element with
            | some a =>
              (s.countSource b.source.toNat fun k => { k with deferred := satSucc max32 k.deferred }).placeAnswer a
            | none => s.admitEvent b p ((Position.ofReport b.position).getD .bad) c ordinal) := by
          split
          · exact .kept (.placeAnswer (.countSource (.refl s)))
          · rename_i ha
            exact State.actMoves_admitEvent hs ho hn ha _ c
        split
        · exact .kept (.placeAnswer (.report (.countSource (.refl s))))
        · exact admitted .inOrder
        · exact admitted (.gap _)

/-! ## MERGE_ACT (R55) -/

/-- A merge act answers its record, whatever it does to the queue and the sources' counters. -/
theorem State.tableMoves_insertEvent {e : Intake} (he : s.feed.intake = some e) : s.TableMoves (s.insertEvent e) := by
  have copies : (s.insertEvent e).outgoing = e.copied s.outgoing := by
    unfold Intake.copied State.insertEvent
    cases e.tie <;> rfl
  have answered : s.TableMoves { s with outgoing := e.copied s.outgoing, feed := { s.feed with intake := none } } :=
    .answered he fun c hc => (mem_copied hc).imp_left (congrArg Key.time)
  have counted : s.TableMoves (State.countSource _ e.key.source fun k => { k with pending := k.pending + 1 }) :=
    answered.then (.countSource (.refl _))
  refine counted.then (State.tablesKept_of_parts ?_)
  simp only [State.tableParts, Prod.mk.injEq, copies]
  exact ⟨rfl, rfl, rfl, rfl, rfl, rfl, rfl, rfl, rfl, rfl⟩

theorem State.tableMoves_replaceMatch {e : Intake} (he : s.feed.intake = some e) (x : PendingEntry) (a : Answer) :
    s.TableMoves ((s.replaceMatch e x).placeAnswer a) := by
  have answered : s.TableMoves
      { s with outgoing := movedCopies e x.key s.outgoing, feed := { s.feed with intake := none } } :=
    .answered he fun c hc => (mem_movedCopies hc).imp_left (congrArg Key.time)
  have counted : s.TableMoves (State.countSource (State.countSource _ x.key.source
      fun k => { k with pending := k.pending - 1, merged := satSucc max32 k.merged }) e.key.source
      fun k => { k with pending := k.pending + 1 }) := answered.then (.countSource (.countSource (.refl _)))
  exact counted.then (.same (.refl _) rfl)

theorem State.TablesKept.countMerge {t : State} (k : s.TablesKept t) (e : Intake) (quality time : Nat) :
    s.TablesKept (t.countMerge e quality time) := by
  simp only [State.countMerge]
  split
  · exact .setSource (.countSource k) rfl rfl
  · exact .countSource k

theorem State.actMoves_mergeAct (s : State) : s.ActMoves s.mergeAct := by
  unfold State.mergeAct
  split
  · rename_i e he
    split
    · exact State.TableMoves.settle (State.tableMoves_insertEvent he) s
    · refine State.TableMoves.settle ?_ s
      unfold State.mergeEvent
      split
      · rename_i x _
        dsimp only
        split
        · exact State.tableMoves_replaceMatch he x _
        · have confirmed : s.TablesKept (s.confirmMatch x) := .same (.refl s) rfl
          exact .kept (.placeAnswer (confirmed.countMerge e _ _))
      · exact .kept (.placeAnswer (State.TablesKept.countMerge (.refl s) e _ _))
  · exact .refl s

end

/-! ## Commands (R135) -/

theorem State.actMoves_excludeAct {s : State} {n : Nat} (h : (s.peer n).counted = true) :
    s.ActMoves (s.excludeAct n) := by
  refine State.TableMoves.settleComplete (.peered (fun unexpected => ?_) fun _ => rfl) s
  rw [Peer.counted, unexpected] at h
  cases h

theorem State.actMoves_includeAct {s : State} {n : Nat} (h : (s.peer n).state = .excluded) :
    s.ActMoves (s.includeAct n) := by
  refine State.TableMoves.settle (.peered (fun unexpected => ?_) ?_) s
  · cases h.symm.trans unexpected
  · intro inactive
    dsimp only at inactive ⊢
    split_ifs at inactive ⊢ with hend
    · rfl
    · exact absurd rfl inactive

/-- A command accepted passes its own test. -/
theorem State.ownTest_of_commandTest {s : State} {c : Command} (h : s.commandTest c = none) : s.ownTest c = none := by
  rw [State.commandTest_spec] at h
  split_ifs at h
  exact h

theorem State.actMoves_commandEffect {s : State} {c : Command} (h : s.commandTest c = none) :
    s.ActMoves (s.commandEffect c) := by
  have own := State.ownTest_of_commandTest h
  cases c with
  | start _ => exact .kept (State.tablesKept_startAct (beq_iff_eq.1 (State.accepted_of_commandTest h)))
  | hold _ =>
    refine .kept (.wantFrame ?_)
    exact .same (.refl s) rfl
  | resume _ =>
    refine .kept (.wantFrame ?_)
    exact .same (.refl s) rfl
  | watchSet _ _ _ => exact .kept (s.tablesKept_watchAct _ _)
  | watchClear _ _ => exact .kept (s.tablesKept_watchAct _ _)
  | excludePeer _ p =>
    refine State.actMoves_excludeAct ?_
    by_contra uncounted
    simp only [State.ownTest, if_neg uncounted] at own
    cases own
  | includePeer _ p =>
    refine State.actMoves_includeAct (by_contra fun other => ?_)
    simp only [State.ownTest, ne_eq, other, not_false_eq_true, if_true] at own
    cases own
  | restart _ _ => exact s.actMoves_restartAct _ _
  | step _ => exact .kept (.same (.refl s) rfl)
  | setRate _ _ => exact .kept (.same (.refl s) rfl)
  | holdAt _ _ => exact .kept (.same (.refl s) rfl)
  | skipOn _ => exact .kept (.same (.refl s) rfl)
  | skipOff _ => exact .kept (.same (.refl s) rfl)
  | snapshot _ => exact .kept (.same (.refl s) rfl)
  | skew _ => exact .kept (.same (.refl s) rfl)
  | clearFlags _ _ => exact .kept (.same (.refl s) rfl)
  | mask _ _ => exact .kept (.same (.refl s) rfl)
  | status _ => exact .refl s
  | malformed _ => exact .refl s

theorem State.actMoves_decideCommand (s : State) (c : Command) : s.ActMoves (s.decideCommand c) := by
  have idle : s.ActMoves { s with console := { s.console with inFlight := none } } := .kept (.same (.refl s) rfl)
  unfold State.decideCommand
  dsimp only
  split
  · exact idle.then (.enqueue (.refl _))
  · rename_i hc
    exact (idle.trans (State.actMoves_commandEffect hc)).then (.enqueue (.refl _))

/-- A command waiting is decided after an act. -/
theorem State.ActMoves.decideWaiting {s t : State} (m : s.ActMoves t) : s.ActMoves t.decideWaiting := by
  refine m.trans ?_
  unfold State.decideWaiting
  split
  · split
    · exact t.actMoves_decideCommand _
    · exact .refl t
  · exact .refl t

theorem State.actMoves_submit (s : State) (c : Command) : s.ActMoves (s.submit c) := by
  unfold State.submit
  split
  · refine State.ActMoves.decideWaiting (.kept ?_)
    exact .same (.refl s) rfl
  · exact .refl s

theorem State.actMoves_beginRecord (s : State) : s.ActMoves s.beginRecord := by
  unfold State.beginRecord
  split
  · exact .refl s
  · split
    · refine State.ActMoves.decideWaiting (.kept ?_)
      exact .same (.refl s) rfl
    · exact .refl s

theorem State.actMoves_takeCommit {s : State} (h : s.beforeCommit = true) : s.ActMoves s.takeCommit := by
  unfold State.takeCommit
  split
  · exact .kept (.placeAnswer (.refl s))
  · exact (State.actMoves_commitAct h).decideWaiting

/-- A record's write ends with none in intake: it is refused or ignored, or handed to its own work (R3, R5). -/
theorem State.actMoves_receiveRecord (s : State) (kind : Byte) {verdict : Option AnswerReason} {work : State → State}
    (hw : s.feed.intake = none → verdict = none → s.ActMoves (work s)) :
    s.ActMoves (s.receiveRecord kind verdict work) := by
  unfold State.receiveRecord
  split
  · rename_i arrives
    split
    · exact .kept (.placeAnswer (.refl s))
    · simp only [State.recordArrives, Bool.and_eq_true, Option.isNone_iff_eq_none] at arrives
      exact hw arrives.2 rfl
  · exact .refl s

/-! ## Link (file 04) -/

theorem State.actMoves_abandon (s : State) {tx : Transmitter} (ht : ∀ f, tx.state ≠ .sending f) :
    s.ActMoves { s with outgoing := abandonCopies s.outgoing, tx := tx } :=
  ⟨.abandoned ht, fun h => ⟨h.lw, h.safeTime, h.limiting⟩⟩

theorem State.actMoves_failFrame (s : State) {retry : TxState} (hr : ∀ f, retry ≠ .sending f) :
    s.ActMoves (s.failFrame retry) := by
  unfold State.failFrame
  dsimp only
  split
  · exact (s.actMoves_abandon (tx := { s.tx with failures := s.tx.failures + 1, state := .muted (some muteTime) })
      nofun).then (.reformLink (.report (.refl _)))
  · exact s.actMoves_abandon (tx := { s.tx with failures := s.tx.failures + 1, state := retry }) hr

theorem State.actMoves_collide (s : State) (bit : Nat) : s.ActMoves (s.collide bit) := by
  unfold State.collide
  split
  · split
    · exact s.actMoves_failFrame nofun
    · exact .refl s
  all_goals exact .refl s

theorem State.actMoves_transmitError (s : State) (bit : Nat) : s.ActMoves (s.transmitError bit) := by
  unfold State.transmitError
  split
  · split
    · exact s.actMoves_failFrame nofun
    · exact .refl s
  all_goals exact .refl s

theorem State.actMoves_placeFrame (s : State) {f : Frame} (hf : f.sender ≠ s.station.number) :
    s.ActMoves (s.placeFrame f) := by
  unfold State.placeFrame
  split
  · exact .kept (.same (.refl s) rfl)
  · split
    · exact ⟨.buffered hf rfl, fun h => ⟨h.lw, h.safeTime, h.limiting⟩⟩
    · refine .kept (.report ?_)
      exact .same (.refl s) rfl

theorem State.actMoves_receiveFrame (s : State) (bits : Bits) (own : Bool) : s.ActMoves (s.receiveFrame bits own) := by
  have discarded (phase : RxPhase) : s.ActMoves (s.discardFrame phase) := by
    refine .kept (.report ?_)
    exact .same (.refl s) rfl
  unfold State.receiveFrame
  split
  · split
    · exact discarded _
    · exact discarded _
    · have searching : s.ActMoves { s with rx := { s.rx with phase := .searching } } := .kept (.same (.refl s) rfl)
      dsimp only
      split
      · exact searching
      · split
        · exact searching.trans ((State.actMoves_abandon _ (tx := { s.tx with state := .muted none }) nofun).then
            (.reformLink (.report (.refl _))))
        · rename_i hf
          exact searching.trans (State.actMoves_placeFrame _ hf)
  all_goals exact .refl s

end Sys2Proof.Machine
end

section
/-! SUPPORT. What a frame processing writes (file 05), and how it moves the tables. -/

namespace Sys2Proof.Machine

/-! ## What a frame processing writes -/

/-- From `s` to `t` the Remote Change List, the peer entries and the error capture with its flag were written, as one change
entry or one report does. -/
def State.EntryWrites (s t : State) : Prop :=
  t = { s with
    remotes := t.remotes, peers := t.peers
    attention := { s.attention with
      capture := t.attention.capture, flags := { s.attention.flags with error := t.attention.flags.error } } }

theorem State.EntryWrites.refl (s : State) : s.EntryWrites s := rfl

theorem State.EntryWrites.trans {s t u : State} (h : s.EntryWrites t) (h' : t.EntryWrites u) : s.EntryWrites u := by
  unfold State.EntryWrites at *
  rw [h', h]

section
variable {s t : State}

theorem State.EntryWrites.report {e : ErrorKind} {x : Option Nat} (h : s.EntryWrites t) :
    s.EntryWrites (t.report e x) := by
  refine h.trans ?_
  unfold State.EntryWrites State.report
  dsimp only
  split <;> rfl

theorem State.EntryWrites.updatePeer {n : Nat} {f : Peer → Peer} (h : s.EntryWrites t) :
    s.EntryWrites (t.updatePeer n f) := h.trans rfl

theorem State.EntryWrites.chargePeer {n : Nat} {e : ErrorKind} {x : Nat} (h : s.EntryWrites t) :
    s.EntryWrites (t.chargePeer n e x) := h.report.updatePeer

theorem State.EntryWrites.takeHorizon (h : s.EntryWrites t) (f : Frame) : s.EntryWrites (t.takeHorizon f) := by
  unfold State.takeHorizon
  split
  · exact h.updatePeer
  · exact h.chargePeer

theorem State.EntryWrites.refuseChanges (h : s.EntryWrites t) (p : Nat) (cs : List ChangeEntry) :
    s.EntryWrites (State.refuseChanges p cs t) := by
  induction cs generalizing t with
  | nil => exact h
  | cons c cs ih => exact ih h.chargePeer

end

theorem State.entryWrites_takeRouted (s : State) (f : Frame) (c : ChangeEntry) (n : Nat) :
    s.EntryWrites (s.takeRouted f c n).state := by
  have count (t : State) (h : s.EntryWrites t) : s.EntryWrites (t.countChange f.sender) := h.updatePeer
  unfold State.takeRouted
  dsimp only
  split
  · exact .refl s
  · split
    · exact count _ (State.EntryWrites.chargePeer (.refl s))
    · split
      · exact .refl s
      · split
        · exact .chargePeer (.updatePeer (.refl s))
        · exact count _ rfl

/-- One change entry writes the Remote Change List, its sender's entry and the error capture (R84 to R87, R92). -/
theorem State.entryWrites_takeChange (s : State) (f : Frame) (tracked : Bool) (c : ChangeEntry) :
    s.EntryWrites (s.takeChange f tracked c).state := by
  unfold State.takeChange
  split
  · exact .refl s
  · split
    · exact .refl s
    · exact .chargePeer (.refl s)
    · split
      · exact .chargePeer (.refl s)
      · split
        · simp only [ChangeStep.state, State.discardRouted]
          split
          · exact .refl s
          · exact .updatePeer (.refl s)
        · exact s.entryWrites_takeRouted f c _

/-- As `EntryWrites`, with the buffers and the processing in flight written too. -/
def State.FrameWrites (s t : State) : Prop :=
  t = { s with
    remotes := t.remotes, peers := t.peers, processing := t.processing
    rx := { s.rx with buffers := t.rx.buffers }
    attention := { s.attention with
      capture := t.attention.capture, flags := { s.attention.flags with error := t.attention.flags.error } } }

theorem State.FrameWrites.trans {s t u : State} (h : s.FrameWrites t) (h' : t.FrameWrites u) : s.FrameWrites u := by
  unfold State.FrameWrites at *
  rw [h', h]

theorem State.EntryWrites.frame {s t : State} (h : s.EntryWrites t) : s.FrameWrites t := by
  unfold State.EntryWrites State.FrameWrites at *
  rw [h]

theorem State.FrameWrites.endProcessing {s t : State} (h : s.FrameWrites t) : s.FrameWrites t.endProcessing :=
  h.trans rfl

theorem State.FrameWrites.stands {s t : State} (h : s.FrameWrites t) (pr : Processing) :
    s.FrameWrites { t with processing := some pr } := h.trans rfl

theorem State.frameWrites_finishFrame (s : State) (f : Frame) (tracked : Bool) :
    s.FrameWrites (s.finishFrame f tracked) := by
  have taken : s.EntryWrites (s.takeHorizon f) := (State.EntryWrites.refl s).takeHorizon f
  exact (State.EntryWrites.updatePeer taken).frame.endProcessing

/-- The change entries of a frame and its end write nothing else (R81 to R88). -/
theorem State.frameWrites_takeChanges (f : Frame) (tracked : Bool) (n : Nat) (cs : List ChangeEntry) (s : State) :
    s.FrameWrites (State.takeChanges f tracked n cs s) := by
  induction n, cs, s using State.takeChanges.induct (f := f) (tracked := tracked) with
  | case1 n s =>
    simp only [State.takeChanges]
    exact s.frameWrites_finishFrame f tracked
  | case2 c cs s => exact (State.EntryWrites.refl s).frame.stands _
  | case3 n c cs s t ht ih =>
    have entry := s.entryWrites_takeChange f tracked c
    rw [ht] at entry
    simp only [State.takeChanges, ht]
    exact entry.frame.trans ih
  | case4 n c cs s t r ht =>
    have entry := s.entryWrites_takeChange f tracked c
    rw [ht] at entry
    simp only [State.takeChanges, ht]
    exact entry.frame.stands _
  | case5 n c cs s t ht =>
    have entry := s.entryWrites_takeChange f tracked c
    rw [ht] at entry
    simp only [State.takeChanges, ht]
    exact entry.frame.endProcessing

/-! ## A frame of the own epoch by its sender's state (R83) -/

/-- The sender of an accepted frame: ACTIVE, with the next sequence expected (R83). -/
def Peer.accepted (f : Frame) (t : SequenceTest) (p : Peer) : Peer :=
  { p.advanceSequence f.sequence t with lastEpoch := f.epoch, state := .active }

/-- The sender of a frame after a gap (R83). -/
def Peer.gapped (f : Frame) (p : Peer) : Peer :=
  { p with lastEpoch := f.epoch, state := .desync, silence := none, senderState := some f.senderState }

/-- An EXCLUDED sender before the change entries of its frame (R92). -/
def Peer.trackedSequence (f : Frame) (t : SequenceTest) (p : Peer) : Peer :=
  if t = .gap then ({ p.advanceSequence f.sequence t with lastEpoch := f.epoch } : Peer).discard
  else { p.advanceSequence f.sequence t with lastEpoch := f.epoch }

/-- An ENDED sender before the refusals of its frame's change entries (R88). -/
def Peer.endedSequence (f : Frame) (t : SequenceTest) (p : Peer) : Peer :=
  { p.advanceSequence f.sequence t with lastEpoch := f.epoch, senderState := some f.senderState }

/-- A peer whose frames of the own epoch are accepted where no gap lies before them (R83). -/
def Peer.Accepts (p : Peer) : Prop :=
  p.state = .awaited ∨ p.state = .active ∨ p.state = .silent ∨ p.state = .foreignEpoch

theorem Peer.state_cases (p : Peer) :
    p.Accepts ∨ p.state = .notExpected ∨ p.state = .desync ∨ p.state = .excluded ∨ p.state = .ended := by
  unfold Peer.Accepts
  cases p.state <;> simp

section
variable {s : State} {f : Frame} (n : Nat)

theorem State.acceptFrame_of_accepts (h : (s.peer f.sender).Accepts) : s.acceptFrame f n =
    if (s.peer f.sender).testSequence f.sequence = .gap then
      ((s.updatePeer f.sender (Peer.gapped f)).chargePeer f.sender .frameGap f.sender).endProcessing
    else State.takeChanges f false n f.changes
      (s.updatePeer f.sender (Peer.accepted f ((s.peer f.sender).testSequence f.sequence))) := by
  unfold State.acceptFrame
  rcases h with h | h | h | h <;> simp only [h] <;> rfl

theorem State.acceptFrame_of_notExpected (h : (s.peer f.sender).state = .notExpected) :
    s.acceptFrame f n = (s.updatePeer f.sender fun u => { u with lastEpoch := f.epoch }).endProcessing := by
  simp only [State.acceptFrame, h]

theorem State.acceptFrame_of_desync (h : (s.peer f.sender).state = .desync) :
    s.acceptFrame f n = (s.updatePeer f.sender fun u => { u with
      lastEpoch := f.epoch, hold := f.hold, senderState := some f.senderState }).endProcessing := by
  simp only [State.acceptFrame, h]

theorem State.acceptFrame_of_excluded (h : (s.peer f.sender).state = .excluded) :
    s.acceptFrame f n = State.takeChanges f true n f.changes
      (s.updatePeer f.sender (Peer.trackedSequence f ((s.peer f.sender).testSequence f.sequence))) := by
  simp only [State.acceptFrame, h]
  rfl

theorem State.acceptFrame_of_ended (h : (s.peer f.sender).state = .ended) : s.acceptFrame f n =
    if (s.peer f.sender).testSequence f.sequence = .inOrder then (State.refuseChanges f.sender f.changes
      (s.updatePeer f.sender (Peer.endedSequence f ((s.peer f.sender).testSequence f.sequence)))).endProcessing
    else
      (s.updatePeer f.sender (Peer.endedSequence f ((s.peer f.sender).testSequence f.sequence))).endProcessing := by
  simp only [State.acceptFrame, h]
  rfl

end

theorem State.frameWrites_acceptFrame (s : State) (f : Frame) (n : Nat) : s.FrameWrites (s.acceptFrame f n) := by
  have written (g : Peer → Peer) : s.EntryWrites (s.updatePeer f.sender g) := .updatePeer (.refl s)
  have taken (tracked : Bool) (g : Peer → Peer) :
      s.FrameWrites (State.takeChanges f tracked n f.changes (s.updatePeer f.sender g)) :=
    (written g).frame.trans (State.frameWrites_takeChanges f tracked n f.changes _)
  rcases (s.peer f.sender).state_cases with h | h | h | h | h
  · rw [State.acceptFrame_of_accepts n h]
    split
    · exact (written _).chargePeer.frame.endProcessing
    · exact taken false _
  · rw [State.acceptFrame_of_notExpected n h]
    exact (written _).frame.endProcessing
  · rw [State.acceptFrame_of_desync n h]
    exact (written _).frame.endProcessing
  · rw [State.acceptFrame_of_excluded n h]
    exact taken true _
  · rw [State.acceptFrame_of_ended n h]
    split
    · exact ((written _).refuseChanges f.sender f.changes).frame.endProcessing
    · exact (written _).frame.endProcessing

theorem State.EntryWrites.holds {s t : State} (h : s.EntryWrites t) {f : Frame} (hf : s.Holds f) : t.Holds f := by
  rw [h]
  exact hf

/-! ## How it moves the tables -/

theorem Peer.TimerSound.takeRequests {p : Peer} (h : p.TimerSound) (f : Frame) : (p.takeRequests f).TimerSound := by
  intro inactive
  simp only [Peer.takeRequests] at inactive ⊢
  split_ifs at inactive ⊢ with hend active
  · rfl
  · exact absurd active inactive
  · exact h inactive

theorem State.TableMoves.endProcessing {s t : State} (m : s.TableMoves t) : s.TableMoves t.endProcessing :=
  .trans m .freed

section
variable {s t : State} {f : Frame} (hf : s.Holds f)
include hf

/-- The sender's entry is written with its timer sound. -/
theorem State.tableMoves_updatePeer {g : Peer → Peer} (hg : ∀ p : Peer, p.TimerSound → (g p).TimerSound) :
    s.TableMoves (s.updatePeer f.sender g) :=
  .framed hf (hg _)

theorem State.tableMoves_chargePeer (e : ErrorKind) (x : Nat) : s.TableMoves (s.chargePeer f.sender e x) := by
  have reported : s.EntryWrites (s.report e (some x)) := .report (.refl s)
  exact .trans (.kept (.report (.refl s))) (State.tableMoves_updatePeer (reported.holds hf) fun _ => id)

theorem State.tableMoves_takeHorizon : s.TableMoves (s.takeHorizon f) := by
  unfold State.takeHorizon
  split
  · exact State.tableMoves_updatePeer hf fun _ => id
  · exact State.tableMoves_chargePeer hf _ _

theorem State.tableMoves_finishFrame (tracked : Bool) : s.TableMoves (s.finishFrame f tracked) := by
  have taken : s.EntryWrites (s.takeHorizon f) := (State.EntryWrites.refl s).takeHorizon f
  refine .trans (.trans (State.tableMoves_takeHorizon hf)
    (State.tableMoves_updatePeer (taken.holds hf) fun p sound => ?_)) .freed
  split
  · exact sound
  · exact sound.takeRequests f

theorem State.tableMoves_refuseChanges (cs : List ChangeEntry) :
    s.TableMoves (State.refuseChanges f.sender cs s) := by
  induction cs generalizing s with
  | nil => exact .refl s
  | cons c cs ih =>
    exact .trans (State.tableMoves_chargePeer hf _ _) (ih ((State.EntryWrites.refl s).chargePeer.holds hf))

theorem State.tableMoves_takeRouted (c : ChangeEntry) (n : Nat) : s.TableMoves (s.takeRouted f c n).state := by
  have count {t : State} (ht : t.Holds f) : t.TableMoves (t.countChange f.sender) :=
    State.tableMoves_updatePeer ht fun _ => id
  unfold State.takeRouted
  dsimp only
  split
  · exact .refl s
  · split
    · exact .trans (State.tableMoves_chargePeer hf _ _) (count ((State.EntryWrites.refl s).chargePeer.holds hf))
    · split
      · exact .refl s
      · split
        · have still (g : Peer → Peer) : (s.updatePeer f.sender g).Holds f := hf
          refine .trans (State.tableMoves_updatePeer hf ?_) (State.tableMoves_chargePeer (still _) _ _)
          exact fun _ _ _ => rfl
        · exact .trans (t := { s with remotes := insertByKey RemoteEntry.key (c.remote f.sender n) s.remotes })
            (.kept (.same (.refl s) rfl)) (count hf)

theorem State.tableMoves_takeChange (tracked : Bool) (c : ChangeEntry) :
    s.TableMoves (s.takeChange f tracked c).state := by
  unfold State.takeChange
  split
  · exact .refl s
  · split
    · exact .refl s
    · exact State.tableMoves_chargePeer hf _ _
    · split
      · exact State.tableMoves_chargePeer hf _ _
      · split
        · simp only [ChangeStep.state, State.discardRouted]
          split
          · exact .refl s
          · exact State.tableMoves_updatePeer hf fun _ => id
        · exact State.tableMoves_takeRouted hf c _

theorem State.tableMoves_takeChanges (tracked : Bool) (n : Nat) (cs : List ChangeEntry) :
    s.TableMoves (State.takeChanges f tracked n cs s) := by
  induction n, cs, s using State.takeChanges.induct (f := f) (tracked := tracked) with
  | case1 n s =>
    simp only [State.takeChanges]
    exact State.tableMoves_finishFrame hf tracked
  | case2 c cs s => exact .stands hf
  | case3 n c cs s t ht ih =>
    have entry := s.entryWrites_takeChange f tracked c
    have step := State.tableMoves_takeChange hf tracked c
    rw [ht] at entry step
    simp only [State.takeChanges, ht]
    exact step.trans (ih (entry.holds hf))
  | case4 n c cs s t r ht =>
    have entry := s.entryWrites_takeChange f tracked c
    have step := State.tableMoves_takeChange hf tracked c
    rw [ht] at entry step
    simp only [State.takeChanges, ht]
    exact step.trans (.stands (entry.holds hf))
  | case5 n c cs s t ht =>
    have step := State.tableMoves_takeChange hf tracked c
    rw [ht] at step
    simp only [State.takeChanges, ht]
    exact step.trans .freed

theorem State.tableMoves_acceptFrame (entries : Nat) : s.TableMoves (s.acceptFrame f entries) := by
  have written {g : Peer → Peer} (hg : ∀ p : Peer, p.TimerSound → (g p).TimerSound) :
      s.TableMoves (s.updatePeer f.sender g) := State.tableMoves_updatePeer hf hg
  have still (g : Peer → Peer) : (s.updatePeer f.sender g).Holds f := hf
  have gapped {g : Peer → Peer} (hg : ∀ p : Peer, p.TimerSound → (g p).TimerSound) : s.TableMoves
      (((s.updatePeer f.sender g).chargePeer f.sender .frameGap f.sender).endProcessing) :=
    .endProcessing (.trans (written hg) (State.tableMoves_chargePeer (still g) _ _))
  have taken (tracked : Bool) {g : Peer → Peer} (hg : ∀ p : Peer, p.TimerSound → (g p).TimerSound) : s.TableMoves
      (State.takeChanges f tracked entries f.changes (s.updatePeer f.sender g)) :=
    .trans (written hg) (State.tableMoves_takeChanges (still g) tracked entries f.changes)
  have advance (p : Peer) (q : Nat) (t : SequenceTest) (sound : p.TimerSound) :
      (p.advanceSequence q t).TimerSound := by
    cases t <;> exact sound
  rcases (s.peer f.sender).state_cases with h | h | h | h | h
  · rw [State.acceptFrame_of_accepts entries h]
    split
    · exact gapped fun _ _ _ => rfl
    · exact taken false fun _ _ inactive => absurd rfl inactive
  · rw [State.acceptFrame_of_notExpected entries h]
    exact .endProcessing (written fun _ => id)
  · rw [State.acceptFrame_of_desync entries h]
    exact .endProcessing (written fun _ => id)
  · rw [State.acceptFrame_of_excluded entries h]
    refine taken true fun p sound => ?_
    unfold Peer.trackedSequence
    split <;> exact advance p _ _ sound
  · rw [State.acceptFrame_of_ended entries h]
    have sequenced (t : SequenceTest) : s.TableMoves (s.updatePeer f.sender (Peer.endedSequence f t)) :=
      written fun p => advance p f.sequence t
    split
    · exact .endProcessing (.trans (sequenced _) (State.tableMoves_refuseChanges (still _) _))
    · exact .endProcessing (sequenced _)

end

theorem State.actMoves_beginFrame {s : State} {f : Frame} (hf : s.Holds f) (entries : Nat) :
    s.ActMoves (s.beginFrame f entries) := by
  have counted : s.TableMoves (s.countFrame f.sender) := State.tableMoves_updatePeer hf fun _ => id
  have still : (s.countFrame f.sender).Holds f := hf
  have bound (m : Nat) : ((s.countFrame f.sender).peer m).bound = (s.peer m).bound := by
    rw [State.countFrame, State.peer_updatePeer]
    split
    · rename_i hm
      rw [hm.1]
      rfl
    · rfl
  have act : s.ActMoves (s.countFrame f.sender) :=
    ⟨counted, fun h => h.congr rfl (fun _ => rfl) bound rfl rfl rfl⟩
  unfold State.beginFrame
  dsimp only
  split
  · exact ((counted.trans (State.tableMoves_acceptFrame still entries)).settleComplete s).decideWaiting
  · split
    · exact (act.trans (State.actMoves_restartAct _ _ _)).decideWaiting
    · refine State.ActMoves.decideWaiting (State.TableMoves.settleComplete ?_ s)
      refine .trans (.trans counted (State.tableMoves_updatePeer still fun p sound => ?_)) .freed
      unfold Peer.foreign
      split
      · exact fun _ => rfl
      · exact sound

theorem State.actMoves_processFrame (s : State) (entries : Nat) : s.ActMoves (s.processFrame entries) := by
  unfold State.processFrame
  split
  · rename_i pr hpr
    split
    · exact ((State.tableMoves_takeChanges (.inr ⟨pr, hpr, rfl⟩) _ _ _).settleComplete s).decideWaiting
    · exact .refl s
  · split
    · exact .refl s
    · rename_i f fs hb
      split
      · exact State.actMoves_beginFrame (.inl (hb ▸ List.mem_cons_self)) entries
      · exact .refl s

end Sys2Proof.Machine
end

section
/-! SUPPORT. What the moves of the tables keep: the bounds (O7), the peer entries (O10) and the horizon law (O11). -/

namespace Sys2Proof.Machine

/-! ## Every step -/

/-- The station is in service from the first commit on (R146). -/
theorem State.inService_eq (s : State) : s.inService = !s.beforeCommit := by
  unfold State.inService State.beforeCommit
  cases s.station.state <;> rfl

theorem State.beforeCommit_of_not_inService {s : State} (h : s.inService = false) : s.beforeCommit = true := by
  simpa [State.inService_eq] using h

/-- Every field that the end of frame `f`, sent whole, writes before the state is settled (R66). -/
def State.sentState (s : State) (f : Frame) : State :=
  { s.sentWrites f with
    pendingQueue := announceEntries (heldKeys s.outgoing) s.pendingQueue
    outgoing := s.outgoing.filter fun c => !c.held }

/-- A step from `s` to `t` moves the tables as `State.ActMoves` says, or it is the build of a frame (R62) or the end of a
frame sent whole (R66). -/
inductive State.StepTables (s : State) : State → Prop where
  | act {t : State} (m : s.ActMoves t) : StepTables s t
  | built (hw : s.tx.state = .waiting) (hs : s.inService = true) : StepTables s { s with
      outgoing := holdFirst s.outgoing, tx := { s.tx with state := .sending s.builtFrame } }
  | sent {f : Frame} (hf : s.tx.state = .sending f) : StepTables s ((s.sentState f).settleComplete s)

theorem State.stepTables_buildFrame (s : State) (quietBits : Nat) : s.StepTables (s.buildFrame quietBits) := by
  unfold State.buildFrame
  split
  · rename_i h
    exact .built h.1 h.2.2.2
  · exact .act (.refl s)

theorem State.stepTables_frameSent (s : State) : s.StepTables s.frameSent := by
  by_cases h : ∃ f, s.tx.state = .sending f
  · obtain ⟨f, hf⟩ := h
    rw [State.frameSent_sending hf]
    exact .sent hf
  · rw [State.frameSent_ignored fun f hf => h ⟨f, hf⟩]
    exact .act (.refl s)

theorem State.tablesKept_takeSettings (s : State) (b : SettingsBody) : s.TablesKept (s.takeSettings b) := by
  refine .placeAnswer (.toLoading ?_)
  exact .same (.refl s) rfl

/-- Every command moves the tables so. -/
theorem State.stepTables_exec {s t : State} {i : Instr} (he : Machine.exec i s = .next t) : s.StepTables t := by
  have next {u : State} (hu : Machine.exec i s = .next u) (h : s.StepTables u) : s.StepTables t := by
    rw [hu] at he
    cases he
    exact h
  have moves {u : State} (hu : Machine.exec i s = .next u) (m : s.ActMoves u) : s.StepTables t := next hu (.act m)
  have kept {u : State} (hu : Machine.exec i s = .next u) (k : s.TablesKept u) : s.StepTables t := moves hu (.kept k)
  cases i with
  | powerOnReset straps => exact moves rfl (s.actMoves_powerOnAct straps)
  | feedWriteStart => exact kept rfl s.tablesKept_feedWriteStart
  | stationSettings f b =>
    exact moves rfl (s.actMoves_receiveRecord kindSettings fun _ _ => .kept (s.tablesKept_takeSettings b))
  | declareSource f b =>
    refine moves rfl (s.actMoves_receiveRecord kindDeclare fun hi hv => State.actMoves_takeDeclare hi ?_ b)
    have unserved := State.not_inService_of_acceptsDescription (accepted_of_screen hv)
    exact State.beforeCommit_of_not_inService unserved
  | element f b => exact moves rfl (s.actMoves_receiveRecord kindElement fun _ _ => .kept (s.tablesKept_takeElement b))
  | point f b => exact moves rfl (s.actMoves_receiveRecord kindPoint fun _ _ => .kept (s.tablesKept_takePoint b))
  | commit f =>
    refine moves rfl (s.actMoves_receiveRecord kindCommit fun _ hv => State.actMoves_takeCommit ?_)
    exact (s.beforeCommit_iff).2 (.inr (beq_iff_eq.1 (accepted_of_screen hv)))
  | segment f b => exact moves rfl (s.actMoves_receiveRecord kindSegment fun _ _ => .kept (s.tablesKept_takeSegment b))
  | event f b =>
    exact moves rfl (s.actMoves_receiveRecord kindEvent fun _ hv =>
      State.actMoves_takeEvent (State.inService_of_acceptsReplay (accepted_of_screen hv)) b)
  | progress f b => exact moves rfl (s.actMoves_receiveRecord kindProgress fun hi _ => State.actMoves_takeProgress hi b)
  | endSource f n =>
    exact moves rfl (s.actMoves_receiveRecord kindEndSource fun hi _ => State.actMoves_takeEndSource hi n)
  | malformedFeedRecord kind n =>
    refine moves rfl (s.actMoves_receiveRecord kind fun _ _ => .kept (.placeAnswer ?_))
    exact .same (.refl s) rfl
  | mergeAct => exact moves rfl s.actMoves_mergeAct
  | commandWriteStart => exact kept rfl s.tablesKept_commandWriteStart
  | start n => exact moves rfl (s.actMoves_submit _)
  | hold n => exact moves rfl (s.actMoves_submit _)
  | resume n => exact moves rfl (s.actMoves_submit _)
  | step n => exact moves rfl (s.actMoves_submit _)
  | setRate n r => exact moves rfl (s.actMoves_submit _)
  | holdAt n w => exact moves rfl (s.actMoves_submit _)
  | skipOn n => exact moves rfl (s.actMoves_submit _)
  | skipOff n => exact moves rfl (s.actMoves_submit _)
  | watchSet n e k => exact moves rfl (s.actMoves_submit _)
  | watchClear n e => exact moves rfl (s.actMoves_submit _)
  | excludePeer n p => exact moves rfl (s.actMoves_submit _)
  | includePeer n p => exact moves rfl (s.actMoves_submit _)
  | snapshot n => exact moves rfl (s.actMoves_submit _)
  | status n => exact moves rfl (s.actMoves_submit _)
  | skew n => exact moves rfl (s.actMoves_submit _)
  | restart n b => exact moves rfl (s.actMoves_submit _)
  | clearFlags n f => exact moves rfl (s.actMoves_submit _)
  | mask n m => exact moves rfl (s.actMoves_submit _)
  | malformedCommand k => exact moves rfl (s.actMoves_submit _)
  | consoleReadyAssert => exact kept rfl (.same (.refl s) rfl)
  | consoleReadyWithdraw => exact kept rfl (.same (.refl s) rfl)
  | deliveryRecordBegin => exact moves rfl s.actMoves_beginRecord
  | deliveryRecordEnd => exact kept rfl (.same (.refl s) rfl)
  | heartbeat => exact kept rfl s.tablesKept_heartbeatAct
  | frameBuild q => exact next rfl (s.stepTables_buildFrame q)
  | collision bit => exact moves rfl (s.actMoves_collide bit)
  | transmitError bit => exact moves rfl (s.actMoves_transmitError bit)
  | frameSentWhole => exact next rfl s.stepTables_frameSent
  | backoffDone q => exact kept rfl (s.tablesKept_countBackoff q)
  | muteExpiry => exact kept rfl s.tablesKept_expireMute
  | syncReject p d => exact kept rfl (s.tablesKept_rejectSync p d)
  | frameOpened p d => exact kept rfl (s.tablesKept_openFrame p d)
  | frameReceive bits own => exact moves rfl (s.actMoves_receiveFrame bits own)
  | frameProcessing n => exact moves rfl (s.actMoves_processFrame n)
  | peerSilenceTimeout p => exact kept rfl (s.tablesKept_silencePeer p.toNat)
  | release => exact kept rfl s.tablesKept_releaseAct
  | releaseRecordQueue => exact kept rfl s.tablesKept_queueReleaseRecord
  | lateApply => exact kept rfl s.tablesKept_lateApply
  | relabelComputed => exact kept rfl s.tablesKept_computeRelabel
  | islandsEmit => exact kept rfl s.tablesKept_emitIslands
  | snapshotEmitting => exact kept rfl s.tablesKept_beginEmission
  | elementState => exact kept rfl s.tablesKept_emitElement
  | nodeLabels => exact kept rfl s.tablesKept_emitLabels
  | skewRecord => exact kept rfl s.tablesKept_emitSkew
  | holdState => exact kept rfl s.tablesKept_queueHoldState
  | completeRecord => exact kept rfl s.tablesKept_queueComplete
  | clockAdvance => exact kept rfl s.tablesKept_tick
  | stallTimeout => exact kept rfl s.tablesKept_stallAct

/-- A step takes a command from the queue, which leaves the tables, and moves them as that command does. -/
theorem State.stepTables_step {s t : State} (h : Machine.step s = .next t) :
    ∃ u, s.TablesKept u ∧ u.outgoing = s.outgoing ∧ u.StepTables t := by
  rcases step_next h with ⟨-, rfl⟩ | ⟨i, rest, -, hi⟩
  · exact ⟨t, .refl t, rfl, .act (.refl t)⟩
  · exact ⟨{ s with pending := rest }, .same (.refl s) rfl, rfl, State.stepTables_exec hi⟩

/-! ## The bounds (O7) -/

/-- Settles O7: every act that writes an input of the bounds re-forms them at its end, but for a description record before
the first commit, where they do not depend on it. -/
theorem boundsStayAgreed : Obligations.BoundsStayAgreed := by
  intro s t h hstep
  obtain ⟨u, kept, -, step⟩ := State.stepTables_step hstep
  have agree := h.kept kept
  cases step with
  | act m => exact m.bounds agree
  | built _ _ => exact ⟨agree.lw, agree.safeTime, agree.limiting⟩
  | sent _ => exact (State.settleComplete_agrees _ _).1

/-! ## The peer entries (O10) -/

/-- Every silence timer is sound, the own peer entry is NOT_EXPECTED, and no frame held is of the own number (R73, R79,
R89). -/
structure State.PeersSound (s : State) : Prop where
  timers : ∀ n, (s.peer n).TimerSound
  own : (s.peer s.station.number).state = .notExpected
  frames : ∀ f, s.Holds f → f.sender ≠ s.station.number

theorem State.exists_peer_of_mem {s : State} {p : Peer} (h : p ∈ s.peers.toList) : ∃ n, s.peer n = p := by
  obtain ⟨n, hn, rfl⟩ := List.getElem_of_mem h
  have hn : n < 16 := by simpa using hn
  exact ⟨n, by simp [State.peer, hn]⟩

theorem State.peer_mem {s : State} {n : Nat} (hn : n < 16) : s.peer n ∈ s.peers.toList := by
  have : s.peer n = s.peers[n] := by simp [State.peer, hn]
  rw [this, Vector.mem_toList_iff]
  exact Vector.getElem_mem hn

theorem State.peersSound_iff (s : State) : s.PeersSound ↔ s.SilenceAgrees ∧ s.OwnEntryUnused := by
  constructor
  · refine fun h => ⟨fun p hp => ?_, h.own, fun f hf => h.frames f (.inl hf), fun pr hpr => h.frames _ (.inr ⟨pr, hpr, rfl⟩)⟩
    obtain ⟨n, rfl⟩ := State.exists_peer_of_mem hp
    exact h.timers n
  · rintro ⟨silent, own, buffers, processing⟩
    refine ⟨fun n => ?_, own, fun f hf => ?_⟩
    · rcases Nat.lt_or_ge n 16 with hn | hn
      · exact silent _ (State.peer_mem hn)
      · rw [State.peer_of_ge s hn]
        exact fun _ => rfl
    · rcases hf with hf | ⟨pr, hpr, rfl⟩
      · exact buffers f hf
      · exact processing pr hpr

section
variable {s : State} (h : s.PeersSound)
include h

theorem State.PeersSound.kept {t : State} (k : s.TablesKept t) : t.PeersSound where
  timers n := (k.peers n).timer (h.timers n)
  own := by rw [k.number]; exact (k.peers _).unexpected h.own
  frames f hf := by
    rw [k.number]
    rcases hf with hf | ⟨pr, hpr, rfl⟩
    · exact h.frames f (.inl (k.buffers ▸ hf))
    · obtain ⟨pr', hpr', frame⟩ := k.processing pr hpr
      exact h.frames _ (.inr ⟨pr', hpr', frame.symm⟩)

theorem State.PeersSound.epoch {t : State} (e : s.EpochBegins t) : t.PeersSound where
  timers := e.silence
  own := e.own
  frames f hf := by
    rcases hf with hf | ⟨pr, hpr, -⟩
    · rcases e.received with empty | ⟨number, same⟩
      · rw [empty] at hf
        cases hf
      · rw [number]
        exact h.frames f (.inl (same ▸ hf))
    · cases e.processing.symm.trans hpr

/-- Another station's entry is written. -/
theorem State.PeersSound.setPeer {n : Nat} {p : Peer} (hn : n ≠ s.station.number) (hp : p.TimerSound) :
    (s.setPeer n p).PeersSound where
  timers m := by
    rw [State.peer_setPeer]
    split
    · exact hp
    · exact h.timers m
  own := (s.peer_setPeer_of_ne p (Ne.symm hn)).symm ▸ h.own
  frames := h.frames

theorem State.PeersSound.moved {t : State} (m : s.TableMoves t) : t.PeersSound := by
  induction m with
  | kept k => exact h.kept k
  | trans _ _ ih ih' => exact ih' (ih h)
  | epoch e => exact h.epoch e
  | framed hf hp => exact h.setPeer (h.frames _ hf) (hp (h.timers _))
  | peered hn hp => exact h.setPeer (fun own => hn (own ▸ h.own)) hp
  | buffered hf hx =>
    refine { h with frames := fun f hf' => ?_ }
    rcases hf' with hf' | processing
    · rw [hx] at hf'
      rcases List.mem_append.1 hf' with hf' | hf'
      · exact h.frames f (.inl hf')
      · exact (List.mem_singleton.1 hf') ▸ hf
    · exact h.frames f (.inr processing)
  | freed =>
    refine { h with frames := fun f hf => ?_ }
    rcases hf with hf | ⟨_, ⟨⟩, -⟩
    exact h.frames f (.inl (List.mem_of_mem_tail hf))
  | stands hf =>
    refine { h with frames := fun f hf' => ?_ }
    rcases hf' with hf' | ⟨_, ⟨⟩, rfl⟩
    · exact h.frames f (.inl hf')
    · exact h.frames _ hf
  | source _ _ => exact { h with }
  | admitted _ _ => exact { h with }
  | answered _ _ => exact { h with }
  | abandoned _ => exact { h with }

end

/-- Settles O10: a silence timer starts with ACTIVE alone and stops with it, the entries written are those of the senders of
frames held and of counted or EXCLUDED peers, and a frame of the own number is never buffered. -/
theorem peerEntriesStayAgreed : Obligations.PeerEntriesStayAgreed := by
  intro s t silent unused hstep
  obtain ⟨u, kept, -, step⟩ := State.stepTables_step hstep
  have sound : u.PeersSound := (s.peersSound_iff.2 ⟨silent, unused⟩).kept kept
  refine t.peersSound_iff.1 ?_
  cases step with
  | act m => exact sound.moved m.moves
  | built _ _ => exact { sound with }
  | @sent f _ =>
    have written : (u.sentState f).PeersSound := { sound with }
    exact written.kept (.settleComplete (.refl _))

end Sys2Proof.Machine
end

section
/-! SUPPORT. The announced horizon (O11): what lies at or above it in the middle of an act too, over the moves of the tables
and over the build and the end of a frame. -/

namespace Sys2Proof.Machine

/-- What the horizon law rests on, with the watermark that the sources give in the place of LW as it is held: it holds in the
middle of an act too, where LW is still to be re-formed. -/
structure State.AnnouncedBelow (s : State) : Prop where
  marked : s.Marked
  watermark : ∀ h, s.horizon.ownAnnounced = some h → h ≤ s.localWatermark
  copies : ∀ h, s.horizon.ownAnnounced = some h → ∀ c ∈ s.outgoing, h ≤ c.key.time
  frameWatermark : ∀ f, s.tx.state = .sending f → f.horizon ≤ s.localWatermark
  frameCopies : ∀ f, s.tx.state = .sending f → ∀ c ∈ s.outgoing, c.held = false → f.horizon ≤ c.key.time
  frameAbove : ∀ f h, s.tx.state = .sending f → s.horizon.ownAnnounced = some h → h ≤ f.horizon
  frameEpoch : ∀ f, s.tx.state = .sending f → s.inService = true
  intake : ∀ e, s.feed.intake = some e →
    s.inService = true ∧ (s.source e.key.source).isOpen = true ∧ (s.source e.key.source).watermark = some e.key.time

/-- Between acts it is the horizon law. -/
theorem State.BoundsAgree.announcedBelow_iff {s : State} (h : s.BoundsAgree) : s.AnnouncedBelow ↔ s.HorizonLaw := by
  constructor
  · exact fun a => ⟨a.marked, h.lw ▸ a.watermark, a.copies, h.lw ▸ a.frameWatermark, a.frameCopies, a.frameAbove,
      a.frameEpoch, a.intake⟩
  · exact fun l => ⟨l.marked, h.lw ▸ l.watermark, l.copies, h.lw ▸ l.frameWatermark, l.frameCopies, l.frameAbove,
      l.frameEpoch, l.intake⟩

/-- The source written bounds no lower than before. -/
theorem State.boundRises_setSource {s : State} {n : Nat} {r : Source} (hr : (s.source n).BoundRises r) (m : Nat) :
    (s.source m).BoundRises ((s.setSource n r).source m) := by
  rw [State.source_setSource]
  split
  · rename_i hm
    exact hm.1 ▸ hr
  · exact .refl _

theorem State.inService_of_commit {s t : State} (h : t.beforeCommit = s.beforeCommit) (hs : s.inService = true) :
    t.inService = true := by
  rwa [State.inService_eq, h, ← State.inService_eq]

section
variable {s : State} (h : s.AnnouncedBelow)
include h

/-- The record in intake lies at or above the watermark (R75, R77). -/
theorem State.AnnouncedBelow.watermark_le_intake {e : Intake} (he : s.feed.intake = some e) :
    s.localWatermark ≤ e.key.time :=
  have ⟨_, opened, watermark⟩ := h.intake e he
  State.localWatermark_le opened watermark

theorem State.AnnouncedBelow.kept {t : State} (k : s.TablesKept t) : t.AnnouncedBelow := by
  have same : t.localWatermark = s.localWatermark := State.localWatermark_congr k.commit k.sourceBound
  have rises (n : Nat) : (s.source n).BoundRises (t.source n) :=
    Source.boundRises_of_eq (k.sources n).1 (k.sources n).2
  have service : s.inService = true → t.inService = true := State.inService_of_commit k.commit
  refine ⟨h.marked.kept rises, ?_, ?_, fun f hf => ?_, fun f hf => ?_, fun f x hf hx => ?_, fun f hf => ?_,
    fun e he => ?_⟩
  · rw [k.ownAnnounced, same]; exact h.watermark
  · rw [k.ownAnnounced, k.outgoing]; exact h.copies
  · rw [same]; exact h.frameWatermark f ((k.sending f).1 hf)
  · rw [k.outgoing]; exact h.frameCopies f ((k.sending f).1 hf)
  · exact h.frameAbove f x ((k.sending f).1 hf) (k.ownAnnounced ▸ hx)
  · exact service (h.frameEpoch f ((k.sending f).1 hf))
  · rcases k.intake with hi | hi
    · cases hi.symm.trans he
    · obtain ⟨hs, opened, watermark⟩ := h.intake e (hi ▸ he)
      obtain ⟨state, mark⟩ := k.sources e.key.source
      refine ⟨service hs, ?_, mark.trans watermark⟩
      simpa only [Source.isOpen, state] using opened

theorem State.AnnouncedBelow.epoch {t : State} (e : s.EpochBegins t) : t.AnnouncedBelow := by
  have free : ∀ f, t.tx.state ≠ .sending f := e.sending fun before f hf => by
    have served := h.frameEpoch f hf
    rw [State.inService_eq, before] at served
    cases served
  have unannounced {x : Nat} {P : Prop} (hx : t.horizon.ownAnnounced = some x) : P := by
    cases e.ownAnnounced.symm.trans hx
  exact ⟨e.marked, fun _ => unannounced, fun _ => unannounced, fun f hf => absurd hf (free f),
    fun f hf => absurd hf (free f), fun f _ hf => absurd hf (free f), fun f hf => absurd hf (free f),
    fun _ he => by cases e.intake.symm.trans he⟩

theorem State.AnnouncedBelow.setSource (hi : s.feed.intake = none) {n : Nat} {r : Source}
    (hr : (s.source n).BoundRises r) : (s.setSource n r).AnnouncedBelow := by
  have rises := State.boundRises_setSource hr
  have above : s.localWatermark ≤ (s.setSource n r).localWatermark := State.localWatermark_mono h.marked id rises
  exact { h with
    marked := h.marked.kept rises
    watermark := fun x hx => (h.watermark x hx).trans above
    frameWatermark := fun f hf => (h.frameWatermark f hf).trans above
    intake := fun _ he => by cases hi.symm.trans he }

theorem State.AnnouncedBelow.admitted (hs : s.inService = true) {n : Nat} {r : Source} {e : Intake}
    (a : s.Admits n r e) : ({ s.setSource n r with feed := { s.feed with intake := some e } } : State).AnnouncedBelow := by
  have rises := State.boundRises_setSource a.rises
  have above : s.localWatermark ≤ (s.setSource n r).localWatermark := State.localWatermark_mono h.marked id rises
  have written : (s.setSource n r).source e.key.source = r := by
    rw [State.source_setSource, if_pos ⟨a.source, a.number⟩]
  exact { h with
    marked := h.marked.kept rises
    watermark := fun x hx => (h.watermark x hx).trans above
    frameWatermark := fun f hf => (h.frameWatermark f hf).trans above
    intake := fun e' he' => by
      cases he'
      refine ⟨hs, ?_⟩
      show ((s.setSource n r).source e.key.source).isOpen = true ∧ ((s.setSource n r).source e.key.source).watermark = _
      rw [written]
      exact ⟨a.live, a.watermark⟩ }

theorem State.AnnouncedBelow.answered {e : Intake} (he : s.feed.intake = some e) {copies : List OutgoingCopy}
    (hc : ∀ c ∈ copies, c.key.time = e.key.time ∨ c ∈ s.outgoing) :
    ({ s with outgoing := copies, feed := { s.feed with intake := none } } : State).AnnouncedBelow := by
  have above := h.watermark_le_intake he
  exact { h with
    copies := fun x hx c hm => by
      rcases hc c hm with new | old
      · exact new ▸ (h.watermark x hx).trans above
      · exact h.copies x hx c old
    frameCopies := fun f hf c hm free => by
      rcases hc c hm with new | old
      · exact new ▸ (h.frameWatermark f hf).trans above
      · exact h.frameCopies f hf c old free
    intake := nofun }

theorem State.AnnouncedBelow.abandoned {tx : Transmitter} (ht : ∀ f, tx.state ≠ .sending f) :
    ({ s with outgoing := abandonCopies s.outgoing, tx := tx } : State).AnnouncedBelow :=
  { h with
    copies := fun x hx c hm => by
      obtain ⟨d, hd, key⟩ := mem_abandonCopies hm
      exact key ▸ h.copies x hx d hd
    frameWatermark := fun f hf => absurd hf (ht f)
    frameCopies := fun f hf => absurd hf (ht f)
    frameAbove := fun f _ hf => absurd hf (ht f)
    frameEpoch := fun f hf => absurd hf (ht f) }

/-- The moves of the tables leave the announced horizon below what it has to lie below. -/
theorem State.AnnouncedBelow.moved {t : State} (m : s.TableMoves t) : t.AnnouncedBelow := by
  induction m with
  | kept k => exact h.kept k
  | trans _ _ ih ih' => exact ih' (ih h)
  | epoch e => exact h.epoch e
  | source hi hr => exact h.setSource hi hr
  | admitted hs a => exact h.admitted hs a
  | answered he hc => exact h.answered he hc
  | abandoned ht => exact h.abandoned ht
  | framed _ _ => exact { h with }
  | peered _ _ => exact { h with }
  | buffered _ _ => exact { h with }
  | freed => exact { h with }
  | stands _ => exact { h with }

/-! ## The frame built and the frame sent (R62, R66, R77) -/

/-- What bounds the watermark and every copy from below bounds the own horizon. -/
theorem State.le_ownHorizon (hb : s.BoundsAgree) {x : Nat} (hx : s.horizon.ownAnnounced = some x) :
    x ≤ s.ownHorizon := by
  have lw : x ≤ s.horizon.lw := hb.lw ▸ h.watermark x hx
  unfold State.ownHorizon
  split
  · rename_i ninth hn
    exact le_min lw (h.copies x hx ninth (List.mem_of_getElem? hn))
  · exact lw

omit h in
theorem State.ownHorizon_le_lw (s : State) : s.ownHorizon ≤ s.horizon.lw := by
  unfold State.ownHorizon
  split
  · exact min_le_left _ _
  · exact le_rfl

omit h in
/-- The own horizon is at or below every copy past the first eight (R77). -/
theorem State.ownHorizon_le_rest (sorted : KeySorted OutgoingCopy.key s.outgoing) {c : OutgoingCopy}
    (hc : c ∈ s.outgoing.drop frameEntries) : s.ownHorizon ≤ c.key.time := by
  have rest : KeySorted OutgoingCopy.key (s.outgoing.drop frameEntries) :=
    sorted.sublist (List.drop_sublist _ _)
  unfold State.ownHorizon
  rw [← List.head?_drop]
  match hd : s.outgoing.drop frameEntries with
  | [] => rw [hd] at hc; cases hc
  | ninth :: cs =>
    rw [hd] at hc rest
    refine (min_le_right _ _).trans ?_
    rcases List.mem_cons.1 hc with rfl | hc
    · exact le_rfl
    · exact Key.time_le_of_lt ((List.pairwise_cons.1 rest).1 c hc)

omit h in
/-- A copy that the frame built does not carry is past the first eight (R62). -/
theorem mem_drop_of_holdFirst {cs : List OutgoingCopy} {c : OutgoingCopy} (h : c ∈ holdFirst cs)
    (free : c.held = false) : c ∈ cs.drop frameEntries := by
  rcases List.mem_append.1 h with first | rest
  · obtain ⟨d, -, rfl⟩ := List.mem_map.1 first
    cases free
  · exact rest

theorem State.AnnouncedBelow.built (hb : s.BoundsAgree) (sorted : KeySorted OutgoingCopy.key s.outgoing)
    (hs : s.inService = true) : ({ s with outgoing := holdFirst s.outgoing, tx := { s.tx with state := .sending s.builtFrame } } :
      State).AnnouncedBelow := by
  have frame {f : Frame} (hf : TxState.sending s.builtFrame = .sending f) : f.horizon = s.ownHorizon := by
    cases hf; rfl
  exact { h with
    copies := fun x hx c hc => by
      obtain ⟨d, hd, key⟩ := mem_holdFirst hc
      exact key ▸ h.copies x hx d hd
    frameWatermark := fun f hf => (frame hf).trans_le (hb.lw ▸ s.ownHorizon_le_lw)
    frameCopies := fun f hf c hc free =>
      (frame hf).trans_le (State.ownHorizon_le_rest sorted (mem_drop_of_holdFirst hc free))
    frameAbove := fun f x hf hx => (State.le_ownHorizon h hb hx).trans_eq (frame hf).symm
    frameEpoch := fun _ _ => hs }

theorem State.AnnouncedBelow.sent {f : Frame} (hf : s.tx.state = .sending f) : (s.sentState f).AnnouncedBelow where
  marked := h.marked
  watermark x hx := by
    cases hx
    exact h.frameWatermark f hf
  copies x hx c hc := by
    cases hx
    obtain ⟨hc, free⟩ := List.mem_filter.1 hc
    exact h.frameCopies f hf c hc (by simpa using free)
  frameWatermark := nofun
  frameCopies := nofun
  frameAbove := nofun
  frameEpoch := nofun
  intake := h.intake

end

/-- No move of the tables announces a horizon. -/
theorem State.TableMoves.ownAnnounced {s t : State} (m : s.TableMoves t) :
    t.horizon.ownAnnounced = s.horizon.ownAnnounced ∨ t.horizon.ownAnnounced = none := by
  induction m with
  | kept k => exact .inl k.ownAnnounced
  | trans _ _ ih ih' => exact ih'.elim (fun same => ih.imp same.trans same.trans) .inr
  | epoch e => exact .inr e.ownAnnounced
  | source _ _ => exact .inl rfl
  | admitted _ _ => exact .inl rfl
  | answered _ _ => exact .inl rfl
  | abandoned _ => exact .inl rfl
  | framed _ _ => exact .inl rfl
  | peered _ _ => exact .inl rfl
  | buffered _ _ => exact .inl rfl
  | freed => exact .inl rfl
  | stands _ => exact .inl rfl

/-- Every command keeps what the horizon law rests on, and announces no lower horizon. -/
theorem State.AnnouncedBelow.stepped {s t : State} (h : s.AnnouncedBelow) (hb : s.BoundsAgree)
    (sorted : KeySorted OutgoingCopy.key s.outgoing) (step : s.StepTables t) : t.AnnouncedBelow ∧
      ∀ x x', s.horizon.ownAnnounced = some x → t.horizon.ownAnnounced = some x' → x ≤ x' := by
  have unchanged {o : Option Nat} (same : o = s.horizon.ownAnnounced ∨ o = none) (x x' : Nat)
      (hx : s.horizon.ownAnnounced = some x) (hx' : o = some x') : x ≤ x' := by
    rcases same with rfl | rfl
    · exact (Option.some.inj (hx.symm.trans hx')).le
    · cases hx'
  cases step with
  | act m => exact ⟨h.moved m.moves, unchanged m.moves.ownAnnounced⟩
  | built _ hs => exact ⟨h.built hb sorted hs, unchanged (.inl rfl)⟩
  | @sent f hf =>
    refine ⟨(h.sent hf).kept (.settleComplete (.refl _)), fun x x' hx hx' => ?_⟩
    rw [State.settleComplete_ownAnnounced] at hx'
    cases hx'
    exact h.frameAbove f x hf hx

/-- Settles O11: a frame is built with a horizon at or below LW and every copy that it leaves, neither of which falls below
it while it is on the line. -/
theorem announcedHorizonsNeverDecrease : Obligations.AnnouncedHorizonsNeverDecrease := by
  intro s t law hb sorted _ hstep
  obtain ⟨u, kept, outgoing, step⟩ := State.stepTables_step hstep
  have agree : u.BoundsAgree := hb.kept kept
  have below : u.AnnouncedBelow := (hb.announcedBelow_iff.2 law).kept kept
  obtain ⟨below, rises⟩ := below.stepped agree (outgoing ▸ sorted.outgoing) step
  exact ⟨(boundsStayAgreed s t hb hstep).announcedBelow_iff.1 below, kept.ownAnnounced ▸ rises⟩

end Sys2Proof.Machine
end

section
/-! SUPPORT. EXCLUDE and INCLUDE (R92, R93) with their statement (O40). -/

namespace Sys2Proof.Machine

/-! ## A command between two frame processings (R92, R135) -/

theorem State.exec_commandRow (s : State) (c : Command) : exec (commandRow c) s = .next (s.submit c) := by
  cases c <;> rfl

section
variable {s : State} (h : s.DecidesAtOnce) {c : Command} (hc : s.processing = none ∨ waitsForProcessing c = false)
include h hc

/-- With no frame processing in flight, or of none that it waits for, a command is decided as its write ends, where a
delivery entry is free. -/
theorem State.submit_decided_of_free : s.submit c = s.written.decideCommand c := by
  have free : (!waitsForProcessing c || s.processing.isNone) = true := by
    rcases hc with hp | hw
    · simp [hp]
    · simp [hw]
  have can : s.canDecide c = true := by
    simp only [State.canDecide, State.roomForReply, h.room, decide_true, free, Bool.and_self]
  rw [State.submit_spec h.writing, if_pos can]

theorem State.submit_refused_of_free {r : RefuseReason} (ht : s.written.commandTest c = some r) :
    s.submit c = s.written.withReply (commandKind c) (some r) false := by
  rw [State.submit_decided_of_free h hc, State.decideCommand_refused ht]

theorem State.submit_accepted_of_free (hs : ∀ n, c ≠ .status n) (ht : s.written.commandTest c = none) :
    s.submit c = (s.written.commandEffect c).withReply (commandKind c) none (rateClamped c) := by
  rw [State.submit_decided_of_free h hc, State.decideCommand_accepted ht, State.enqueue_reply _ hs]

end

/-- A command that cannot be decided waits (R135). -/
theorem State.submit_waits {s : State} (hw : s.console.writing = true) {c : Command} (hc : s.canDecide c = false) :
    s.submit c = { s with console := { s.console with writing := false, inFlight := some c } } := by
  rw [State.submit_spec hw, hc]
  rfl

theorem State.canDecide_eq_false_of_processing {s : State} (hp : s.processing.isSome = true) {c : Command}
    (hc : waitsForProcessing c = true) : s.canDecide c = false := by
  have busy : s.processing.isNone = false := by rw [← Option.not_isSome, hp]; rfl
  rw [State.canDecide, hc, busy]
  simp

/-! ## What an act re-forms is re-formed with its reply queued too -/

section
variable {s w t : State} (kind : Byte) (reason : Option RefuseReason) (clamped : Bool)

theorem State.Reformed.withReply (h : s.Reformed w t) : s.Reformed w (t.withReply kind reason clamped) :=
  { h with
    tx := h.tx.withReply kind reason clamped
    bounds := { h.bounds with }
    link := h.link
    lag := { h.lag with }
    stall := { h.stall with } }

theorem State.OnlyReformed.withReply (h : s.OnlyReformed t) : s.OnlyReformed (t.withReply kind reason clamped) :=
  { h.toReformed.withReply kind reason clamped with complete := h.complete }

theorem State.comesToEnd_withReply :
    s.ComesToEnd (t.withReply kind reason clamped) ↔ s.ComesToEnd t :=
  ⟨fun ⟨replaying, before, drained⟩ => ⟨replaying, before, { drained with }⟩,
    fun ⟨replaying, before, drained⟩ => ⟨replaying, before, { drained with }⟩⟩

theorem State.ReformedWith.withReply (h : s.ReformedWith w t) :
    s.ReformedWith w (t.withReply kind reason clamped) :=
  { h.toReformed.withReply kind reason clamped with
    completes := fun hc => { h.completes ((State.comesToEnd_withReply _ _ _).1 hc) with }
    otherwise := fun hc => { h.otherwise (mt (State.comesToEnd_withReply _ _ _).2 hc) with } }

end

/-- The completion test leaves the epoch. -/
theorem State.ReformedWith.epoch {s w t : State} (h : s.ReformedWith w t) : t.station.epoch = s.station.epoch := by
  by_cases hc : s.ComesToEnd t
  · rw [(h.completes hc).station]
  · rw [(h.otherwise hc).station]

/-! ## The tests of EXCLUDE and INCLUDE (R92, R93) -/

theorem State.ownTest_excludePeer (s : State) (n b : Byte) : s.ownTest (.excludePeer n b) =
    if (s.peer b.toNat).counted = true then none else some .notApplicable := rfl

theorem State.ownTest_includePeer (s : State) (n b : Byte) : s.ownTest (.includePeer n b) =
    if (s.peer b.toNat).state ≠ .excluded then some .notApplicable
    else if (s.peer b.toNat).lastEpoch = s.station.epoch ∧ (s.peer b.toNat).discarded = 0 ∧
      s.beyondReleasePoint (s.peer b.toNat).horizon = true then none
    else some .notNow := rfl

/-- A horizon above the release point's time, or any where there is none (R93). -/
theorem State.beyondReleasePoint_iff (s : State) (horizon : Nat) : s.beyondReleasePoint horizon = true ↔
    ∀ k, s.engine.releasePoint = some k → k.time < horizon := by
  unfold State.beyondReleasePoint
  cases s.engine.releasePoint <;> simp

/-- EXCLUDE and INCLUDE of a station number in READY or REPLAYING are put to their own tests. -/
theorem State.commandTest_peer {s : State} (hs : s.station.state = .ready ∨ s.station.state = .replaying) {b : Byte}
    (hb : b.toNat ≤ 15) : s.commandTest (.excludePeer 1 b) = s.ownTest (.excludePeer 1 b) ∧
      s.commandTest (.includePeer 1 b) = s.ownTest (.includePeer 1 b) := by
  have form : ((1 : Byte) == 1 && decide (b.toNat ≤ 15)) = true := by simp [hb]
  have accepted : (s.station.state == .ready || s.station.state == .replaying) = true := by
    rcases hs with h | h <;> rw [h] <;> rfl
  exact ⟨State.commandTest_own form accepted, State.commandTest_own form accepted⟩

/-! ## Their effects -/

/-- The entry of a peer made EXCLUDED (R92). -/
def Peer.toExcluded (p : Peer) : Peer := { p with
  state := .excluded
  silence := none
  discarded := if p.state = .desync then 1 else 0
  expectedSeq := if p.state = .desync ∨ p.state = .foreignEpoch then none else p.expectedSeq }

/-- The entry of an EXCLUDED peer included again (R93). -/
def Peer.toIncluded (p : Peer) : Peer := { p with
  state := if p.horizon = endTime then .ended else .active
  silence := if p.horizon = endTime then none else some 0 }

theorem Peer.toIncluded_ended {p : Peer} (h : p.horizon = endTime) :
    p.toIncluded = { p with state := .ended, silence := none } := by
  simp only [Peer.toIncluded, h, if_true]

theorem Peer.toIncluded_unended {p : Peer} (h : p.horizon ≠ endTime) :
    p.toIncluded = { p with state := .active, silence := some 0 } := by
  simp only [Peer.toIncluded, h, if_false]

theorem State.excludeAct_eq (s : State) (n : Nat) :
    s.excludeAct n = (s.setPeer n (s.peer n).toExcluded).settleComplete s := rfl

theorem State.includeAct_eq (s : State) (n : Nat) :
    s.includeAct n = (s.setPeer n (s.peer n).toIncluded).settle s := rfl

theorem State.peer_excludeAct (s : State) (n m : Nat) :
    (s.excludeAct n).peer m = if m = n ∧ n < 16 then (s.peer n).toExcluded else s.peer m := by
  rw [State.excludeAct_eq, State.peer_congr (State.settleComplete_peers _ _), State.peer_setPeer]

theorem State.peer_includeAct (s : State) (n m : Nat) :
    (s.includeAct n).peer m = if m = n ∧ n < 16 then (s.peer n).toIncluded else s.peer m := by
  rw [State.includeAct_eq, State.peer_congr (State.settle_peers _ _), State.peer_setPeer]

theorem State.excludeAct_frame (s : State) (n : Nat) : s.excludeAct n = { s with
    peers := (s.excludeAct n).peers, station := (s.excludeAct n).station
    engine := { s.engine with completeOwed := (s.excludeAct n).engine.completeOwed }
    horizon := (s.excludeAct n).horizon, clock := (s.excludeAct n).clock
    attention := (s.excludeAct n).attention, tx := (s.excludeAct n).tx } := by
  have peers : (s.excludeAct n).peers = (s.setPeer n (s.peer n).toExcluded).peers := State.settleComplete_peers _ _
  rw [peers]
  exact State.settleComplete_frame _ _

theorem State.includeAct_frame (s : State) (n : Nat) : s.includeAct n = { s with
    peers := (s.includeAct n).peers, horizon := (s.includeAct n).horizon, clock := (s.includeAct n).clock
    attention := (s.includeAct n).attention, tx := (s.includeAct n).tx } := by
  have peers : (s.includeAct n).peers = (s.setPeer n (s.peer n).toIncluded).peers := State.settle_peers _ _
  rw [peers]
  exact State.settle_frame _ _

/-- The reply of an accepted command goes to the end of the queue that the act left. -/
theorem State.withReply_delivery {s u : State} (hd : u.delivery = s.delivery) (he : u.station.epoch = s.station.epoch)
    (kind : Byte) : (u.withReply kind none false).delivery = { s.delivery with
      queue := s.delivery.queue ++ [⟨s.station.epoch, .reply ⟨kind, none, false, u.attention.flags⟩⟩] } := by
  simp only [State.withReply, hd, he]

/-- EXCLUDE writes the peer's entry and settles the state with the completion test. -/
theorem State.reformed_excludeAct (s : State) (n : Nat) : s.ReformedToEnd (s.written.excludeAct n) :=
  State.settleComplete_reformedWith ⟨rfl, rfl, rfl, rfl, rfl, ⟨rfl, rfl⟩, rfl, rfl, rfl, id⟩ rfl rfl rfl rfl

/-- INCLUDE writes the peer's entry and settles the state. -/
theorem State.reformed_includeAct (s : State) (n : Nat) : s.OnlyReformed (s.written.includeAct n) :=
  State.settle_onlyReformed ⟨rfl, rfl, rfl, rfl, rfl, ⟨rfl, rfl⟩, rfl, rfl, rfl, id⟩

section
variable {s : State} {b : Byte} (h : s.DecidesAtOnce) (hp : s.processing = none)
  (hs : s.station.state = .ready ∨ s.station.state = .replaying) (hb : b.toNat ≤ 15)
include h hp hs hb

/-- EXCLUDE is decided by whether the peer is counted (R92). -/
theorem State.exec_excludePeer : exec (.excludePeer 1 b) s = .next (
    if (s.peer b.toNat).counted = true then (s.written.excludeAct b.toNat).withReply 11 none false
    else s.written.withReply 11 (some .notApplicable) false) := by
  have test : s.written.commandTest (.excludePeer 1 b) =
      if (s.peer b.toNat).counted = true then none else some .notApplicable :=
    (State.commandTest_peer (s := s.written) hs hb).1.trans (s.written.ownTest_excludePeer 1 b)
  refine (s.exec_commandRow (.excludePeer 1 b)).trans (congrArg _ ?_)
  split
  · rename_i counted
    exact State.submit_accepted_of_free h (.inl hp) (fun _ => Command.noConfusion) (test.trans (if_pos counted))
  · rename_i uncounted
    exact State.submit_refused_of_free h (.inl hp) (test.trans (if_neg uncounted))

/-- INCLUDE is decided by the three conditions of R93. -/
theorem State.exec_includePeer : exec (.includePeer 1 b) s = .next (
    if (s.peer b.toNat).state ≠ .excluded then s.written.withReply 12 (some .notApplicable) false
    else if (s.peer b.toNat).lastEpoch = s.station.epoch ∧ (s.peer b.toNat).discarded = 0 ∧
      s.beyondReleasePoint (s.peer b.toNat).horizon = true then
      (s.written.includeAct b.toNat).withReply 12 none false
    else s.written.withReply 12 (some .notNow) false) := by
  have test : s.written.commandTest (.includePeer 1 b) = s.ownTest (.includePeer 1 b) :=
    (State.commandTest_peer (s := s.written) hs hb).2
  rw [State.ownTest_includePeer] at test
  refine (s.exec_commandRow (.includePeer 1 b)).trans (congrArg _ ?_)
  split_ifs at test ⊢
  · exact State.submit_refused_of_free h (.inl hp) test
  · exact State.submit_accepted_of_free h (.inl hp) (fun _ => Command.noConfusion) test
  · exact State.submit_refused_of_free h (.inl hp) test

end

/-- Settles O40: each command by its own test, and its effect by what it writes in the peer's entry and what is re-formed
after it. -/
theorem peersAreExcludedAndIncluded : Obligations.PeersAreExcludedAndIncluded := by
  refine ⟨fun s b hw hp => ?_, fun s b h hp hs hb => ?_⟩
  · have waits (c : Command) (hc : waitsForProcessing c = true) : exec (commandRow c) s = _ :=
      (s.exec_commandRow c).trans
        (congrArg _ (State.submit_waits hw (State.canDecide_eq_false_of_processing hp hc)))
    exact ⟨waits (.excludePeer 1 b) rfl, waits (.includePeer 1 b) rfl⟩
  have hn : b.toNat < 16 := Nat.lt_succ_of_le hb
  rw [State.exec_excludePeer h hp hs hb, State.exec_includePeer h hp hs hb]
  have beyond := s.beyondReleasePoint_iff (s.peer b.toNat).horizon
  refine ⟨fun counted => ?_, fun uncounted => ?_, fun other => ?_, fun excluded refused => ?_,
    fun excluded heard whole above => ?_⟩
  · rw [if_pos counted]
    have reformed := s.reformed_excludeAct b.toNat
    have frame := s.written.excludeAct_frame b.toNat
    have peer := s.written.peer_excludeAct b.toNat
    have delivery : (s.written.excludeAct b.toNat).delivery = s.delivery := State.settleComplete_delivery _ _
    refine ⟨_, rfl, ?_, State.withReply_delivery delivery reformed.epoch 11, ?_, fun n hn => ?_,
      reformed.withReply 11 none false⟩
    · exact congrArg (fun v : State => { v with
        delivery := ((s.written.excludeAct b.toNat).withReply 11 none false).delivery }) frame
    · exact (peer b.toNat).trans (if_pos ⟨rfl, hn⟩)
    · exact (peer n).trans (if_neg fun same => hn same.1)
  · rw [if_neg (Bool.eq_false_iff.1 uncounted)]
  · rw [if_pos other]
  · rw [if_neg (not_not_intro excluded), if_neg (by rwa [beyond])]
  · rw [if_neg (not_not_intro excluded), if_pos ⟨heard, whole, beyond.2 above⟩]
    have frame := s.written.includeAct_frame b.toNat
    have peer := s.written.peer_includeAct b.toNat
    have delivery : (s.written.includeAct b.toNat).delivery = s.delivery := State.settle_delivery _ _
    have station : (s.written.includeAct b.toNat).station = s.station := State.settle_station _ _
    refine ⟨_, rfl, ?_, State.withReply_delivery delivery (by rw [station]) 12, fun unended => ?_, fun ended => ?_,
      fun n hn => ?_, (s.reformed_includeAct b.toNat).withReply 12 none false⟩
    · exact congrArg (fun v : State => { v with
        delivery := ((s.written.includeAct b.toNat).withReply 12 none false).delivery }) frame
    · exact ((peer b.toNat).trans (if_pos ⟨rfl, hn⟩)).trans (Peer.toIncluded_unended unended)
    · exact ((peer b.toNat).trans (if_pos ⟨rfl, hn⟩)).trans (Peer.toIncluded_ended ended)
    · exact (peer n).trans (if_neg fun same => hn same.1)

end Sys2Proof.Machine
end

section
/-! SUPPORT. A frame processing reads and writes a few blocks alone: what it does in a state in which these stand with
others beside them. -/

namespace Sys2Proof.Machine

/-! ## What a frame processing reads and writes (R81 to R88) -/

/-- The state `b` in which what a frame processing reads and writes in `s` stands, but for the processing in flight. -/
def State.cover (b s : State) : State := { b with
  station := { b.station with time := s.station.time }
  elements := s.elements
  engine := { b.engine with releasePoint := s.engine.releasePoint }
  remotes := s.remotes
  peers := s.peers
  rx := { b.rx with buffers := s.rx.buffers }
  attention := { b.attention with
    capture := s.attention.capture, flags := { b.attention.flags with error := s.attention.flags.error } } }

/-- As `cover`, with the processing in flight in `s` too. -/
def State.coverAll (b s : State) : State := { b.cover s with processing := s.processing }

/-- The step of one change entry, its state covered. -/
def ChangeStep.map (g : State → State) : ChangeStep → ChangeStep
  | .goesOn t => .goesOn (g t)
  | .waits t r => .waits (g t) r
  | .overflowed t => .overflowed (g t)

section
variable (b s : State)

theorem State.report_cover (e : ErrorKind) (x : Option Nat) : (b.cover s).report e x = b.cover (s.report e x) := by
  have capture : (b.cover s).attention.capture.first = s.attention.capture.first := rfl
  unfold State.report
  simp only [capture]
  split <;> rfl

theorem State.updatePeer_cover (n : Nat) (g : Peer → Peer) :
    (b.cover s).updatePeer n g = b.cover (s.updatePeer n g) := rfl

theorem State.chargePeer_cover (n : Nat) (e : ErrorKind) (x : Nat) :
    (b.cover s).chargePeer n e x = b.cover (s.chargePeer n e x) := by
  rw [State.chargePeer, State.report_cover]
  rfl

theorem State.takeHorizon_cover (f : Frame) : (b.cover s).takeHorizon f = b.cover (s.takeHorizon f) := by
  have horizon : ((b.cover s).peer f.sender).horizon = (s.peer f.sender).horizon := rfl
  unfold State.takeHorizon
  rw [horizon, State.chargePeer_cover, State.updatePeer_cover]
  split <;> rfl

theorem State.takeRouted_cover (f : Frame) (c : ChangeEntry) (n : Nat) :
    (b.cover s).takeRouted f c n = (s.takeRouted f c n).map b.cover := by
  have taken : (b.cover s).alreadyTaken c (c.key f.sender) = s.alreadyTaken c (c.key f.sender) := rfl
  have late : (b.cover s).isLate (c.key f.sender) = s.isLate (c.key f.sender) := rfl
  have listed : (b.cover s).remotes = s.remotes := rfl
  unfold State.takeRouted State.overflowRemotes
  simp only [taken, late, listed, State.chargePeer_cover, State.updatePeer_cover]
  split_ifs <;> rfl

theorem State.takeChange_cover (f : Frame) (tracked : Bool) (c : ChangeEntry) :
    (b.cover s).takeChange f tracked c = (s.takeChange f tracked c).map b.cover := by
  have tie : (b.cover s).tieElement c.tie = s.tieElement c.tie := rfl
  unfold State.takeChange
  rw [tie]
  match s.tieElement c.tie with
  | none => rfl
  | some (n, e) =>
    cases ho : e.ownership with
    | localOnly => simp only [ho]; rfl
    | localTie t => simp only [ho, State.chargePeer_cover]; rfl
    | mirror t owner =>
      simp only [ho, State.chargePeer_cover, State.takeRouted_cover, State.discardRouted]
      have taken : (b.cover s).alreadyTaken c (c.key f.sender) = s.alreadyTaken c (c.key f.sender) := rfl
      rw [taken, State.updatePeer_cover]
      split_ifs <;> rfl

theorem State.finishFrame_cover (f : Frame) (tracked : Bool) :
    (b.cover s).finishFrame f tracked = b.coverAll (s.finishFrame f tracked) := by
  rw [State.finishFrame, State.takeHorizon_cover]
  rfl

theorem State.takeChanges_cover (f : Frame) (tracked : Bool) (n : Nat) (cs : List ChangeEntry) :
    State.takeChanges f tracked n cs (b.cover s) = b.coverAll (State.takeChanges f tracked n cs s) := by
  induction n, cs, s using State.takeChanges.induct (f := f) (tracked := tracked) with
  | case1 n s =>
    simp only [State.takeChanges]
    exact b.finishFrame_cover s f tracked
  | case2 c cs s => rfl
  | case3 n c cs s t ht ih => simp only [State.takeChanges, State.takeChange_cover, ht, ChangeStep.map, ih]
  | case4 n c cs s t r ht =>
    simp only [State.takeChanges, State.takeChange_cover, ht, ChangeStep.map]
    rfl
  | case5 n c cs s t ht =>
    simp only [State.takeChanges, State.takeChange_cover, ht, ChangeStep.map]
    rfl

end

end Sys2Proof.Machine
end

section
/-! SUPPORT. The form test of WATCH_SET (R135), and the refutation of the statement on commands that wait and on their tests
(O35). -/

namespace Sys2Proof.Machine

/-- Every byte is a mark kind to the decoder: one that names no mark is read as the mark `none`, not as no mark kind. -/
theorem WatchMark.ofCode_isSome (k : Byte) : (WatchMark.ofCode k).isSome = true := by
  unfold WatchMark.ofCode
  split_ifs <;> rfl

/-- So the form test of WATCH_SET is that of its length byte alone. -/
theorem commandFormHolds_watchSet (e k : Byte) : commandFormHolds (.watchSet 2 e k) = true := by
  rw [commandFormHolds, WatchMark.ofCode_isSome]
  rfl

/-- Refutes O35: a WATCH_SET with mark kind 0, which names no mark, passes the form test. At reset, with a write under way,
it is REFUSED with WRONG_STATE and not with MALFORMED. -/
theorem not_commandsWaitAndAreTested : ¬ Obligations.CommandsWaitAndAreTested := by
  intro h
  let s : State := { State.reset with console := ⟨true, none, none⟩ }
  have decides : s.DecidesAtOnce := ⟨rfl, by decide⟩
  have unnamed : ¬ WellFormedCommand (.watchSet 2 3 0) := by
    rintro ⟨-, one | two⟩
    · exact absurd one (by decide)
    · exact absurd two (by decide)
  have test : s.written.commandTest (.watchSet 2 3 0) = some .wrongState :=
    State.commandTest_wrongState (commandFormHolds_watchSet 3 0) rfl
  have evaluated : exec (commandRow (.watchSet 2 3 0)) s = .next (s.written.withReply 9 (some .wrongState) false) :=
    (s.exec_commandRow _).trans (congrArg _ (State.submit_refused decides rfl test))
  have stated := (h s (.watchSet 2 3 0)).2.1 decides (.inl rfl) unnamed
  have replies : (s.written.withReply 9 (some .wrongState) false).delivery.queue =
      (s.written.withReply 9 (some .malformed) false).delivery.queue :=
    congrArg (fun t : State => t.delivery.queue) (Host.Outcome.next.inj (evaluated.symm.trans stated))
  exact absurd replies (by decide)

end Sys2Proof.Machine
end

section
/-! SUPPORT. A frame processing entry by entry (R81 to R88, R92): its sender's entry, the Remote Change List and the reports
as they stand after each part of it, and what a row re-forms at its end. -/

namespace Sys2Proof.Machine

/-! ## The state in the middle of a frame processing -/

/-- From `s` to `w` errors were reported, and nothing else was written (R139). -/
def State.OnlyReports (s w : State) : Prop := w = { s with attention := { s.attention with
  capture := w.attention.capture, flags := { s.attention.flags with error := w.attention.flags.error } } }

theorem State.OnlyReports.refl (s : State) : s.OnlyReports s := rfl

theorem State.OnlyReports.report {s w : State} (h : s.OnlyReports w) (e : ErrorKind) (x : Option Nat) :
    s.OnlyReports (w.report e x) := by
  unfold State.OnlyReports at *
  conv_rhs => rw [h]
  unfold State.report
  dsimp only
  split
  · conv_lhs => rw [h]
  · conv_lhs => rw [h]

/-- The state `s` with the reports that `w` holds, the Remote Change List `rs` and the entry `q` of peer `n`. -/
def State.entryWritten (s w : State) (rs : List RemoteEntry) (n : Nat) (q : Peer) : State :=
  { s with attention := w.attention, remotes := rs, peers := (s.setPeer n q).peers }

theorem State.setPeer_peer (s : State) (n : Nat) : s.setPeer n (s.peer n) = s := by
  have same : s.peers.setIfInBounds n (s.peer n) = s.peers := by
    ext m hm
    rw [Vector.getElem_setIfInBounds]
    split
    · rename_i hn
      subst hn
      simp [State.peer, hm]
    · rfl
  rw [State.setPeer, same]

theorem State.setPeer_setPeer (s : State) (n : Nat) (p q : Peer) : (s.setPeer n p).setPeer n q = s.setPeer n q := by
  simp only [State.setPeer, Vector.setIfInBounds_setIfInBounds]

section
variable (s : State) (n : Nat)

theorem State.entryWritten_self : s.entryWritten s s.remotes n (s.peer n) = s := by
  have same : (s.setPeer n (s.peer n)).peers = s.peers := by rw [State.setPeer_peer]
  rw [State.entryWritten, same]

variable {s n} {w : State} {rs : List RemoteEntry} {q : Peer}

theorem State.peer_entryWritten (hn : n < 16) : (s.entryWritten w rs n q).peer n = q :=
  s.peer_setPeer_self q hn

theorem State.updatePeer_entryWritten (hn : n < 16) (g : Peer → Peer) :
    (s.entryWritten w rs n q).updatePeer n g = s.entryWritten w rs n (g q) := by
  have same : (s.setPeer n q).setPeer n (g q) = s.setPeer n (g q) := s.setPeer_setPeer n q (g q)
  rw [State.updatePeer, State.peer_entryWritten hn]
  exact congrArg (fun t : State => { s with attention := w.attention, remotes := rs, peers := t.peers }) same

/-- A write of the peer's entry alone. -/
theorem State.updatePeer_eq_entryWritten (g : Peer → Peer) :
    s.updatePeer n g = s.entryWritten s s.remotes n (g (s.peer n)) := rfl

theorem State.report_entryWritten (h : s.OnlyReports w) (e : ErrorKind) (x : Option Nat) :
    (s.entryWritten w rs n q).report e x = s.entryWritten (w.report e x) rs n q := by
  have time : w.station.time = s.station.time := by rw [h]
  have attention : ((s.entryWritten w rs n q).report e x).attention = (w.report e x).attention :=
    State.report_attention_congr e x rfl time.symm
  rw [((s.entryWritten w rs n q).reported_report e x).frame, attention]
  rfl

theorem State.chargePeer_entryWritten (h : s.OnlyReports w) (hn : n < 16) (e : ErrorKind) (x : Nat) :
    (s.entryWritten w rs n q).chargePeer n e x =
      s.entryWritten (w.report e (some x)) rs n { q with errors := satSucc 65535 q.errors } := by
  rw [State.chargePeer, State.report_entryWritten h, State.updatePeer_entryWritten hn]
  rfl

theorem State.chargePeer_eq_entryWritten (hn : n < 16) (e : ErrorKind) (x : Nat) :
    s.chargePeer n e x = s.entryWritten (s.report e (some x)) s.remotes n
      { s.peer n with errors := satSucc 65535 (s.peer n).errors } := by
  have charged := State.chargePeer_entryWritten (rs := s.remotes) (q := s.peer n) (.refl s) hn e x
  rwa [State.entryWritten_self] at charged

theorem State.OnlyReports.entryWrites (h : s.OnlyReports w) : s.EntryWrites (s.entryWritten w rs n q) := by
  unfold State.OnlyReports at h
  unfold State.EntryWrites State.entryWritten
  dsimp only
  conv_lhs => rw [h]

/-- The refusals of the change entries of an ENDED peer's frame (R88). -/
theorem State.refuseChanges_entryWritten (h : s.OnlyReports w) (hn : n < 16) (cs : List ChangeEntry) :
    State.refuseChanges n cs (s.entryWritten w rs n q) =
      s.entryWritten ((fun u => u.report .lateRemote (some n))^[cs.length] w) rs n
        { q with errors := (satSucc 65535)^[cs.length] q.errors } := by
  induction cs generalizing w q with
  | nil => rfl
  | cons c cs ih =>
    rw [State.refuseChanges, State.chargePeer_entryWritten h hn, ih (h.report _ _)]
    rfl

end

theorem State.OnlyReports.iterate {s w : State} (h : s.OnlyReports w) (e : ErrorKind) (x : Option Nat) (k : Nat) :
    s.OnlyReports ((fun u => u.report e x)^[k] w) := by
  induction k generalizing w with
  | zero => exact h
  | succ k ih => exact ih (h.report e x)

/-! ## Step 5 (R88, R92) -/

theorem State.OnlyReports.backstepReported {s w : State} (h : s.OnlyReports w) (f : Frame) (stored : Nat) :
    s.OnlyReports (w.backstepReported f stored) := by
  unfold State.backstepReported
  split
  · exact h.report _ _
  · exact h

section
variable {s w : State} {rs : List RemoteEntry} {f : Frame} {q : Peer}

/-- The entry after step 5, of a frame accepted or taken while EXCLUDED. -/
def Peer.afterStep5 (q : Peer) (f : Frame) (tracked : Bool) : Peer :=
  if tracked then q.afterTracked f else q.afterFrame f

theorem State.finishFrame_entryWritten (h : s.OnlyReports w) (hn : f.sender < 16) (tracked : Bool) :
    (s.entryWritten w rs f.sender q).finishFrame f tracked =
      (s.entryWritten (w.backstepReported f q.horizon) rs f.sender (q.afterStep5 f tracked)).endProcessing := by
  rw [State.finishFrame, State.takeHorizon, State.peer_entryWritten hn]
  split
  · rename_i le
    have stored : max q.horizon f.horizon = f.horizon := max_eq_right le
    have unreported : w.backstepReported f q.horizon = w := if_neg (Nat.not_lt.2 le)
    rw [State.updatePeer_entryWritten hn, State.updatePeer_entryWritten hn, unreported]
    cases tracked <;>
      simp only [Peer.afterStep5, Peer.afterFrame, Peer.afterTracked, Peer.takeRequests, stored, Nat.not_lt.2 le,
        if_true, if_false, Bool.false_eq_true]
  · rename_i lt
    have lt : f.horizon < q.horizon := Nat.lt_of_not_le lt
    have stored : max q.horizon f.horizon = q.horizon := max_eq_left lt.le
    have reported : w.backstepReported f q.horizon = w.report .horizonBackstep (some f.sender) := if_pos lt
    rw [State.chargePeer_entryWritten h hn, State.updatePeer_entryWritten hn, reported]
    cases tracked <;>
      simp only [Peer.afterStep5, Peer.afterFrame, Peer.afterTracked, Peer.takeRequests, stored, lt, if_true, if_false,
        Bool.false_eq_true]

end

/-! ## The end of a row -/

/-- What the completion test and the rest re-form after a frame processing's writes, with the completion (R76, R124). -/
theorem State.FrameWrites.reformed {s t : State} (h : s.FrameWrites t) : ({ s with attention := { s.attention with
    capture := t.attention.capture, flags := { s.attention.flags with error := t.attention.flags.error } } } :
      State).ReformedToEnd (t.settleComplete s) := by
  unfold State.FrameWrites at h
  have attention : t.attention = { s.attention with
      capture := t.attention.capture, flags := { s.attention.flags with error := t.attention.flags.error } } := by
    rw [h]
  have station : t.station = s.station := by rw [h]
  refine State.settleComplete_reformedWith ⟨?_, ?_, attention, ?_, rfl, ⟨rfl, rfl⟩, rfl, rfl, rfl, ?_⟩ station ?_ rfl rfl
  · rw [h]
  · rw [h]
  · rw [h]
  · rw [station]
    exact id
  · rw [h]

/-- A state whose reports are the only writes of an act, with the rest re-formed after it. -/
theorem State.OnlyReports.reformed {s w t : State} (h : s.OnlyReports w) (hw : s.FrameWrites t)
    (ha : t.attention = w.attention) : w.ReformedToEnd (t.settleComplete s) := by
  have same : w = { s with attention := { s.attention with
      capture := t.attention.capture, flags := { s.attention.flags with error := t.attention.flags.error } } } := by
    rw [ha]
    exact h
  rw [same]
  exact hw.reformed

section
variable {s w : State} {rs : List RemoteEntry} {f : Frame} {q : Peer} (h : s.OnlyReports w) (hn : f.sender < 16)
include h hn

/-- A row that leaves the processing standing. -/
theorem State.OnlyReports.frameStands (pr : Processing) :
    s.FrameStands w f q pr
      (({ s.entryWritten w rs f.sender q with processing := some pr } : State).settleComplete s) := by
  let u : State := { s.entryWritten w rs f.sender q with processing := some pr }
  have frame := u.settleComplete_frame s
  have writes : s.FrameWrites u := h.entryWrites.frame.stands pr
  refine ⟨?_, ?_, fun n hm => ?_, h.reformed writes rfl⟩
  · rw [State.settleComplete_remotes, State.settleComplete_peers]
    exact frame
  · rw [State.peer_congr (u.settleComplete_peers s)]
    exact s.peer_setPeer_self q hn
  · rw [State.peer_congr (u.settleComplete_peers s)]
    exact s.peer_setPeer_of_ne q hm

/-- A row that ends the processing. -/
theorem State.OnlyReports.frameEnds :
    s.FrameEnds w f q ((s.entryWritten w rs f.sender q).endProcessing.settleComplete s) := by
  let u : State := (s.entryWritten w rs f.sender q).endProcessing
  have frame := u.settleComplete_frame s
  have writes : s.FrameWrites u := h.entryWrites.frame.endProcessing
  refine ⟨?_, ?_, fun n hm => ?_, h.reformed writes rfl⟩
  · rw [State.settleComplete_remotes, State.settleComplete_peers]
    exact frame
  · rw [State.peer_congr (u.settleComplete_peers s)]
    exact s.peer_setPeer_self q hn
  · rw [State.peer_congr (u.settleComplete_peers s)]
    exact s.peer_setPeer_of_ne q hm

end

end Sys2Proof.Machine
end

section
/-! SUPPORT. A FRAME_PROCESSING row that goes on with a frame, several in one (log entry 19), and the statement on change
entries (O59). -/

namespace Sys2Proof.Machine

/-! ## A row that goes on -/

/-- With no command waiting, a row takes the entries that are left (R81). -/
theorem State.exec_frameProcessing_continues {s : State} {pr : Processing} (hp : s.processing = some pr)
    (hh : pr.handOver = none) (ha : s.engine.apply = none) (hc : s.console.inFlight = none) (n : Nat) :
    exec (.frameProcessing n) s =
      .next ((State.takeChanges pr.frame pr.tracked n pr.remaining s).settleComplete s) := by
  have idle : ((State.takeChanges pr.frame pr.tracked n pr.remaining s).settleComplete s).console.inFlight = none := by
    rw [State.settleComplete_console, s.frameWrites_takeChanges pr.frame pr.tracked n pr.remaining]
    exact hc
  have continues : s.processFrame n = (State.takeChanges pr.frame pr.tracked n pr.remaining s).settleComplete s := by
    simp only [State.processFrame, hp, hh, ha, true_and, if_true]
    exact State.decideWaiting_none idle
  exact congrArg _ continues

/-- A row does nothing while a LATE change handed over is still to be applied (log entry 18). -/
theorem State.exec_frameProcessing_waits {s : State} {pr : Processing} (hp : s.processing = some pr)
    (h : pr.handOver.isSome = true ∨ s.engine.apply.isSome = true) (n : Nat) :
    exec (.frameProcessing n) s = .next s := by
  have waits : ¬ (pr.handOver = none ∧ s.engine.apply = none) := by
    rintro ⟨hh, ha⟩
    rw [hh, ha] at h
    rcases h with h | h <;> cases h
  have still : s.processFrame n = s := by simp only [State.processFrame, hp, waits, if_false]
  exact congrArg _ still

/-! ## Several rows in one (log entry 19) -/

/-- From `s` to `t` nothing was written but what the end of an act re-forms, and what its completion test writes. -/
def State.Settles (s t : State) : Prop := t = { s with
  station := t.station, engine := { s.engine with completeOwed := t.engine.completeOwed }
  horizon := t.horizon, clock := t.clock, attention := t.attention, tx := t.tx }

theorem State.settles_settleComplete (s b : State) : s.Settles (s.settleComplete b) := s.settleComplete_frame b

theorem State.Settles.symm {s t : State} (h : s.Settles t) : t.Settles s := by
  unfold State.Settles at *
  rw [h]

theorem State.Settles.trans {s t u : State} (h : s.Settles t) (h' : t.Settles u) : s.Settles u := by
  unfold State.Settles at *
  rw [h', h]

/-- What an act re-forms at its end leaves the station time and the error capture. -/
theorem State.settleComplete_reports (s b : State) : (s.settleComplete b).station.time = s.station.time ∧
    (s.settleComplete b).attention.capture = s.attention.capture ∧
    (s.settleComplete b).attention.flags.error = s.attention.flags.error := by
  rw [State.settleComplete_eq, State.wantFrame_attention, State.wantFrame_station, State.reformLink_station,
    State.testCompletion_spec]
  split <;> rw [State.retimed_spec] <;> exact ⟨rfl, rfl, rfl⟩

/-- What stands in `b` already. -/
theorem State.cover_eq_self {b s : State} (time : b.station.time = s.station.time) (elements : b.elements = s.elements)
    (point : b.engine.releasePoint = s.engine.releasePoint) (remotes : b.remotes = s.remotes)
    (peers : b.peers = s.peers) (buffers : b.rx.buffers = s.rx.buffers)
    (capture : b.attention.capture = s.attention.capture)
    (error : b.attention.flags.error = s.attention.flags.error) : b.cover s = b := by
  simp only [State.cover, ← time, ← elements, ← point, ← remotes, ← peers, ← buffers, ← capture, ← error]

theorem State.settleComplete_cover (s b : State) : (s.settleComplete b).cover s = s.settleComplete b := by
  obtain ⟨time, capture, error⟩ := s.settleComplete_reports b
  have point : (s.settleComplete b).engine.releasePoint = s.engine.releasePoint := by rw [s.settleComplete_frame b]
  exact State.cover_eq_self time (s.settleComplete_elements b) point (s.settleComplete_remotes b)
    (s.settleComplete_peers b) (by rw [State.settleComplete_rx]) capture error

theorem State.Settles.coverAll {s t : State} (h : s.Settles t) (x : State) : (s.coverAll x).Settles (t.coverAll x) := by
  unfold State.Settles at *
  rw [h]
  rfl

theorem State.FrameWrites.coverAll {s t : State} (h : s.FrameWrites t) : s.coverAll t = t := by
  unfold State.FrameWrites at h
  rw [h]
  rfl

/-- A row that goes on after one that left the processing standing does what the two do in one act (log entry 19). -/
theorem State.sameInOneRow {s x : State} (hx : s.EntryWrites x) (ha : s.engine.apply = none)
    (hc : s.console.inFlight = none) {f : Frame} {tracked : Bool} {cs : List ChangeEntry} {n : Nat} {u : State}
    (hu : exec (.frameProcessing n)
      (({ x with processing := some ⟨f, cs, tracked, none⟩ } : State).settleComplete s) = .next u) :
    s.SameInOneRow u ((State.takeChanges f tracked n cs x).settleComplete s) := by
  let p : State := { x with processing := some ⟨f, cs, tracked, none⟩ }
  let t := p.settleComplete s
  let y := State.takeChanges f tracked n cs x
  have taken : State.takeChanges f tracked n cs t = t.coverAll y := by
    have stands : t = t.cover x := (p.settleComplete_cover s).symm
    conv_lhs => rw [stands]
    exact t.takeChanges_cover x f tracked n cs
  have row : u = (t.coverAll y).settleComplete t := by
    have apply_none : t.engine.apply = none := by
      rw [show t.engine = _ from congrArg State.engine (p.settleComplete_frame s)]
      show x.engine.apply = none
      rw [hx]
      exact ha
    have uncommanded : t.console.inFlight = none := by
      rw [show t.console = _ from p.settleComplete_console s]
      show x.console.inFlight = none
      rw [hx]
      exact hc
    have next := State.exec_frameProcessing_continues (s := t) (p.settleComplete_processing s) rfl apply_none
      uncommanded n
    rw [← taken]
    exact Host.Outcome.next.inj (hu.symm.trans next)
  have writes : x.FrameWrites y := State.frameWrites_takeChanges f tracked n cs x
  have below : p.FrameWrites y := by
    unfold State.FrameWrites at writes ⊢
    rw [writes]
  obtain ⟨-, capture, error⟩ := (t.coverAll y).settleComplete_reports t
  refine ⟨?_, ?_⟩
  · have covered : y.Settles (t.coverAll y) := below.coverAll ▸ (p.settles_settleComplete s).coverAll y
    have settled : y.Settles u := row ▸ covered.trans (State.settles_settleComplete _ t)
    exact settled.symm.trans (y.settles_settleComplete s)
  · rw [row, capture, error]
    exact (hx.frame.trans writes).reformed

/-! ## The way of one change entry (R84 to R87, R92) -/

theorem State.alreadyTaken_iff (s : State) (c : ChangeEntry) (k : Key) : s.alreadyTaken c k = true ↔
    c.carried = true ∧ ∃ rp, s.engine.releasePoint = some rp ∧ (k.lt rp = true ∨ k = rp) := by
  unfold State.alreadyTaken
  cases s.engine.releasePoint <;> simp [Key.le_iff]

theorem State.isLate_iff (s : State) (k : Key) :
    s.isLate k = true ↔ ∃ rp, s.engine.releasePoint = some rp ∧ k.lt rp = true := by
  unfold State.isLate
  cases s.engine.releasePoint <;> simp

theorem any_remote_iff (rs : List RemoteEntry) (k : Key) :
    (rs.any fun r => r.key == k) = true ↔ ∃ r ∈ rs, r.key = k := by
  simp only [List.any_eq_true, beq_iff_eq]

section
variable {s : State} {f : Frame} {c : ChangeEntry} {tracked : Bool}

theorem State.takeChange_untied (h : s.tieElement c.tie = none) : s.takeChange f tracked c = .goesOn s := by
  simp only [State.takeChange, h]

variable {n : Nat} {e : Element} (h : s.tieElement c.tie = some (n, e))
include h

theorem State.takeChange_localOnly (ho : e.ownership = .localOnly) : s.takeChange f tracked c = .goesOn s := by
  simp only [State.takeChange, h, ho]

theorem State.takeChange_localTie {t : Nat} (ho : e.ownership = .localTie t) :
    s.takeChange f tracked c = .goesOn (s.chargePeer f.sender .tieConflict n) := by
  simp only [State.takeChange, h, ho]

theorem State.takeChange_otherOwner {t o : Nat} (ho : e.ownership = .mirror t o) (hne : o ≠ f.sender) :
    s.takeChange f tracked c = .goesOn (s.chargePeer f.sender .tieConflict n) := by
  simp only [State.takeChange, h, ho, hne, ne_eq, not_false_eq_true, if_true]

theorem State.takeChange_tracked {t : Nat} (ho : e.ownership = .mirror t f.sender) :
    s.takeChange f true c = .goesOn (s.discardRouted f.sender c) := by
  simp only [State.takeChange, h, ho, ne_eq, not_true_eq_false, if_false, if_true]

theorem State.takeChange_routed {t : Nat} (ho : e.ownership = .mirror t f.sender) :
    s.takeChange f false c = s.takeRouted f c n := by
  simp only [State.takeChange, h, ho, ne_eq, not_true_eq_false, if_false, Bool.false_eq_true]

end

section
variable {s : State} {f : Frame} {c : ChangeEntry} {n : Nat}

theorem State.takeRouted_taken (ht : s.alreadyTaken c (c.key f.sender) = true) :
    s.takeRouted f c n = .goesOn s := by
  simp only [State.takeRouted, ht, if_true]

variable (ht : ¬ s.alreadyTaken c (c.key f.sender) = true)
include ht

theorem State.takeRouted_late (hn : f.sender < 16) (hl : s.isLate (c.key f.sender) = true) :
    s.takeRouted f c n = .waits (s.entryWritten (s.report .lateRemote (some f.sender)) s.remotes f.sender
      { s.peer f.sender with
        changes := satSucc 65535 (s.peer f.sender).changes, errors := satSucc 65535 (s.peer f.sender).errors })
      (c.remote f.sender n) := by
  simp only [State.takeRouted, ht, hl, if_true, if_false, Bool.false_eq_true]
  rw [State.countChange, State.chargePeer_eq_entryWritten hn, State.updatePeer_entryWritten hn]
  rfl

variable (hl : ¬ s.isLate (c.key f.sender) = true)
include hl

theorem State.takeRouted_listed (hr : (s.remotes.any fun r => r.key == c.key f.sender) = true) :
    s.takeRouted f c n = .goesOn s := by
  simp only [State.takeRouted, ht, hl, hr, if_true, if_false, Bool.false_eq_true]

variable (hr : ¬ (s.remotes.any fun r => r.key == c.key f.sender) = true)
include hr

theorem State.takeRouted_overflow (hn : f.sender < 16) (full : 512 ≤ s.remotes.length) :
    s.takeRouted f c n = .overflowed (s.entryWritten (s.report .remoteOverflow (some f.sender)) s.remotes f.sender
      { s.peer f.sender with
        state := .desync, silence := none, horizon := min (s.peer f.sender).horizon c.time
        hold := f.hold, senderState := some f.senderState, errors := satSucc 65535 (s.peer f.sender).errors }) := by
  have full : remoteCapacity ≤ s.remotes.length := full
  simp only [State.takeRouted, ht, hl, hr, full, if_true, if_false, Bool.false_eq_true]
  rw [State.overflowRemotes, State.updatePeer_eq_entryWritten, State.chargePeer_entryWritten (.refl s) hn]

theorem State.takeRouted_inserted (room : s.remotes.length < 512) :
    s.takeRouted f c n = .goesOn (s.entryWritten s (insertByKey RemoteEntry.key (c.remote f.sender n) s.remotes) f.sender
      { s.peer f.sender with changes := satSucc 65535 (s.peer f.sender).changes }) := by
  have room : ¬ remoteCapacity ≤ s.remotes.length := Nat.not_le.2 room
  simp only [State.takeRouted, ht, hl, hr, room, if_false, Bool.false_eq_true]
  rfl

end

end Sys2Proof.Machine
end

section
/-! SUPPORT. The row that takes one change entry, and the statement on change entries (O59). -/

namespace Sys2Proof.Machine

section
variable {s : State} {f : Frame} {c : ChangeEntry} {cs : List ChangeEntry} {tracked : Bool}

/-- The row of one entry that is passed. -/
theorem State.entryPassed_of_goesOn {w : State} {rs : List RemoteEntry} {q : Peer} (h : s.OnlyReports w)
    (hn : f.sender < 16) (ht : s.takeChange f tracked c = .goesOn (s.entryWritten w rs f.sender q)) :
    ((State.takeChanges f tracked 1 (c :: cs) s).settleComplete s).remotes = rs ∧
      s.EntryPassed w f tracked cs q ((State.takeChanges f tracked 1 (c :: cs) s).settleComplete s) := by
  rw [State.settleComplete_remotes]
  cases cs with
  | nil =>
    simp only [State.takeChanges, ht, State.finishFrame_entryWritten h hn]
    exact ⟨rfl, fun empty => absurd rfl empty, fun _ => (h.backstepReported f q.horizon).frameEnds hn⟩
  | cons d ds =>
    simp only [State.takeChanges, ht]
    exact ⟨rfl, fun _ => h.frameStands hn _, fun empty => by cases empty⟩

/-- The row of one entry that is handed over as LATE. -/
theorem State.frameStands_of_waits {w : State} {rs : List RemoteEntry} {q : Peer} {r : RemoteEntry}
    (h : s.OnlyReports w) (hn : f.sender < 16)
    (ht : s.takeChange f tracked c = .waits (s.entryWritten w rs f.sender q) r) :
    ((State.takeChanges f tracked 1 (c :: cs) s).settleComplete s).remotes = rs ∧
      s.FrameStands w f q ⟨f, cs, tracked, some r⟩
        ((State.takeChanges f tracked 1 (c :: cs) s).settleComplete s) := by
  rw [State.settleComplete_remotes]
  simp only [State.takeChanges, ht]
  exact ⟨rfl, h.frameStands hn _⟩

/-- The row of one entry that overflows the list. -/
theorem State.frameEnds_of_overflowed {w : State} {rs : List RemoteEntry} {q : Peer} (h : s.OnlyReports w)
    (hn : f.sender < 16) (ht : s.takeChange f tracked c = .overflowed (s.entryWritten w rs f.sender q)) :
    ((State.takeChanges f tracked 1 (c :: cs) s).settleComplete s).remotes = rs ∧
      s.FrameEnds w f q ((State.takeChanges f tracked 1 (c :: cs) s).settleComplete s) := by
  rw [State.settleComplete_remotes]
  simp only [State.takeChanges, ht]
  exact ⟨rfl, h.frameEnds hn⟩

variable (ha : s.engine.apply = none) (hc : s.console.inFlight = none)
include ha hc

/-- Where the row of one entry leaves the processing standing with nothing handed over, a row of one more entry does what
the row of one entry and the rest do. -/
theorem State.sameInOneRow_of_stands {pr : Processing} {n : Nat} {u : State}
    (hp : ((State.takeChanges f tracked 1 (c :: cs) s).settleComplete s).processing = some pr)
    (hh : pr.handOver = none)
    (hu : exec (.frameProcessing n) ((State.takeChanges f tracked 1 (c :: cs) s).settleComplete s) = .next u) :
    s.SameInOneRow u ((State.takeChanges f tracked (n + 1) (c :: cs) s).settleComplete s) := by
  have writes := s.entryWrites_takeChange f tracked c
  rw [State.settleComplete_processing] at hp
  match ht : s.takeChange f tracked c with
  | .goesOn x =>
    rw [ht] at writes
    simp only [State.takeChanges, ht] at hp hu ⊢
    cases cs with
    | nil => cases hp
    | cons d ds => exact State.sameInOneRow writes ha hc hu
  | .waits x r =>
    simp only [State.takeChanges, ht] at hp
    cases hp
    cases hh
  | .overflowed x =>
    simp only [State.takeChanges, ht] at hp
    cases hp

omit ha hc in
/-- Elsewhere a row of more entries is the row of one. -/
theorem State.takeChanges_succ_of_ends (n : Nat)
    (hp : ∀ pr, ((State.takeChanges f tracked 1 (c :: cs) s).settleComplete s).processing = some pr →
      pr.handOver.isSome = true) :
    State.takeChanges f tracked (n + 1) (c :: cs) s = State.takeChanges f tracked 1 (c :: cs) s := by
  rw [State.settleComplete_processing] at hp
  match ht : s.takeChange f tracked c with
  | .goesOn x =>
    simp only [State.takeChanges, ht] at hp ⊢
    cases cs with
    | nil => simp only [State.takeChanges]
    | cons d ds => exact absurd (hp _ rfl) Bool.false_ne_true
  | .waits x r => simp only [State.takeChanges, ht]
  | .overflowed x => simp only [State.takeChanges, ht]

end

/-- Settles O59: each way of a change entry writes the Remote Change List, its sender's entry and the reports as said, and
rows of several entries are the rows of one, one after the other. -/
theorem changeEntriesAreRouted : Obligations.ChangeEntriesAreRouted := by
  intro s f c cs tracked hp ha hc hn p k passed taken listed
  have row (n : Nat) : exec (.frameProcessing n) s =
      .next ((State.takeChanges f tracked n (c :: cs) s).settleComplete s) :=
    State.exec_frameProcessing_continues hp rfl ha hc n
  refine ⟨_, row 1, fun pr stands hh n u hu => ⟨_, row (n + 1), State.sameInOneRow_of_stands ha hc stands hh hu⟩,
    fun ends n => by rw [row, State.takeChanges_succ_of_ends n ends], ?_⟩
  intro ignored conflict
  have ignores (ht : s.takeChange f tracked c = .goesOn s) : ignored := by
    have same : s.entryWritten s s.remotes f.sender p = s := s.entryWritten_self f.sender
    exact (State.entryPassed_of_goesOn (.refl s) hn (by rwa [same])).symm
  have conflicts (n : Nat) (ht : s.takeChange f tracked c = .goesOn (s.chargePeer f.sender .tieConflict n)) :
      conflict n :=
    State.entryPassed_of_goesOn (.report (.refl s) _ _) hn (ht.trans (congrArg _ (State.chargePeer_eq_entryWritten hn _ _)))
  have taken_iff : s.alreadyTaken c (c.key f.sender) = true ↔ taken := s.alreadyTaken_iff c _
  have passed_iff : s.isLate (c.key f.sender) = true ↔ passed := s.isLate_iff _
  have listed_iff : (s.remotes.any fun r => r.key == c.key f.sender) = true ↔ listed := any_remote_iff s.remotes _
  refine ⟨fun untied => ignores (State.takeChange_untied untied), fun n e tie => ⟨fun ho => ?_, ?_, ?_, ?_⟩⟩
  · exact ignores (State.takeChange_localOnly tie ho)
  · rintro ⟨t, o, ho, hne⟩
    exact conflicts n (State.takeChange_otherOwner tie ho hne)
  · rintro ⟨t, ho⟩
    exact conflicts n (State.takeChange_localTie tie ho)
  rintro ⟨t, ho⟩
  rw [← taken_iff, ← passed_iff, ← listed_iff]
  have routed (untracked : tracked = false) : s.takeChange f tracked c = s.takeRouted f c n :=
    untracked ▸ State.takeChange_routed tie ho
  refine ⟨fun ht => ?_, fun excluded ht => ?_, fun untracked ht hl => ?_, fun untracked ht hl hr => ?_,
    fun untracked ht hl hr full => ?_, fun untracked ht hl hr room => ?_⟩
  · cases htr : tracked with
    | true =>
      have still : s.discardRouted f.sender c = s := if_pos ht
      exact ignores (by rw [htr, State.takeChange_tracked tie ho, still])
    | false => exact ignores ((routed htr).trans (State.takeRouted_taken ht))
  · have discarded : s.discardRouted f.sender c = s.updatePeer f.sender Peer.discard := if_neg ht
    exact State.entryPassed_of_goesOn (.refl s) hn
      (by rw [excluded, State.takeChange_tracked tie ho, discarded]; rfl)
  · subst untracked
    exact State.frameStands_of_waits (.report (.refl s) _ _) hn
      ((routed rfl).trans (State.takeRouted_late ht hn hl))
  · exact ignores ((routed untracked).trans (State.takeRouted_listed ht hl hr))
  · exact State.frameEnds_of_overflowed (.report (.refl s) _ _) hn
      ((routed untracked).trans (State.takeRouted_overflow ht hl hr hn full))
  · exact State.entryPassed_of_goesOn (.refl s) hn ((routed untracked).trans (State.takeRouted_inserted ht hl hr room))

end Sys2Proof.Machine
end

section
/-! SUPPORT. The row that begins a frame processing (R81 to R83), and the statements on the frames accepted (O58) and on the
others (O60). -/

namespace Sys2Proof.Machine

/-! ## The sequence test (R83) -/

section
variable {p : Peer} {sequence : Nat}

theorem Peer.testSequence_inOrder (h : p.expectedSeq = none ∨ p.expectedSeq = some sequence) :
    p.testSequence sequence = .inOrder := by
  rcases h with h | h <;> simp only [Peer.testSequence, h]
  have distance : frameDistance sequence sequence = 0 := by
    unfold frameDistance
    omega
  rw [if_pos distance]

/-- No frame is in order and a repeat at once. -/
theorem Peer.not_again_of_inOrder (h : p.expectedSeq = none ∨ p.expectedSeq = some sequence) :
    p.expectedSeq ≠ some ((sequence + 1) % 256) := by
  rcases h with h | h <;> rw [h]
  · exact nofun
  · rw [ne_eq, Option.some.injEq]
    omega

variable (hs : sequence < 256)
include hs

theorem Peer.testSequence_again (h : p.expectedSeq = some ((sequence + 1) % 256)) :
    p.testSequence sequence = .again := by
  have distance : frameDistance sequence ((sequence + 1) % 256) = 255 := by
    unfold frameDistance
    omega
  simp only [Peer.testSequence, h, distance]
  rfl

theorem Peer.testSequence_gap
    (h : ∃ e, p.expectedSeq = some e ∧ e < 256 ∧ e ≠ sequence ∧ e ≠ (sequence + 1) % 256) :
    p.testSequence sequence = .gap := by
  obtain ⟨e, he, le, ne, ne'⟩ := h
  have distance : frameDistance sequence e ≠ 0 ∧ frameDistance sequence e ≠ 255 := by
    unfold frameDistance
    omega
  simp only [Peer.testSequence, he, distance, if_false]

end

/-! ## The row that begins a frame -/

theorem State.exec_frameProcessing_idle {s : State} (hp : s.processing = none)
    (h : s.rx.buffers = [] ∨ s.inService = false) (n : Nat) : exec (.frameProcessing n) s = .next s := by
  have still : s.processFrame n = s := by
    simp only [State.processFrame, hp]
    rcases h with h | h
    · rw [h]
    · rw [h]
      cases s.rx.buffers <;> rfl
  exact congrArg _ still

/-- A buffered frame of a sender is next, and no command waits. -/
structure State.FrameNext (s : State) (f : Frame) : Prop where
  processing : s.processing = none
  buffered : ∃ rest, s.rx.buffers = f :: rest
  service : s.inService = true
  uncommanded : s.console.inFlight = none
  sender : f.sender < 16

section
variable {s : State} {f : Frame} (h : s.FrameNext f) (n : Nat)
include h

theorem State.FrameNext.exec_begins : exec (.frameProcessing n) s = .next (s.beginFrame f n) := by
  obtain ⟨rest, hb⟩ := h.buffered
  have begins : s.processFrame n = s.beginFrame f n := by
    simp only [State.processFrame, h.processing, hb, h.service, if_true]
  exact congrArg _ begins

/-- A frame of the own epoch. -/
theorem State.FrameNext.exec_accepts (he : f.epoch = s.station.epoch) : exec (.frameProcessing n) s =
    .next (((s.countFrame f.sender).acceptFrame f n).settleComplete s) := by
  have idle : (((s.countFrame f.sender).acceptFrame f n).settleComplete s).console.inFlight = none := by
    rw [State.settleComplete_console, (s.countFrame f.sender).frameWrites_acceptFrame f n]
    exact h.uncommanded
  have own : f.epoch = (s.countFrame f.sender).station.epoch := he
  rw [h.exec_begins, State.beginFrame, if_pos own, State.decideWaiting_none idle]

omit h in
/-- FRAMES of the sender counts every frame (R81, step 1). -/
theorem State.countFrame_eq_entryWritten (s : State) (f : Frame) : s.countFrame f.sender =
    s.entryWritten s s.remotes f.sender { s.peer f.sender with frames := satSucc 65535 (s.peer f.sender).frames } :=
  rfl

end

/-! ## The end of a frame -/

section
variable {s w : State} {rs : List RemoteEntry} {f : Frame} {q : Peer} (h : s.OnlyReports w) (hn : f.sender < 16)
include h hn

/-- A frame with no entry left is taken (R88). -/
theorem State.OnlyReports.taken (tracked : Bool) (n : Nat) :
    s.FrameEnds (w.backstepReported f q.horizon) f (q.afterStep5 f tracked)
        ((State.takeChanges f tracked n [] (s.entryWritten w rs f.sender q)).settleComplete s) ∧
      ((State.takeChanges f tracked n [] (s.entryWritten w rs f.sender q)).settleComplete s).remotes = rs := by
  rw [State.settleComplete_remotes]
  simp only [State.takeChanges, State.finishFrame_entryWritten h hn]
  exact ⟨(h.backstepReported f q.horizon).frameEnds hn, rfl⟩

end

theorem State.takeChanges_zero {f : Frame} {tracked : Bool} {cs : List ChangeEntry} (h : cs ≠ []) (s : State) :
    State.takeChanges f tracked 0 cs s = { s with processing := some ⟨f, cs, tracked, none⟩ } := by
  cases cs with
  | nil => exact absurd rfl h
  | cons c cs => rfl

/-- The row that begins a frame and takes none of its entries, and a row that goes on after it (log entry 19). -/
theorem State.frameStands_of_rows {s : State} {f : Frame} {q : Peer} {tracked : Bool} (hn : f.sender < 16)
    (row : ∀ n, exec (.frameProcessing n) s = .next
      ((State.takeChanges f tracked n f.changes (s.entryWritten s s.remotes f.sender q)).settleComplete s))
    (some : f.changes ≠ []) (hc : s.console.inFlight = none) : ∃ t, exec (.frameProcessing 0) s = .next t ∧
      s.FrameStands s f q ⟨f, f.changes, tracked, none⟩ t ∧ t.remotes = s.remotes ∧
      (s.engine.apply = none → ∀ n u, exec (.frameProcessing n) t = .next u →
        ∃ v, exec (.frameProcessing n) s = .next v ∧ s.SameInOneRow u v) := by
  have writes : s.EntryWrites (s.entryWritten s s.remotes f.sender q) := State.OnlyReports.entryWrites (.refl s)
  have begun := row 0
  rw [State.takeChanges_zero some] at begun
  refine ⟨_, begun, State.OnlyReports.frameStands (.refl s) hn _, State.settleComplete_remotes _ _, fun ha n u hu => ?_⟩
  exact ⟨_, row n, State.sameInOneRow writes ha hc hu⟩

/-! ## Frames accepted (R83) -/

/-- The sender of an accepted frame, with the next sequence expected; a repeat leaves it. -/
theorem Peer.accepted_eq {p : Peer} {f : Frame} (hs : f.sequence < 256)
    (h : p.expectedSeq = none ∨ p.expectedSeq = some f.sequence ∨ p.expectedSeq = some ((f.sequence + 1) % 256)) :
    p.testSequence f.sequence ≠ .gap ∧ Peer.accepted f (p.testSequence f.sequence) p = { p with
      state := .active
      lastEpoch := f.epoch
      expectedSeq := if p.expectedSeq = some ((f.sequence + 1) % 256) then p.expectedSeq
        else some ((f.sequence + 1) % 256) } := by
  rcases or_assoc.2 h with inOrder | again
  · rw [Peer.testSequence_inOrder inOrder, if_neg (Peer.not_again_of_inOrder inOrder)]
    exact ⟨nofun, rfl⟩
  · rw [Peer.testSequence_again hs again, if_pos again]
    exact ⟨nofun, rfl⟩

/-- The row that begins an accepted frame takes its entries from the sender's entry as accepted. -/
theorem State.FrameNext.exec_accepted {s : State} {f : Frame} (h : s.FrameNext f) (he : f.epoch = s.station.epoch)
    (hs : f.sequence < 256) (ha : (s.peer f.sender).Accepts)
    (hq : (s.peer f.sender).expectedSeq = none ∨ (s.peer f.sender).expectedSeq = some f.sequence ∨
      (s.peer f.sender).expectedSeq = some ((f.sequence + 1) % 256)) (n : Nat) :
    exec (.frameProcessing n) s = .next ((State.takeChanges f false n f.changes
      (s.entryWritten s s.remotes f.sender { s.peer f.sender with
        state := .active
        lastEpoch := f.epoch
        frames := satSucc 65535 (s.peer f.sender).frames
        expectedSeq := if (s.peer f.sender).expectedSeq = some ((f.sequence + 1) % 256)
          then (s.peer f.sender).expectedSeq else some ((f.sequence + 1) % 256) })).settleComplete s) := by
  let q : Peer := { s.peer f.sender with frames := satSucc 65535 (s.peer f.sender).frames }
  obtain ⟨noGap, accepted⟩ := Peer.accepted_eq (p := q) hs hq
  have peer : (s.countFrame f.sender).peer f.sender = q := State.peer_entryWritten h.sender
  have taken := State.acceptFrame_of_accepts (s := s.countFrame f.sender) (f := f) n (peer ▸ ha)
  rw [h.exec_accepts n he, taken, peer, if_neg noGap, State.countFrame_eq_entryWritten,
    State.updatePeer_entryWritten h.sender, accepted]

/-- Settles O58: the row that begins an accepted frame, the row that ends one, and the rows that do nothing. -/
theorem acceptedFramesAreTaken : Obligations.AcceptedFramesAreTaken := by
  intro s f hc hn p again accepted
  refine ⟨fun rest hb hs hp he hseq ha hq => ?_, fun hp ha n => ?_,
    fun pr hp h n => State.exec_frameProcessing_waits hp h n, fun hp h n => State.exec_frameProcessing_idle hp h n⟩
  · have next : s.FrameNext f := ⟨hp, ⟨rest, hb⟩, hs, hc, hn⟩
    have row := next.exec_accepted he hseq ha hq
    refine ⟨fun some => ?_, fun empty n => ⟨_, row n, ?_⟩⟩
    · exact State.frameStands_of_rows hn row some hc
    · rw [empty]
      exact State.OnlyReports.taken (rs := s.remotes) (q := accepted) (.refl s) hn false n
  · have row := State.exec_frameProcessing_continues hp rfl ha hc n
    have same : s.entryWritten s s.remotes f.sender p = s := s.entryWritten_self f.sender
    have taken := State.OnlyReports.taken (rs := s.remotes) (q := p) (.refl s) hn false n
    rw [same] at taken
    exact ⟨_, row, taken⟩

end Sys2Proof.Machine
end

section
/-! SUPPORT. The frames that are not accepted (R82, R83, R88, R92), and their statement (O60). -/

namespace Sys2Proof.Machine

/-! ## A frame of another epoch (R82) -/

/-- The distance in which R82 follows a restart. -/
theorem State.follows_iff {s : State} (f : Frame) (he : s.station.epoch < 256) : s.follows f = true ↔
    f.restart = true ∧ s.settings.follow = true ∧ 1 ≤ (f.epoch + 256 - s.station.epoch) % 256 ∧
      (f.epoch + 256 - s.station.epoch) % 256 ≤ 127 := by
  have distance : frameDistance f.epoch s.station.epoch = (f.epoch + 256 - s.station.epoch) % 256 := by
    rw [frameDistance, Nat.mod_eq_of_lt he]
  simp only [State.follows, distance, Bool.and_eq_true, decide_eq_true_eq, and_assoc]

section
variable {s : State} {f : Frame} (h : s.FrameNext f) (n : Nat) (he : f.epoch ≠ s.station.epoch)
include h he

theorem State.FrameNext.exec_foreign (hf : ¬ s.follows f = true) : exec (.frameProcessing n) s =
    .next ((s.entryWritten s s.remotes f.sender (Peer.foreign { s.peer f.sender with
      frames := satSucc 65535 (s.peer f.sender).frames } f.epoch)).endProcessing.settleComplete s) := by
  have other : ¬ f.epoch = (s.countFrame f.sender).station.epoch := he
  have unfollowed : ¬ (s.countFrame f.sender).follows f = true := hf
  rw [h.exec_begins, State.beginFrame, if_neg other, if_neg unfollowed, State.countFrame_eq_entryWritten,
    State.updatePeer_entryWritten h.sender, State.decideWaiting_none]
  rw [State.settleComplete_console]
  exact h.uncommanded

theorem State.FrameNext.exec_follows (hf : s.follows f = true) : exec (.frameProcessing n) s =
    .next ((s.countFrame f.sender).restartAct (.peer f.sender) f.epoch) := by
  have other : ¬ f.epoch = (s.countFrame f.sender).station.epoch := he
  have follows : (s.countFrame f.sender).follows f = true := hf
  rw [h.exec_begins, State.beginFrame, if_neg other, if_pos follows, State.decideWaiting_none]
  rw [State.restartAct_eq, State.settle_console]
  exact h.uncommanded

end

/-! ## A frame of the own epoch that is not accepted (R83, R88, R92) -/

/-- The sender's entry with its frame counted. -/
def State.senderCounted (s : State) (f : Frame) : Peer :=
  { s.peer f.sender with frames := satSucc 65535 (s.peer f.sender).frames }

section
variable {s : State} {f : Frame} (h : s.FrameNext f) (n : Nat) (he : f.epoch = s.station.epoch)
include h he

/-- The row with the sender's counted entry written. -/
theorem State.FrameNext.exec_own : exec (.frameProcessing n) s =
    .next (((s.entryWritten s s.remotes f.sender (s.senderCounted f)).acceptFrame f n).settleComplete s) :=
  h.exec_accepts n he

omit he in
theorem State.FrameNext.peer_counted :
    (s.entryWritten s s.remotes f.sender (s.senderCounted f)).peer f.sender = s.senderCounted f :=
  State.peer_entryWritten h.sender

omit he in
theorem State.FrameNext.state_counted :
    ((s.entryWritten s s.remotes f.sender (s.senderCounted f)).peer f.sender).state = (s.peer f.sender).state := by
  rw [h.peer_counted]
  rfl

theorem State.FrameNext.exec_gap (ha : (s.peer f.sender).Accepts)
    (hg : (s.peer f.sender).testSequence f.sequence = .gap) : exec (.frameProcessing n) s =
    .next ((s.entryWritten (s.report .frameGap (some f.sender)) s.remotes f.sender
      { (s.senderCounted f).gapped f with errors := satSucc 65535 (s.peer f.sender).errors }).endProcessing.settleComplete
        s) := by
  have peer := h.peer_counted
  have gap : (s.senderCounted f).testSequence f.sequence = .gap := hg
  have accepts : ((s.entryWritten s s.remotes f.sender (s.senderCounted f)).peer f.sender).Accepts := by
    rw [peer]
    exact ha
  have row := State.acceptFrame_of_accepts n accepts
  rw [h.exec_own n he, row, peer, if_pos gap, State.updatePeer_entryWritten h.sender,
    State.chargePeer_entryWritten (.refl s) h.sender]
  rfl

theorem State.FrameNext.exec_notExpected (hs : (s.peer f.sender).state = .notExpected) : exec (.frameProcessing n) s =
    .next ((s.entryWritten s s.remotes f.sender
      { s.senderCounted f with lastEpoch := f.epoch }).endProcessing.settleComplete s) := by
  rw [h.exec_own n he, State.acceptFrame_of_notExpected n (h.state_counted.trans hs), State.updatePeer_entryWritten h.sender]

theorem State.FrameNext.exec_desync (hs : (s.peer f.sender).state = .desync) : exec (.frameProcessing n) s =
    .next ((s.entryWritten s s.remotes f.sender { s.senderCounted f with
      lastEpoch := f.epoch, hold := f.hold, senderState := some f.senderState }).endProcessing.settleComplete s) := by
  rw [h.exec_own n he, State.acceptFrame_of_desync n (h.state_counted.trans hs), State.updatePeer_entryWritten h.sender]

theorem State.FrameNext.exec_excluded (hs : (s.peer f.sender).state = .excluded) : exec (.frameProcessing n) s =
    .next ((State.takeChanges f true n f.changes (s.entryWritten s s.remotes f.sender
      ((s.senderCounted f).trackedSequence f ((s.peer f.sender).testSequence f.sequence)))).settleComplete s) := by
  rw [h.exec_own n he, State.acceptFrame_of_excluded n (h.state_counted.trans hs), h.peer_counted,
    State.updatePeer_entryWritten h.sender]
  rfl

theorem State.FrameNext.exec_ended (hs : (s.peer f.sender).state = .ended)
    (ho : (s.peer f.sender).testSequence f.sequence ≠ .inOrder) : exec (.frameProcessing n) s =
    .next ((s.entryWritten s s.remotes f.sender
      ((s.senderCounted f).endedSequence f ((s.peer f.sender).testSequence f.sequence))).endProcessing.settleComplete
        s) := by
  have other : (s.senderCounted f).testSequence f.sequence ≠ .inOrder := ho
  rw [h.exec_own n he, State.acceptFrame_of_ended n (h.state_counted.trans hs), h.peer_counted, if_neg other,
    State.updatePeer_entryWritten h.sender]
  rfl

theorem State.FrameNext.exec_ended_inOrder (hs : (s.peer f.sender).state = .ended)
    (ho : (s.peer f.sender).testSequence f.sequence = .inOrder) : exec (.frameProcessing n) s =
    .next ((s.entryWritten ((fun u => u.report .lateRemote (some f.sender))^[f.changes.length] s) s.remotes f.sender
      { (s.senderCounted f).endedSequence f .inOrder with
        errors := (satSucc 65535)^[f.changes.length] (s.peer f.sender).errors }).endProcessing.settleComplete s) := by
  have inOrder : (s.senderCounted f).testSequence f.sequence = .inOrder := ho
  rw [h.exec_own n he, State.acceptFrame_of_ended n (h.state_counted.trans hs), h.peer_counted, if_pos inOrder, inOrder,
    State.updatePeer_entryWritten h.sender, State.refuseChanges_entryWritten (.refl s) h.sender]
  rfl

end

/-- An EXCLUDED sender's entry before the change entries of its frame: a gap counts a change discarded (R92). -/
theorem Peer.trackedSequence_eq {p : Peer} {f : Frame} (hs : f.sequence < 256)
    (h : (p.expectedSeq = none ∨ p.expectedSeq = some f.sequence) ∨ p.expectedSeq = some ((f.sequence + 1) % 256) ∨
      ∃ e, p.expectedSeq = some e ∧ e < 256 ∧ e ≠ f.sequence ∧ e ≠ (f.sequence + 1) % 256) :
    Peer.trackedSequence f (p.testSequence f.sequence) p = { p with
      lastEpoch := f.epoch
      expectedSeq := if p.expectedSeq = some ((f.sequence + 1) % 256) then p.expectedSeq
        else some ((f.sequence + 1) % 256)
      discarded := if (p.expectedSeq = none ∨ p.expectedSeq = some f.sequence) ∨
        p.expectedSeq = some ((f.sequence + 1) % 256) then p.discarded else satSucc 65535 p.discarded } := by
  rcases h with inOrder | again | gap
  · rw [Peer.testSequence_inOrder inOrder, if_neg (Peer.not_again_of_inOrder inOrder), if_pos (.inl inOrder)]
    rfl
  · rw [Peer.testSequence_again hs again, if_pos again, if_pos (.inr again)]
    rfl
  · rw [Peer.testSequence_gap hs gap]
    obtain ⟨e, he, -, ne, ne'⟩ := gap
    have notAgain : p.expectedSeq ≠ some ((f.sequence + 1) % 256) := by
      rw [he, ne_eq, Option.some.injEq]
      exact ne'
    have notInOrder : ¬ ((p.expectedSeq = none ∨ p.expectedSeq = some f.sequence) ∨
        p.expectedSeq = some ((f.sequence + 1) % 256)) := by
      simp [he, ne, ne']
    rw [if_neg notAgain, if_neg notInOrder]
    rfl

/-- Settles O60: each kind of frame by the row that takes it. -/
theorem otherFramesAreTaken : Obligations.OtherFramesAreTaken := by
  intro s f rest hp hb hs hc hn hseq hep p ahead follows counted next inOrder again gap leaves lateReports
  have frame : s.FrameNext f := ⟨hp, ⟨rest, hb⟩, hs, hc, hn⟩
  have ends {n : Nat} {w : State} {q : Peer} (hw : s.OnlyReports w) (row : exec (.frameProcessing n) s =
      .next ((s.entryWritten w s.remotes f.sender q).endProcessing.settleComplete s)) : leaves n w q :=
    ⟨_, row, hw.frameEnds hn, State.settleComplete_remotes _ _⟩
  have follows_iff : s.follows f = true ↔ follows := State.follows_iff f hep
  have gapped (hg : gap) : p.testSequence f.sequence = .gap := Peer.testSequence_gap hseq hg
  refine ⟨fun n he hf => ?_, fun n he hf => ?_, fun he => ⟨fun n ha hg => ?_, fun n hst => ?_, fun n hst => ?_,
    fun hst => ?_, fun n hst => ⟨fun ho => ?_, fun ha => ?_, fun hg => ?_⟩⟩⟩
  · exact ends (.refl s) (frame.exec_foreign n he (mt follows_iff.1 hf))
  · refine ⟨_, frame.exec_follows n he (follows_iff.2 hf), ?_, ?_, ?_⟩
    · exact State.restarted_restartAct (s.countFrame f.sender) (.peer f.sender) f.epoch
    · rw [State.restartAct_eq, State.settle_console]
      rfl
    · rw [State.restartAct_eq, State.settle_delivery]
      rfl
  · exact ends (.report (.refl s) _ _) (frame.exec_gap n he ha (gapped hg))
  · exact ends (.refl s) (frame.exec_notExpected n he hst)
  · exact ends (.refl s) (frame.exec_desync n he hst)
  · intro q hq
    have tracked : (s.senderCounted f).trackedSequence f (p.testSequence f.sequence) = q :=
      Peer.trackedSequence_eq (p := s.senderCounted f) hseq hq
    have row (n : Nat) : exec (.frameProcessing n) s = .next ((State.takeChanges f true n f.changes
        (s.entryWritten s s.remotes f.sender q)).settleComplete s) :=
      tracked ▸ frame.exec_excluded n he hst
    refine ⟨fun empty n => ?_, fun some => State.frameStands_of_rows hn row some hc⟩
    have taken := State.OnlyReports.taken (rs := s.remotes) (q := q) (.refl s) hn true n
    rw [← empty] at taken
    exact ⟨_, row n, taken⟩
  · have reports : s.OnlyReports lateReports := State.OnlyReports.iterate (.refl s) _ _ _
    exact ends reports (frame.exec_ended_inOrder n he hst (Peer.testSequence_inOrder ho))
  · have test := Peer.testSequence_again hseq ha
    have row := frame.exec_ended n he hst (by rw [test]; exact nofun)
    rw [test] at row
    exact ends (.refl s) row
  · have row := frame.exec_ended n he hst (by rw [gapped hg]; exact nofun)
    rw [gapped hg] at row
    exact ends (.refl s) row

end Sys2Proof.Machine
end

section
/-! SUPPORT. The removal of the least head (R109, R110) as one act: when it takes place, what the release of an item writes,
and what is re-formed after it. -/

namespace Sys2Proof.Machine

theorem exec_release (s : State) : exec .release s = .next s.releaseAct := rfl

/-! ## When a head is released (R109) -/

/-- A record other than a reply is queued where more than 4 entries are free (R135). -/
theorem State.roomForRecord_iff (s : State) : s.roomForRecord = true ↔ s.delivery.queue.length < 60 := by
  unfold State.roomForRecord replyReserve deliveryCapacity
  rw [decide_eq_true_iff]
  omega

theorem State.engineIdle_iff (s : State) : s.engineIdle = true ↔ s.EngineFree := by
  simp only [State.engineIdle, Bool.and_eq_true, Option.isNone_iff_eq_none, beq_iff_eq, s.roomForRecord_iff]
  exact ⟨fun ⟨⟨⟨⟨a, b⟩, c⟩, d⟩, e⟩ => ⟨a, b, c, d, e⟩, fun ⟨a, b, c, d, e⟩ => ⟨⟨⟨⟨a, b⟩, c⟩, d⟩, e⟩⟩

theorem State.handOver_eq_none_iff (s : State) :
    s.handOver = none ↔ ∀ pr, s.processing = some pr → pr.handOver = none :=
  Option.bind_eq_none_iff

theorem State.releasable_iff (s : State) (i : Item) : s.releasable i = true ↔ s.CanRelease i.key := by
  simp only [State.releasable, Bool.and_eq_true, Bool.or_eq_true, beq_iff_eq, decide_eq_true_eq, s.engineIdle_iff,
    Option.isNone_iff_eq_none, s.handOver_eq_none_iff]
  exact ⟨fun ⟨⟨⟨⟨a, b⟩, c⟩, d⟩, e⟩ => ⟨a, b, c, d, e⟩, fun ⟨a, b, c, d, e⟩ => ⟨⟨⟨⟨a, b⟩, c⟩, d⟩, e⟩⟩

/-- The state with the head `i` removed and the step completed that waited for it (R102, R110). -/
def State.stepped (s : State) (i : Item) : State := (s.removed i).steppedTo i.key.time

theorem State.releaseAct_releases {s : State} {i : Item} (hi : s.leastHead = some i) (h : s.CanRelease i.key) :
    s.releaseAct = ((s.stepped i).releaseItem i).settleComplete s := by
  simp only [State.releaseAct, hi, if_pos ((s.releasable_iff i).2 h), State.stepped, ← State.completeStep_eq]
  rfl

theorem State.releaseAct_stays {s : State} (h : ∀ i, s.leastHead = some i → ¬ s.CanRelease i.key) :
    s.releaseAct = s := by
  unfold State.releaseAct
  split
  · rfl
  · rename_i i hi
    exact if_neg ((s.releasable_iff i).not.2 (h i hi))

/-! ## What the release of an item writes -/

/-- From `s` to `t` the element table, the source table, the timer list, the island unit and the release in flight were
written, as the release of an item does (R112, R113, R116, R118). -/
def State.ItemWrites (s t : State) : Prop :=
  t = { s with
    elements := t.elements, sources := t.sources, timers := t.timers, islands := t.islands
    engine := { s.engine with inFlight := t.engine.inFlight } }

theorem State.ItemWrites.refl (s : State) : s.ItemWrites s := rfl

theorem State.ItemWrites.trans {s t u : State} (h : s.ItemWrites t) (h' : t.ItemWrites u) : s.ItemWrites u := by
  unfold State.ItemWrites at *
  rw [h', h]

theorem State.itemWrites_handleTravel (s : State) (n : Nat) (e : Element) (prev : Position) (t : Nat) :
    s.ItemWrites (s.handleTravel n e prev t).1 := by
  unfold State.handleTravel
  split_ifs
  · rfl
  · rfl
  · rfl
  · split <;> rfl
  · rfl
  · rfl

theorem State.itemWrites_handleChatter (s : State) (n : Nat) (e : Element) (t : Nat) :
    s.ItemWrites (s.handleChatter n e t).1 := by
  unfold State.handleChatter
  split
  · rfl
  · dsimp only
    split_ifs <;> rfl

theorem State.itemWrites_applyOwn (s : State) (x : PendingEntry) (e : Element) :
    s.ItemWrites (s.applyOwn x e).state := by
  unfold State.applyOwn
  dsimp only
  split
  · rfl
  · refine .trans (.trans ?_ (State.itemWrites_handleTravel _ _ _ _ _)) (State.itemWrites_handleChatter _ _ _ _)
    rfl

theorem State.itemWrites_afterRecord (s : State) (r : ReleaseInFlight) : s.ItemWrites (s.afterRecord r) := by
  unfold State.afterRecord
  split <;> rfl

/-- The state with the relabel started that a changed position asks for (R127). -/
def State.relabelStarted (s : State) (i : Item) (relabels : Bool) : State :=
  if relabels = true then s.startRelabel (.item i.key) else s

/-- The item goes into flight with its record owed. -/
theorem State.enterFlight_some (s : State) (i : Item) (b : RecordBody) (relabels : Bool) :
    s.enterFlight i (some b) relabels = { s.relabelStarted i relabels with
      engine := { (s.relabelStarted i relabels).engine with inFlight := some ⟨i, some b, none⟩ } } := rfl

/-- With its record suppressed the item goes on to the watch check (R118, R120). -/
theorem State.enterFlight_none (s : State) (i : Item) (relabels : Bool) :
    s.enterFlight i none relabels = (s.relabelStarted i relabels).afterRecord ⟨i, none, none⟩ := rfl

theorem State.itemWrites_enterFlight (s : State) (i : Item) (record : Option RecordBody) (relabels : Bool) :
    s.ItemWrites (s.enterFlight i record relabels) := by
  have started : s.ItemWrites (s.relabelStarted i relabels) := by
    unfold State.relabelStarted
    split <;> rfl
  refine started.trans ?_
  cases record with
  | some b => rfl
  | none => exact State.itemWrites_afterRecord _ _

theorem State.itemWrites_releaseItem (s : State) (i : Item) : s.ItemWrites (s.releaseItem i) := by
  have set (n : Nat) (e : Element) : s.ItemWrites (s.setElement n e) := rfl
  cases i with
  | own x =>
    simp only [State.releaseItem, State.releaseOwn]
    split
    · exact .refl s
    · exact (s.itemWrites_applyOwn x _).trans (State.itemWrites_enterFlight _ _ _ _)
  | remote r =>
    simp only [State.releaseItem, State.releaseRemote]
    split
    · exact .refl s
    · exact (set _ _).trans (State.itemWrites_enterFlight _ _ _ _)
  | timer k =>
    simp only [State.releaseItem, State.releaseTravel, State.releaseQuiet]
    split
    · split
      · exact .refl s
      · exact (set _ _).trans (State.itemWrites_enterFlight _ _ _ _)
    · split
      · exact .refl s
      · exact (set _ _).trans (State.itemWrites_enterFlight _ _ _ _)

/-! ## What is re-formed after it -/

/-- The step completed after a removal is the one of the state before it, and writes nothing else. -/
theorem State.stepped_frame (s : State) (i : Item) : s.stepped i = { s.removed i with
    clock := (s.steppedTo i.key.time).clock, attention := (s.steppedTo i.key.time).attention } := by
  unfold State.stepped State.steppedTo
  cases i <;> dsimp only <;> split <;> simp_all [State.removed, State.dropHead]

/-- A removal takes an item from the lists and sets the release point. -/
theorem State.removed_frame (s : State) (i : Item) : s.removed i = { s with
    pendingQueue := (s.removed i).pendingQueue, remotes := (s.removed i).remotes, timers := (s.removed i).timers
    engine := { s.engine with releasePoint := some i.key } } := by
  cases i <;> rfl

/-- What a release leaves besides what is re-formed: the removal, the completed step and the writes of the item's own
release. -/
theorem State.releaseItem_frame (s : State) (i : Item) : (s.stepped i).releaseItem i = { s with
    pendingQueue := (s.removed i).pendingQueue, remotes := (s.removed i).remotes
    timers := ((s.stepped i).releaseItem i).timers, elements := ((s.stepped i).releaseItem i).elements
    sources := ((s.stepped i).releaseItem i).sources, islands := ((s.stepped i).releaseItem i).islands
    engine := { s.engine with
      releasePoint := some i.key, inFlight := ((s.stepped i).releaseItem i).engine.inFlight }
    clock := (s.steppedTo i.key.time).clock, attention := (s.steppedTo i.key.time).attention } := by
  have written : (s.stepped i).releaseItem i = _ := (s.stepped i).itemWrites_releaseItem i
  rw [written, s.stepped_frame i, s.removed_frame i]

/-- A release re-forms what is re-formed after it, and writes the completed step there (R102). -/
theorem State.reformed_releaseAct {s : State} {i : Item} (hi : s.leastHead = some i) (h : s.CanRelease i.key) :
    s.ReformedWith (s.steppedTo i.key.time) s.releaseAct := by
  obtain ⟨lag, stall, timer, complete⟩ := s.steppedTo_keeps i.key.time
  have frame := s.releaseItem_frame i
  rw [State.releaseAct_releases hi h]
  have horizon : (s.steppedTo i.key.time).horizon = s.horizon := by rw [State.steppedTo_frame]
  have tx : (s.steppedTo i.key.time).tx = s.tx := by rw [State.steppedTo_frame]
  have station : ((s.stepped i).releaseItem i).station = s.station := by rw [frame]
  refine State.settleComplete_reformedWith ⟨?_, ?_, ?_, ?_, lag, ⟨stall, timer⟩, rfl, rfl, rfl, ?_⟩ station ?_ rfl complete
  · rw [horizon, frame]
  · rw [frame]
  · rw [frame]
  · rw [tx, frame]
  · rw [station]; exact id
  · rw [frame]

end Sys2Proof.Machine
end

section
/-! SUPPORT. The conditions that are formed from others (O8) and the monitors of lag and stall (O16): what an act re-forms,
and what it may write before that. -/

namespace Sys2Proof.Machine

/-! ## The six conditions -/

/-- What no act forms anew at its end: the transmitter before commit, START_PENDING, and BREAK under a broadcast break (R68,
R95, R104). It holds in the middle of an act too. -/
structure State.CausesSound (s : State) : Prop where
  silent : s.SilentBeforeCommit
  startPending : s.StartPendingAgrees
  broadcastBreak : s.clock.broadcastBreak = true → s.clock.causes.brk = true

/-- The conditions before the wish for a frame is formed. -/
structure State.ConditionsFormed (s : State) : Prop extends s.CausesSound where
  peerHold : s.PeerHoldAgrees
  link : s.LinkAgrees
  stallTimer : s.StallTimerAgrees

/-- All six conditions agree with what they are formed from. -/
structure State.ConditionsAgree (s : State) : Prop extends s.ConditionsFormed where
  idle : s.tx.state = .idle → ¬ s.ContentWanted

theorem State.conditionsAgree_iff (s : State) : s.ConditionsAgree ↔ s.PeerHoldAgrees ∧ s.LinkAgrees ∧
    s.SilentBeforeCommit ∧ s.StartPendingAgrees ∧ s.StallTimerAgrees ∧ s.IdleAgrees := by
  constructor
  · exact fun h => ⟨h.peerHold, h.link, h.silent, h.startPending, h.stallTimer, h.idle, h.broadcastBreak⟩
  · rintro ⟨peerHold, link, silent, startPending, stallTimer, idle, broadcastBreak⟩
    exact { silent, startPending, broadcastBreak, peerHold, link, stallTimer, idle }

/-! ## The conditions through what they are formed from -/

/-- What `State.CausesSound` speaks of. -/
def State.causeParts (s : State) :=
  (s.station.state, s.tx.state, s.clock.causes.startPending, s.clock.causes.brk, s.clock.broadcastBreak)

theorem State.CausesSound.congr {s t : State} (h : s.CausesSound) (e : t.causeParts = s.causeParts) :
    t.CausesSound := by
  simp only [State.causeParts, Prod.mk.injEq] at e
  obtain ⟨state, tx, startPending, brk, broadcastBreak⟩ := e
  refine ⟨fun hc => ?_, ⟨fun hr => ?_, fun hs => ?_⟩, fun hb => ?_⟩
  · rw [State.beforeCommit_congr state] at hc
    rw [tx]
    exact h.silent hc
  · rw [startPending]
    exact h.startPending.ready (state ▸ hr)
  · rw [startPending]
    exact h.startPending.started (state ▸ hs)
  · rw [brk]
    exact h.broadcastBreak (broadcastBreak ▸ hb)

/-- What the stall timer is formed from, with the timer. -/
def State.stallParts (s : State) :=
  (s.station.state, s.leastHead, s.clock.integer, s.horizon.safeTime, s.clock.stall, s.clock.stallTimer)

theorem State.StallTimerAgrees.congr {s t : State} (h : s.StallTimerAgrees) (e : t.stallParts = s.stallParts) :
    t.StallTimerAgrees := by
  simp only [State.stallParts, Prod.mk.injEq] at e
  obtain ⟨state, head, integer, safe, stall, timer⟩ := e
  simpa only [State.StallTimerAgrees, State.Stalls, state, head, integer, safe, stall, timer] using h

/-- The parts of the state that the six conditions speak of. -/
def State.conditionParts (s : State) :=
  (s.station.state, s.station.restartRequest, s.outgoing, (s.pendingQueue, s.remotes, s.timers), s.peers,
    (s.horizon.lw, s.horizon.safeTime), (s.tx.state, s.tx.lastSent), s.attention.linkCondition,
    s.clock.integer, s.clock.causes, s.clock.broadcastBreak, s.clock.stall, s.clock.stallTimer)

theorem State.ConditionsAgree.congr {s t : State} (h : s.ConditionsAgree) (e : t.conditionParts = s.conditionParts) :
    t.ConditionsAgree := by
  simp only [State.conditionParts, Prod.mk.injEq] at e
  obtain ⟨state, request, outgoing, ⟨queue, remotes, timers⟩, peers, ⟨lw, safe⟩, ⟨tx, lastSent⟩, link, integer, causes,
    broadcastBreak, stall, timer⟩ := e
  refine { h.toCausesSound.congr ?_ with peerHold := ?_, link := ?_, stallTimer := h.stallTimer.congr ?_, idle := ?_ }
  · simp only [State.causeParts, state, tx, causes, broadcastBreak]
  · simpa only [State.PeerHoldAgrees, peers, causes] using h.peerHold
  · simpa only [State.LinkAgrees, peers, tx, link] using h.link
  · simp only [State.stallParts, state, State.leastHead_congr queue remotes timers, integer, safe, stall, timer]
  · simpa only [State.ContentWanted, State.contentNow, State.inService, state, request, outgoing, lw, causes,
      broadcastBreak, tx, lastSent] using h.idle

/-- Some peer of the table has a property that the power-on entry has not. -/
theorem State.exists_mem_peers_iff (s : State) {P : Peer → Prop} (h : ¬ P Peer.powerOn) :
    (∃ p ∈ s.peers.toList, P p) ↔ ∃ n, P (s.peer n) := by
  constructor
  · rintro ⟨p, hp, holds⟩
    obtain ⟨n, rfl⟩ := State.exists_peer_of_mem hp
    exact ⟨n, holds⟩
  · rintro ⟨n, holds⟩
    rcases Nat.lt_or_ge n 16 with hn | hn
    · exact ⟨_, State.peer_mem hn, holds⟩
    · rw [State.peer_of_ge s hn] at holds
      exact absurd holds h

theorem State.peerHoldAgrees_iff (s : State) : s.PeerHoldAgrees ↔
    (s.clock.causes.peer = true ↔ ∃ n, (s.peer n).counted = true ∧ (s.peer n).hold = true) := by
  rw [State.PeerHoldAgrees, s.exists_mem_peers_iff (P := fun p => p.counted = true ∧ p.hold = true) (by decide)]

theorem State.linkAgrees_iff (s : State) : s.LinkAgrees ↔ (s.attention.linkCondition = true ↔
    s.tx.state.isMuted = true ∨ ∃ n, (s.peer n).state = .silent ∨ (s.peer n).state = .desync) := by
  rw [State.LinkAgrees, s.exists_mem_peers_iff (P := fun p => p.state = .silent ∨ p.state = .desync) (by decide)]

/-! ## What is re-formed after an act -/

theorem State.unserved_of_beforeCommit {s : State} (h : s.beforeCommit = true) : s.inService = false := by
  rw [State.inService_eq, h]
  rfl

theorem State.not_wanted_of_beforeCommit {s : State} (h : s.beforeCommit = true) : ¬ s.Wanted := by
  rintro (⟨service, -⟩ | ⟨service, -⟩) <;> cases (State.unserved_of_beforeCommit h).symm.trans service

/-- The wish for a frame turns an IDLE transmitter WAITING in service alone, and leaves none IDLE with a frame wanted
(R60). -/
theorem State.ConditionsFormed.wantFrame {s : State} (h : s.ConditionsFormed) : s.wantFrame.ConditionsAgree := by
  have tx : s.TxFollows s.wantFrame := State.txFollows_wantFrame rfl
  have muted : s.wantFrame.tx.state.isMuted = s.tx.state.isMuted := by
    rcases s.wantFrame_tx with same | ⟨idle, waiting⟩
    · rw [same]
    · rw [waiting, idle]
      rfl
  refine {
    startPending := ⟨h.startPending.ready, h.startPending.started⟩, broadcastBreak := h.broadcastBreak
    peerHold := h.peerHold, stallTimer := h.stallTimer
    silent := fun hc => ?_, link := ?_, idle := fun idle wanted => ?_ }
  · rw [tx.unwanted (.inr (State.not_wanted_of_beforeCommit hc))]
    exact h.silent hc
  · rw [State.LinkAgrees, muted]
    exact h.link
  · rcases s.wantFrame_tx with same | ⟨-, waiting⟩
    · cases (tx.wanted (same ▸ idle) (.inl wanted)).symm.trans idle
    · rw [waiting] at idle
      cases idle

theorem State.stallTimerAgrees_watchStall (s b : State) : (s.watchStall b).StallTimerAgrees := by
  have stalls : (s.watchStall b).Stalls ↔ s.stallHolds = true := (s.watchStall b).stallHolds_iff.symm
  have timer : (s.watchStall b).clock.stallTimer =
      if ((s.watchStall b).clock.stall || !s.stallHolds) = true then none
      else if b.horizon.safeTime = s.horizon.safeTime then some (s.clock.stallTimer.getD 0) else some 0 := rfl
  rw [State.StallTimerAgrees, stalls, timer]
  cases (s.watchStall b).clock.stall
  · cases s.stallHolds
    · simp
    · split_ifs <;> simp_all
  · simp

/-- The station that completes holds nothing that could stall. -/
theorem State.CompletionFrame.stallTimer {m r : State} (k : m.CompletionFrame r) (h : m.StallTimerAgrees) :
    r.StallTimerAgrees := by
  have parts : r.stallParts = (r.station.state, m.stallParts.2) := congrArg State.stallParts k.same
  rcases k.kept with state | ⟨-, complete, empty⟩
  · exact h.congr (by rw [parts, state]; rfl)
  · have stalled : ¬ m.Stalls := fun ⟨_, i, hi, _⟩ => by cases empty.symm.trans hi
    have timer : r.clock.stallTimer = m.clock.stallTimer := by rw [k.same]
    have replaying : ¬ r.Stalls := fun ⟨replaying, _⟩ => by cases complete.symm.trans replaying
    rw [State.StallTimerAgrees, timer]
    exact h.trans ⟨fun hs => absurd hs.1 stalled, fun hs => absurd hs.1 replaying⟩

theorem State.CompletionFrame.causes {m r : State} (k : m.CompletionFrame r) (h : m.CausesSound) : r.CausesSound := by
  have parts : r.causeParts = (r.station.state, m.causeParts.2) := congrArg State.causeParts k.same
  rcases k.kept with state | ⟨replaying, complete, -⟩
  · exact h.congr (by rw [parts, state]; rfl)
  · have clock : r.clock = m.clock := by rw [k.same]
    refine ⟨fun hc => ?_, ⟨fun ready => ?_, fun _ => ?_⟩, ?_⟩
    · rcases r.beforeCommit_iff.1 hc with hc | hc <;> cases complete.symm.trans hc
    · cases complete.symm.trans ready
    · rw [clock]
      exact h.startPending.started (.inl replaying)
    · rw [clock]
      exact h.broadcastBreak

theorem State.CausesSound.retimed {s : State} (h : s.CausesSound) (b : State) : (s.retimed b).CausesSound :=
  h.congr (by rw [State.retimed_spec]; rfl)

/-- After `settle` or `settleComplete` the conditions agree, whatever the act wrote of sound causes. `m` is the state the LINK
condition and the wish for a frame are formed on. -/
theorem State.CausesSound.agree_of {s b m : State} (h : s.CausesSound) (hm : (s.retimed b).CompletionFrame m) :
    ((m.reformLink).wantFrame).ConditionsAgree := by
  have causes : m.CausesSound := hm.causes (h.retimed b)
  have timer : m.StallTimerAgrees := hm.stallTimer (State.stallTimerAgrees_watchStall _ b)
  obtain ⟨-, peerHold, -⟩ := State.agrees_of hm
  exact State.ConditionsFormed.wantFrame { causes.congr (t := m.reformLink) rfl with
    peerHold := peerHold, link := m.reformLink_agrees, stallTimer := timer.congr rfl }

theorem State.CausesSound.settle {s : State} (h : s.CausesSound) (b : State) : (s.settle b).ConditionsAgree :=
  h.agree_of (s.retimed b).completionFrame_refl

theorem State.CausesSound.settleComplete {s : State} (h : s.CausesSound) (b : State) :
    (s.settleComplete b).ConditionsAgree :=
  h.agree_of ((s.retimed b).completionFrame_testCompletion b)

/-! ## Lag and stall over one act (R106, R107) -/

/-- The lag cause, the STALL condition and the stall timer after an act from `s` to `t`, or after a row that counts the stall
timer or lets it run out. -/
structure State.MonitorsFollow (s t : State) : Prop where
  lag : s.LagFollows t
  lagFlag : t.clock.causes.lag = true → s.clock.causes.lag = false → t.attention.flags.lag = true
  stallEnds : s.clock.stall = true → (t.clock.stall = true ↔ t.horizon.safeTime ≤ s.horizon.safeTime)
  stallBegins : s.clock.stall = false → t.clock.stall = true →
    (∃ k, s.clock.stallTimer = some k ∧ 100000 ≤ k) ∧ t.attention.flags.stall = true
  timer : ∀ k, t.clock.stallTimer = some k →
    (s.clock.stallTimer = none ∨ t.horizon.safeTime ≠ s.horizon.safeTime → k = 0) ∧
    ∀ k₀, s.clock.stallTimer = some k₀ → t.horizon.safeTime = s.horizon.safeTime → k = k₀ ∨ k = min (k₀ + 1) 100000

/-- After an act that re-forms them the monitors follow. -/
theorem State.Reformed.monitors {s w t : State} (h : s.Reformed w t) : s.MonitorsFollow t where
  lag := h.lag
  lagFlag added absent := by rw [h.lagFlag, added, absent]; exact Bool.or_true _
  stallEnds stall := h.stall.stall.trans ⟨And.right, fun safe => ⟨stall, safe⟩⟩
  stallBegins absent present := by cases absent.symm.trans (h.stall.stall.1 present).1
  timer k hk := by
    have runs : ¬ (t.clock.stall = true ∨ ¬ t.Stalls) := fun hn => by cases (h.stall.stopped hn).symm.trans hk
    have absent : t.clock.stall = false := Bool.eq_false_iff.2 fun hs => runs (.inl hs)
    have stalls : t.Stalls := not_not.1 fun hs => runs (.inr hs)
    refine ⟨fun starts => ?_, fun k₀ hk₀ safe => .inl ?_⟩
    · by_cases safe : t.horizon.safeTime = s.horizon.safeTime
      · have goesOn := hk.symm.trans (h.stall.goesOn absent stalls safe)
        rw [starts.resolve_right (not_not_intro safe)] at goesOn
        exact Option.some.inj goesOn
      · exact Option.some.inj (hk.symm.trans (h.stall.restarts absent stalls safe))
    · have goesOn := hk.symm.trans (h.stall.goesOn absent stalls safe)
      rw [hk₀] at goesOn
      exact Option.some.inj goesOn

/-- Where the lag test has no changed input it leaves the cause (R106). -/
theorem State.lagFollows_of_kept {s t : State} (head : t.leastHead = s.leastHead)
    (integer : t.clock.integer = s.clock.integer) (safe : t.horizon.safeTime = s.horizon.safeTime)
    (lag : t.clock.causes.lag = s.clock.causes.lag) : s.LagFollows t := by
  have untested : ¬ s.LagTested t := by
    rintro ⟨-, h | h | h⟩
    · exact h integer
    · exact h head
    · exact h safe
  exact ⟨fun _ => lag, fun h => absurd h untested, fun h => absurd h untested, fun h => absurd h untested⟩

/-- What the monitors speak of. -/
def State.monitorParts (s : State) :=
  (s.leastHead, s.clock.integer, s.horizon.safeTime, s.clock.causes.lag, s.clock.stall, s.clock.stallTimer)

/-- An act that writes nothing of this leaves the monitors. -/
theorem State.monitorsFollow_of_parts {s t : State} (e : t.monitorParts = s.monitorParts) : s.MonitorsFollow t := by
  simp only [State.monitorParts, Prod.mk.injEq] at e
  obtain ⟨head, integer, safe, lag, stall, timer⟩ := e
  refine ⟨State.lagFollows_of_kept head integer safe lag, fun added absent => ?_, fun present => ?_,
    fun absent present => ?_, fun k hk => ⟨fun changes => ?_, fun k₀ hk₀ _ => ?_⟩⟩
  · cases (added.symm.trans lag).trans absent
  · exact ⟨fun _ => safe.le, fun _ => stall.trans present⟩
  · cases (present.symm.trans stall).trans absent
  · rcases changes with none | changed
    · cases (hk.symm.trans timer).trans none
    · exact absurd safe changed
  · exact .inl (Option.some.inj ((hk.symm.trans timer).trans hk₀))

/-! ## Acts -/

/-- What an act from `s` has written in `u` before anything is re-formed leaves the causes sound, and the monitors of a
station in REPLAYING as they were. -/
structure State.ActWrites (s u : State) : Prop where
  causes : s.CausesSound → u.CausesSound
  monitors : s.station.state = .replaying → u.station.state = .replaying ∧ u.clock.causes.lag = s.clock.causes.lag ∧
    u.clock.stall = s.clock.stall ∧ u.clock.stallTimer = s.clock.stallTimer

/-- A whole act: it keeps the conditions, and within one epoch the monitors follow over it, in REPLAYING with no command
waiting. -/
structure State.ActAgrees (s t : State) : Prop where
  agree : s.ConditionsAgree → t.ConditionsAgree
  monitors : s.station.state = .replaying → s.console.inFlight = none → t.inService = true →
    t.station.epoch = s.station.epoch → s.MonitorsFollow t

theorem State.actWrites_of_parts {s u : State} (hs : u.station.state = s.station.state) (ht : u.tx.state = s.tx.state)
    (hc : u.clock = s.clock) : s.ActWrites u where
  causes h := h.congr (by simp only [State.causeParts, hs, ht, hc])
  monitors h := ⟨hs.trans h, by rw [hc], by rw [hc], by rw [hc]⟩

theorem State.ActWrites.refl (s : State) : s.ActWrites s := State.actWrites_of_parts rfl rfl rfl

theorem State.ActWrites.trans {s t u : State} (h : s.ActWrites t) (h' : t.ActWrites u) : s.ActWrites u where
  causes := h'.causes ∘ h.causes
  monitors hs := by
    obtain ⟨replaying, lag, stall, timer⟩ := h.monitors hs
    obtain ⟨replaying', lag', stall', timer'⟩ := h'.monitors replaying
    exact ⟨replaying', lag'.trans lag, stall'.trans stall, timer'.trans timer⟩

section
variable {s t u : State}

/-- The writes of an act, with what it re-forms compared with the state it began in. -/
theorem State.ActWrites.actBase (h : s.ActWrites u) (hr : s.station.state = .replaying) : s.ActBase
    { s with clock := u.clock, attention := u.attention, horizon := u.horizon, tx := u.tx } u s := by
  obtain ⟨replaying, lag, stall, timer⟩ := h.monitors hr
  exact ⟨rfl, rfl, rfl, rfl, lag, ⟨stall, timer⟩, rfl, rfl, rfl, fun _ => replaying⟩

theorem State.ActWrites.settle (h : s.ActWrites u) : s.ActAgrees (u.settle s) where
  agree a := (h.causes a.toCausesSound).settle s
  monitors hr _ _ _ := (State.reformed_of (h.actBase hr) (u.retimed s).completionFrame_refl (.inr hr)).monitors

theorem State.ActWrites.settleComplete (h : s.ActWrites u) : s.ActAgrees (u.settleComplete s) where
  agree a := (h.causes a.toCausesSound).settleComplete s
  monitors hr _ _ _ :=
    (State.reformed_of (h.actBase hr) ((u.retimed s).completionFrame_testCompletion s) (.inr hr)).monitors

theorem State.monitorParts_of_conditionParts (e : t.conditionParts = s.conditionParts) :
    t.monitorParts = s.monitorParts := by
  simp only [State.conditionParts, Prod.mk.injEq] at e
  obtain ⟨-, -, -, ⟨queue, remotes, timers⟩, -, ⟨-, safe⟩, -, -, integer, causes, -, stall, timer⟩ := e
  simp only [State.monitorParts, State.leastHead_congr queue remotes timers, integer, safe, causes, stall, timer]

/-- An act that writes nothing that the conditions speak of. -/
theorem State.actAgrees_kept (e : t.conditionParts = s.conditionParts) : s.ActAgrees t where
  agree h := h.congr e
  monitors _ _ _ _ := State.monitorsFollow_of_parts (State.monitorParts_of_conditionParts e)

theorem State.ActAgrees.refl (s : State) : s.ActAgrees s := State.actAgrees_kept rfl

/-- An act that leaves the monitors, and of which it is shown that it keeps the conditions. -/
theorem State.actAgrees_of_agree (h : s.ConditionsAgree → t.ConditionsAgree) (e : t.monitorParts = s.monitorParts) :
    s.ActAgrees t :=
  ⟨h, fun _ _ _ _ => State.monitorsFollow_of_parts e⟩

/-- An act outside REPLAYING, or one that ends the epoch. -/
theorem State.actAgrees_of_epoch (h : s.ConditionsAgree → t.ConditionsAgree)
    (he : s.station.state = .replaying → t.inService = true → t.station.epoch ≠ s.station.epoch) : s.ActAgrees t :=
  ⟨h, fun hr _ hs same => absurd same (he hr hs)⟩

/-- A record queued after an act. -/
theorem State.ActAgrees.enqueue (m : s.ActAgrees t) (b : RecordBody) : s.ActAgrees (t.enqueue b) where
  agree h := (m.agree h).congr rfl
  monitors hr hi hs he := by
    obtain ⟨lag, lagFlag, stallEnds, stallBegins, timer⟩ := m.monitors hr hi hs he
    exact ⟨⟨lag.untested, lag.above, lag.between, lag.below⟩, lagFlag, stallEnds, stallBegins, timer⟩

/-- An act on the state with the ports of the command unit or the queue of commands written. -/
theorem State.ActAgrees.ofPorts {c : CommandUnit} {p : List Instr}
    (m : ({ s with console := c, pending := p } : State).ActAgrees t)
    (hc : s.console.inFlight = none → c.inFlight = none) : s.ActAgrees t where
  agree h := m.agree (h.congr rfl)
  monitors hr hi hs he := by
    obtain ⟨lag, lagFlag, stallEnds, stallBegins, timer⟩ := m.monitors hr (hc hi) hs he
    exact ⟨⟨lag.untested, lag.above, lag.between, lag.below⟩, lagFlag, stallEnds, stallBegins, timer⟩

end

end Sys2Proof.Machine
end

section
/-! SUPPORT. The conditions and the monitors over the feed records, the start of an epoch and the commands. -/

namespace Sys2Proof.Machine

/-! ## The writes that acts share -/

section
variable {s t u : State}

theorem State.report_conditionParts (s : State) (k : ErrorKind) (x : Option Nat) :
    (s.report k x).conditionParts = s.conditionParts := by
  obtain ⟨frame, ⟨-, link⟩, -, -⟩ := s.reported_report k x
  have parts := congrArg State.conditionParts frame
  simp only [State.conditionParts, link] at parts ⊢
  exact parts

theorem State.actAgrees_report (s : State) (k : ErrorKind) (x : Option Nat) : s.ActAgrees (s.report k x) :=
  State.actAgrees_kept (s.report_conditionParts k x)

theorem State.actAgrees_feedWriteStart (s : State) : s.ActAgrees s.feedWriteStart := by
  unfold State.feedWriteStart
  split
  · exact State.actAgrees_kept rfl
  · exact s.actAgrees_report _ _

theorem State.actAgrees_commandWriteStart (s : State) : s.ActAgrees s.commandWriteStart := by
  unfold State.commandWriteStart
  split
  · exact s.actAgrees_report _ _
  · exact State.actAgrees_kept rfl

theorem State.actAgrees_placeAnswer (s : State) (a : Answer) : s.ActAgrees (s.placeAnswer a) := State.actAgrees_kept rfl

/-- A record is refused, ignored, or handed to its own work (R3, R5). -/
theorem State.actAgrees_receiveRecord (s : State) (kind : Byte) {verdict : Option AnswerReason} {work : State → State}
    (hw : verdict = none → s.ActAgrees (work s)) : s.ActAgrees (s.receiveRecord kind verdict work) := by
  unfold State.receiveRecord
  split
  · split
    · exact s.actAgrees_placeAnswer _
    · exact hw rfl
  · exact .refl s

end

/-! ## Feed records (file 01, file 10) -/

section
variable {s : State}

/-- Before commit neither state stalls, wants a frame or asks for START_PENDING (R145). -/
theorem State.ConditionsAgree.toLoading (h : s.ConditionsAgree) : s.toLoading.ConditionsAgree := by
  by_cases hu : s.station.state = .unconfigured
  · have loading : s.toLoading.station.state = .loading := by simp only [State.toLoading, hu, if_true]
    have before : s.toLoading.beforeCommit = true := (State.beforeCommit_iff _).2 (.inr loading)
    refine {
      silent := fun _ => h.silent (s.beforeCommit_iff.2 (.inl hu)), startPending := ⟨fun hr => ?_, fun hs => ?_⟩
      broadcastBreak := h.broadcastBreak, peerHold := h.peerHold, link := h.link
      stallTimer := h.stallTimer.trans ⟨fun hs => ?_, fun hs => ?_⟩
      idle := fun _ wanted => State.not_wanted_of_beforeCommit before (.inl wanted) }
    · cases loading.symm.trans hr
    · rcases hs with hs | hs <;> cases loading.symm.trans hs
    · cases hu.symm.trans hs.1.1
    · cases loading.symm.trans hs.1.1
  · have state : s.toLoading.station.state = s.station.state := by simp only [State.toLoading, if_neg hu]
    refine h.congr ?_
    simp only [State.conditionParts, state]
    rfl

/-- A description record taken before commit writes nothing else that the conditions speak of. -/
theorem State.actAgrees_described {t : State} (hc : s.beforeCommit = true) (e : t.conditionParts = s.conditionParts)
    (a : Answer) : s.ActAgrees (t.toLoading.placeAnswer a) := by
  refine State.actAgrees_of_epoch (fun h => (h.congr e).toLoading.congr rfl) fun hr => ?_
  rcases s.beforeCommit_iff.1 hc with h | h <;> cases h.symm.trans hr

theorem State.actAgrees_takeSettings (hc : s.beforeCommit = true) (b : SettingsBody) :
    s.ActAgrees (s.takeSettings b) := by
  refine State.actAgrees_described hc ?_ _
  rfl

theorem State.actAgrees_takeDeclare (hc : s.beforeCommit = true) (b : DeclareBody) : s.ActAgrees (s.takeDeclare b) := by
  unfold State.takeDeclare
  dsimp only
  split
  · exact s.actAgrees_placeAnswer _
  · refine State.actAgrees_described hc ?_ _
    rfl

theorem State.actAgrees_takeElement (hc : s.beforeCommit = true) (b : ElementBody) : s.ActAgrees (s.takeElement b) := by
  unfold State.takeElement
  split
  · exact s.actAgrees_placeAnswer _
  · refine State.actAgrees_described hc ?_ _
    rfl

theorem State.actAgrees_takePoint (hc : s.beforeCommit = true) (b : PointBody) : s.ActAgrees (s.takePoint b) := by
  unfold State.takePoint
  split
  · exact s.actAgrees_placeAnswer _
  · refine State.actAgrees_described hc ?_ _
    rfl

theorem State.actAgrees_takeSegment (b : SegmentBody) : s.ActAgrees (s.takeSegment b) := by
  unfold State.takeSegment
  dsimp only
  split
  · exact s.actAgrees_placeAnswer _
  · split
    · exact s.actAgrees_placeAnswer _
    · exact State.actAgrees_kept rfl

theorem State.actAgrees_takeProgress (b : ProgressBody) : s.ActAgrees (s.takeProgress b) := by
  unfold State.takeProgress
  dsimp only
  split
  · exact s.actAgrees_placeAnswer _
  · exact State.ActWrites.settle (State.actWrites_of_parts rfl rfl rfl)

theorem State.actAgrees_takeEndSource (n : Byte) : s.ActAgrees (s.takeEndSource n) := by
  unfold State.takeEndSource
  dsimp only
  split
  · exact s.actAgrees_placeAnswer _
  · exact State.ActWrites.settleComplete (State.actWrites_of_parts rfl rfl rfl)

theorem State.actAgrees_admitEvent (b : EventBody) (p : PointEntry) (position : Position) (c : SequenceClass)
    (ordinal : Nat) : s.ActAgrees (s.admitEvent b p position c ordinal) := by
  rw [State.admitEvent_eq, State.eventReports_frame]
  exact State.ActWrites.settle (State.actWrites_of_parts rfl rfl rfl)

theorem State.actAgrees_takeEvent (b : EventBody) : s.ActAgrees (s.takeEvent b) := by
  unfold State.takeEvent
  dsimp only
  split
  · exact s.actAgrees_placeAnswer _
  · split
    · exact s.actAgrees_placeAnswer _
    · split
      · exact State.actAgrees_kept (State.report_conditionParts (s.countSource _ _) _ _)
      · rename_i ordinal _ _ p _
        have admitted (c : SequenceClass) : s.ActAgrees (match s.admission b.source.toNat p.element with
            | some a =>
              (s.countSource b.source.toNat fun k => { k with deferred := satSucc max32 k.deferred }).placeAnswer a
            | none => s.admitEvent b p ((Position.ofReport b.position).getD .bad) c ordinal) := by
          split
          · exact State.actAgrees_kept rfl
          · exact State.actAgrees_admitEvent _ _ _ _ _
        split
        · exact State.actAgrees_kept (State.report_conditionParts (s.countSource _ _) _ _)
        · exact admitted .inOrder
        · exact admitted (.gap _)

theorem State.actWrites_mergeEvent (e : Intake) (x : Candidate) : s.ActWrites (s.mergeEvent e x) := by
  have counted (t : State) (q time : Nat) (h : s.ActWrites t) : s.ActWrites (t.countMerge e q time) := by
    refine h.trans ?_
    unfold State.countMerge
    dsimp only
    split <;> exact State.actWrites_of_parts rfl rfl rfl
  unfold State.mergeEvent
  dsimp only
  split
  · split
    · exact State.actWrites_of_parts rfl rfl rfl
    · exact (counted (s.confirmMatch _) _ _ (State.actWrites_of_parts rfl rfl rfl)).trans
        (State.actWrites_of_parts rfl rfl rfl)
  · exact (counted s _ _ (.refl s)).trans (State.actWrites_of_parts rfl rfl rfl)

theorem State.actAgrees_mergeAct (s : State) : s.ActAgrees s.mergeAct := by
  unfold State.mergeAct
  split
  · split
    · exact State.ActWrites.settle (State.actWrites_of_parts rfl rfl rfl)
    · exact (State.actWrites_mergeEvent _ _).settle
  · exact .refl s

end

/-! ## The start of an epoch (R146, R150, R153) -/

/-- The causes at the start of an epoch: the station is READY with START_PENDING alone (R94, R95). -/
theorem State.causesSound_of_epoch {s t : State} {start : Nat} (hs : t.station.state = .ready)
    (hc : t.clock = s.clock.epochStart start) : t.CausesSound where
  silent h := by rcases t.beforeCommit_iff.1 h with h | h <;> cases hs.symm.trans h
  startPending := ⟨fun _ => by rw [hc]; rfl, fun h => by rcases h with h | h <;> cases hs.symm.trans h⟩
  broadcastBreak h := by rw [hc] at h; cases h

theorem State.conditionsAgree_restartAct (s : State) (cause : RestartCause) (epoch : Nat) :
    (s.restartAct cause epoch).ConditionsAgree := by
  rw [State.restartAct_eq]
  exact State.CausesSound.settle (State.causesSound_of_epoch (s := s) rfl rfl) s

theorem State.actAgrees_restartAct (s : State) (cause : RestartCause) {epoch : Nat} (h : epoch ≠ s.station.epoch) :
    s.ActAgrees (s.restartAct cause epoch) :=
  State.actAgrees_of_epoch (fun _ => s.conditionsAgree_restartAct cause epoch) fun _ _ => by
    rwa [State.restartAct_epoch]

theorem State.actAgrees_commitAct {s : State} (h : s.station.state ≠ .replaying) : s.ActAgrees s.commitAct :=
  State.actAgrees_of_epoch (fun _ => State.CausesSound.settle (State.causesSound_of_epoch (s := s) rfl rfl) s)
    fun hr => absurd hr h

theorem State.actAgrees_powerOnAct (s : State) (straps : BitVec 4) : s.ActAgrees (s.powerOnAct straps) := by
  have peer (n : Nat) : (s.powerOnAct straps).peer n = Peer.powerOn := State.peer_powerOn straps.toNat n
  refine State.actAgrees_of_epoch (fun _ => ?_) fun _ hs => by cases hs
  refine {
    silent := fun _ => .inl rfl, startPending := ⟨nofun, ?_⟩, broadcastBreak := nofun
    peerHold := ?_, link := ?_, stallTimer := ?_, idle := fun _ wanted => ?_ }
  · rintro (h | h) <;> cases h
  · rw [State.peerHoldAgrees_iff]
    refine ⟨nofun, fun ⟨n, counted, _⟩ => ?_⟩
    rw [peer] at counted
    cases counted
  · rw [State.linkAgrees_iff]
    refine ⟨nofun, ?_⟩
    rintro (h | ⟨n, h⟩)
    · cases h
    · rw [peer] at h
      rcases h with h | h <;> cases h
  · exact ⟨nofun, fun h => by cases h.1.1⟩
  · cases wanted.1

/-! ## Commands (R135) -/

section
variable {s : State}

/-- START leaves READY, so no lag test and no stall watch of REPLAYING lies before it (R99). -/
theorem State.actAgrees_startAct (h : s.station.state = .ready) : s.ActAgrees s.startAct := by
  unfold State.startAct
  refine State.actAgrees_of_epoch (fun a => State.CausesSound.settle ⟨?_, ⟨?_, ?_⟩, ?_⟩ s) fun hr => ?_
  · exact fun hc => by cases hc
  · exact fun hr => by cases hr
  · exact fun _ => rfl
  · exact a.broadcastBreak
  · cases h.symm.trans hr

theorem State.actAgrees_holdAct (s : State) : s.ActAgrees s.holdAct := by
  refine State.actAgrees_of_agree (fun a => ?_) rfl
  exact State.ConditionsFormed.wantFrame { a.toConditionsFormed with
    startPending := { a.startPending with }, stallTimer := a.stallTimer.congr rfl }

theorem State.actAgrees_resumeAct (s : State) : s.ActAgrees s.resumeAct := by
  refine State.actAgrees_of_agree (fun a => ?_) rfl
  exact State.ConditionsFormed.wantFrame { a.toConditionsFormed with
    startPending := { a.startPending with }, broadcastBreak := nofun, stallTimer := a.stallTimer.congr rfl }

theorem State.actAgrees_watchAct (s : State) (n : Nat) (m : WatchMark) : s.ActAgrees (s.watchAct n m) := by
  unfold State.watchAct
  split
  · exact State.actAgrees_kept rfl
  · exact .refl s

/-- The number of the next epoch is another one (R151). -/
theorem next_epoch_ne (n : Nat) : (n + 1) % 256 ≠ n := by omega

theorem State.actAgrees_commandEffect {c : Command} (h : s.commandTest c = none) : s.ActAgrees (s.commandEffect c) := by
  cases c with
  | start _ => exact State.actAgrees_startAct (beq_iff_eq.1 (State.accepted_of_commandTest h))
  | hold _ => exact s.actAgrees_holdAct
  | resume _ => exact s.actAgrees_resumeAct
  | watchSet _ _ _ => exact s.actAgrees_watchAct _ _
  | watchClear _ _ => exact s.actAgrees_watchAct _ _
  | excludePeer _ _ => exact State.ActWrites.settleComplete (State.actWrites_of_parts rfl rfl rfl)
  | includePeer _ _ => exact State.ActWrites.settle (State.actWrites_of_parts rfl rfl rfl)
  | restart _ _ => exact s.actAgrees_restartAct _ (next_epoch_ne _)
  | step _ => exact State.actAgrees_kept rfl
  | setRate _ _ => exact State.actAgrees_kept rfl
  | holdAt _ _ => exact State.actAgrees_kept rfl
  | skipOn _ => exact State.actAgrees_kept rfl
  | skipOff _ => exact State.actAgrees_kept rfl
  | snapshot _ => exact State.actAgrees_kept rfl
  | skew _ => exact State.actAgrees_kept rfl
  | clearFlags _ _ => exact State.actAgrees_kept rfl
  | mask _ _ => exact State.actAgrees_kept rfl
  | status _ => exact .refl s
  | malformed _ => exact .refl s

theorem State.actAgrees_decideCommand (s : State) (c : Command) : s.ActAgrees (s.decideCommand c) := by
  unfold State.decideCommand
  dsimp only
  split
  · exact State.actAgrees_kept rfl
  · rename_i hc
    exact State.ActAgrees.ofPorts (p := s.pending) ((State.actAgrees_commandEffect hc).enqueue _) fun _ => rfl

/-- A command that waits is decided after an act; where none waits the act is all there is. -/
theorem State.ActAgrees.decideWaiting {t : State} (m : s.ActAgrees t)
    (hc : s.console.inFlight = none → t.console.inFlight = none) : s.ActAgrees t.decideWaiting where
  agree h := by
    unfold State.decideWaiting
    split
    · split
      · exact (t.actAgrees_decideCommand _).agree (m.agree h)
      · exact m.agree h
    · exact m.agree h
  monitors hr hi := by
    rw [State.decideWaiting_none (hc hi)]
    exact m.monitors hr hi

theorem State.actAgrees_submit (s : State) (c : Command) : s.ActAgrees (s.submit c) := by
  by_cases hw : s.console.writing = true
  · rw [State.submit_spec hw]
    split
    · exact State.ActAgrees.ofPorts (p := s.pending) (s.written.actAgrees_decideCommand c) fun _ => rfl
    · exact State.actAgrees_kept rfl
  · rw [State.submit, if_neg hw]
    exact .refl s

theorem State.actAgrees_takeCommit (h : s.station.state ≠ .replaying) : s.ActAgrees s.takeCommit := by
  unfold State.takeCommit
  split
  · exact s.actAgrees_placeAnswer _
  · refine (State.actAgrees_commitAct h).decideWaiting fun hi => ?_
    have console : s.commitAct.console = s.console := State.settle_console _ _
    rw [console, hi]

end

end Sys2Proof.Machine
end

section
/-! SUPPORT. The conditions and the monitors over the link, the peer table, delivery, islands, the release engine and the
clock. -/

namespace Sys2Proof.Machine

/-! ## Link (file 04) -/

section
variable {s t u : State}

/-- The transmitter and the outgoing change set written, with the transmitter not IDLE after it and the LINK condition
formed. -/
theorem State.ConditionsAgree.transmit (h : s.ConditionsAgree) {copies : List OutgoingCopy} {tx : Transmitter}
    {attention : Attention} (busy : tx.state ≠ .idle) (silent : s.beforeCommit = true → tx.state = .muted none)
    (link : ({ s with outgoing := copies, tx := tx, attention := attention } : State).LinkAgrees) :
    ({ s with outgoing := copies, tx := tx, attention := attention } : State).ConditionsAgree where
  silent hc := .inr (silent hc)
  startPending := { h.startPending with }
  broadcastBreak := h.broadcastBreak
  peerHold := h.peerHold
  link := link
  stallTimer := h.stallTimer.congr rfl
  idle hi := absurd hi busy

/-- As `transmit`, of a transmitter muted as it was. -/
theorem State.ConditionsAgree.transmitUnmuted (h : s.ConditionsAgree) {copies : List OutgoingCopy} {tx : Transmitter}
    (busy : tx.state ≠ .idle) (service : s.inService = true) (muted : tx.state.isMuted = s.tx.state.isMuted) :
    ({ s with outgoing := copies, tx := tx } : State).ConditionsAgree := by
  refine h.transmit (attention := s.attention) busy (fun hc => ?_) ?_
  · cases (State.unserved_of_beforeCommit hc).symm.trans service
  · rw [State.LinkAgrees, muted]
    exact h.link

/-- As `transmit`, with the LINK condition re-formed. -/
theorem State.ConditionsAgree.transmitReformed (h : s.ConditionsAgree) {copies : List OutgoingCopy} {tx : Transmitter}
    {attention : Attention} (busy : tx.state ≠ .idle) (silent : s.beforeCommit = true → tx.state = .muted none) :
    ({ s with outgoing := copies, tx := tx, attention := attention } : State).reformLink.ConditionsAgree :=
  h.transmit busy silent (State.reformLink_agrees _)

/-- Before commit the transmitter is neither SENDING nor in BACKOFF nor under a timed mute (R68). -/
theorem State.ConditionsAgree.inService (h : s.ConditionsAgree) (hi : s.tx.state ≠ .idle)
    (hm : s.tx.state ≠ .muted none) : s.inService = true := by
  rw [State.inService_eq, Bool.not_eq_true']
  refine Bool.eq_false_iff.2 fun hc => ?_
  rcases h.silent hc with idle | muted
  · exact hi idle
  · exact hm muted

theorem State.actAgrees_heartbeatAct (s : State) : s.ActAgrees s.heartbeatAct := by
  unfold State.heartbeatAct
  split
  · rename_i due
    refine State.actAgrees_of_agree (fun h => ?_) rfl
    refine h.transmitUnmuted (copies := s.outgoing) nofun due.2.1 ?_
    rw [due.1]
    rfl
  · exact .refl s

theorem State.actAgrees_buildFrame (s : State) (quietBits : Nat) : s.ActAgrees (s.buildFrame quietBits) := by
  unfold State.buildFrame
  split
  · rename_i built
    refine State.actAgrees_of_agree (fun h => h.transmitUnmuted nofun built.2.2.2 ?_) rfl
    rw [built.1]
    rfl
  · exact .refl s

theorem State.actAgrees_failFrame {f : Frame} (hf : s.tx.state = .sending f) {retry : TxState} (hi : retry ≠ .idle)
    (hm : retry.isMuted = false) : s.ActAgrees (s.failFrame retry) := by
  have service (h : s.ConditionsAgree) : s.inService = true := h.inService (by rw [hf]; nofun) (by rw [hf]; nofun)
  unfold State.failFrame
  dsimp only
  split
  · rw [(State.reported_report _ _ _).frame]
    refine State.actAgrees_of_agree (fun h => h.transmitReformed nofun fun hc => ?_) rfl
    cases (State.unserved_of_beforeCommit hc).symm.trans (service h)
  · refine State.actAgrees_of_agree (fun h => h.transmitUnmuted hi (service h) ?_) rfl
    rw [hf]
    exact hm

theorem State.actAgrees_collide (s : State) (bit : Nat) : s.ActAgrees (s.collide bit) := by
  unfold State.collide
  split
  · split
    · exact State.actAgrees_failFrame ‹_› nofun rfl
    · exact .refl s
  all_goals exact .refl s

theorem State.actAgrees_transmitError (s : State) (bit : Nat) : s.ActAgrees (s.transmitError bit) := by
  unfold State.transmitError
  split
  · split
    · exact State.actAgrees_failFrame ‹_› nofun rfl
    · exact .refl s
  all_goals exact .refl s

theorem State.actAgrees_countBackoff (s : State) (quietBits : Nat) : s.ActAgrees (s.countBackoff quietBits) := by
  unfold State.countBackoff
  split
  · rename_i n hn
    refine State.actAgrees_of_agree (fun h => h.transmitUnmuted (copies := s.outgoing) ?_
      (h.inService (by rw [hn]; nofun) (by rw [hn]; nofun)) ?_) rfl
    · dsimp only
      split <;> nofun
    · rw [hn]
      dsimp only
      split <;> rfl
  all_goals exact .refl s

theorem State.actAgrees_expireMute (s : State) : s.ActAgrees s.expireMute := by
  unfold State.expireMute
  split
  · rename_i n hn
    split
    · refine State.actAgrees_of_agree (fun h => ?_) rfl
      refine h.transmitReformed (copies := s.outgoing) (attention := s.attention) nofun fun hc => ?_
      have service := h.inService (by rw [hn]; nofun) (by rw [hn]; nofun)
      cases (State.unserved_of_beforeCommit hc).symm.trans service
    · exact .refl s
  all_goals exact .refl s

/-- A frame sent whole turns the transmitter IDLE, and its end is settled (R66). -/
theorem State.actAgrees_frameSent (s : State) : s.ActAgrees s.frameSent := by
  by_cases h : ∃ f, s.tx.state = .sending f
  · obtain ⟨f, hf⟩ := h
    rw [State.frameSent_sending hf]
    refine State.ActWrites.settleComplete ⟨fun causes => ?_, fun hr => ⟨hr, rfl, rfl, rfl⟩⟩
    exact ⟨fun _ => .inl rfl, { causes.startPending with }, causes.broadcastBreak⟩
  · rw [State.frameSent_ignored fun f hf => h ⟨f, hf⟩]
    exact .refl s

theorem State.actAgrees_rejectSync (s : State) (p : Preamble) (delimiter : Byte) :
    s.ActAgrees (s.rejectSync p delimiter) := by
  unfold State.rejectSync
  split
  · exact State.actAgrees_kept (State.report_conditionParts _ _ _)
  · exact .refl s

theorem State.actAgrees_openFrame (s : State) (p : Preamble) (delimiter : Byte) :
    s.ActAgrees (s.openFrame p delimiter) := by
  unfold State.openFrame
  split
  · exact State.actAgrees_kept rfl
  · exact .refl s

theorem State.actAgrees_duplicateStation (s : State) (x : Receiver) :
    s.ActAgrees ({ s with rx := x } : State).duplicateStation := by
  unfold State.duplicateStation
  rw [(State.reported_report _ _ _).frame]
  refine State.actAgrees_of_agree (fun h => ?_) rfl
  exact State.ConditionsAgree.transmitReformed (s := { s with rx := x }) (h.congr rfl) nofun fun _ => rfl

theorem State.actAgrees_receiveFrame (s : State) (bits : Bits) (own : Bool) : s.ActAgrees (s.receiveFrame bits own) := by
  have discarded (phase : RxPhase) : s.ActAgrees (s.discardFrame phase) :=
    State.actAgrees_kept (State.report_conditionParts _ _ _)
  unfold State.receiveFrame
  split
  · split
    · exact discarded _
    · exact discarded _
    · dsimp only
      split
      · exact State.actAgrees_kept rfl
      · split
        · exact s.actAgrees_duplicateStation _
        · unfold State.placeFrame
          split
          · exact State.actAgrees_kept rfl
          · split
            · exact State.actAgrees_kept rfl
            · exact State.actAgrees_kept (State.report_conditionParts _ _ _)
  all_goals exact .refl s

/-! ## Peer table (file 05) -/

theorem State.FrameWrites.actWrites (h : s.FrameWrites u) : s.ActWrites u := by
  rw [h]
  exact State.actWrites_of_parts rfl rfl rfl

theorem State.actAgrees_beginFrame (s : State) (f : Frame) (entries : Nat) : s.ActAgrees (s.beginFrame f entries) := by
  have counted : s.FrameWrites (s.countFrame f.sender) := rfl
  have waits {t : State} (h : t.console.inFlight = s.console.inFlight) :
      s.console.inFlight = none → t.console.inFlight = none := h.trans
  unfold State.beginFrame
  dsimp only
  split
  · have taken : s.FrameWrites ((s.countFrame f.sender).acceptFrame f entries) :=
      counted.trans ((s.countFrame f.sender).frameWrites_acceptFrame f entries)
    refine taken.actWrites.settleComplete.decideWaiting (waits ?_)
    rw [State.settleComplete_console, taken]
  · rename_i other
    split
    · refine State.ActAgrees.decideWaiting ?_ (waits ?_)
      · refine State.actAgrees_of_epoch (fun _ => State.conditionsAgree_restartAct _ _ _) fun _ _ => ?_
        rw [State.restartAct_epoch]
        exact other
      · rw [State.restartAct_eq, State.settle_console]
        rfl
    · have foreign : s.FrameWrites ((s.countFrame f.sender).updatePeer f.sender fun p => p.foreign f.epoch).endProcessing :=
        rfl
      refine foreign.actWrites.settleComplete.decideWaiting (waits ?_)
      rw [State.settleComplete_console]
      rfl

theorem State.actAgrees_processFrame (s : State) (entries : Nat) : s.ActAgrees (s.processFrame entries) := by
  unfold State.processFrame
  split
  · rename_i pr _
    split
    · have taken := State.frameWrites_takeChanges pr.frame pr.tracked entries pr.remaining s
      refine taken.actWrites.settleComplete.decideWaiting fun hi => ?_
      rw [State.settleComplete_console, taken]
      exact hi
    · exact .refl s
  · split
    · exact .refl s
    · split
      · exact s.actAgrees_beginFrame _ entries
      · exact .refl s

/-- An ACTIVE peer that turns SILENT stays counted with its hold request (R80, R104). -/
theorem State.actAgrees_silencePeer (s : State) (n : Nat) : s.ActAgrees (s.silencePeer n) := by
  unfold State.silencePeer
  split
  · split
    · rename_i silent
      refine State.actAgrees_of_agree (fun h => ?_) rfl
      refine { h with
        startPending := { h.startPending with }, peerHold := ?_, link := State.reformLink_agrees _
        stallTimer := h.stallTimer.congr rfl }
      have peer (m : Nat) : ((s.updatePeer n fun p => { p with state := .silent, silence := none }).peer m).counted =
          (s.peer m).counted ∧
          ((s.updatePeer n fun p => { p with state := .silent, silence := none }).peer m).hold = (s.peer m).hold := by
        rw [State.peer_updatePeer]
        split
        · rename_i hm
          rw [hm.1]
          exact ⟨by simp only [Peer.counted, silent.1], rfl⟩
        · exact ⟨rfl, rfl⟩
      have before := s.peerHoldAgrees_iff.1 h.peerHold
      refine (State.peerHoldAgrees_iff _).2 (before.trans (exists_congr fun m => ?_))
      rw [State.peer_reformLink, (peer m).1, (peer m).2]
    · exact .refl s
  · exact .refl s

/-! ## Delivery (R98, R124, R133, R141), islands (file 08), SNAPSHOT (R122) -/

theorem State.actAgrees_beginRecord (s : State) : s.ActAgrees s.beginRecord := by
  unfold State.beginRecord
  split
  · exact .refl s
  · split
    · refine State.ActAgrees.decideWaiting (State.actAgrees_kept ?_) id
      rfl
    · exact .refl s

theorem State.actAgrees_queueHoldState (s : State) : s.ActAgrees s.queueHoldState := by
  unfold State.queueHoldState
  split
  · exact State.actAgrees_kept rfl
  · exact .refl s

theorem State.actAgrees_queueComplete (s : State) : s.ActAgrees s.queueComplete := by
  unfold State.queueComplete
  split
  · exact State.actAgrees_kept rfl
  · exact .refl s

theorem State.actAgrees_emitSkew (s : State) : s.ActAgrees s.emitSkew := by
  unfold State.emitSkew
  split
  · exact .refl s
  · split
    · exact .refl s
    · split
      · exact State.actAgrees_kept rfl
      · exact .refl s

theorem State.actWrites_endRelabel (s : State) (c : RelabelCause) : s.ActWrites (s.endRelabel c) := by
  cases c <;> exact State.actWrites_of_parts rfl rfl rfl

theorem State.actAgrees_computeRelabel (s : State) : s.ActAgrees s.computeRelabel := by
  unfold State.computeRelabel
  split
  · exact .refl s
  · split
    · exact .refl s
    · dsimp only
      split
      · refine (State.ActWrites.trans ?_ (State.actWrites_endRelabel _ _)).settleComplete
        exact State.actWrites_of_parts rfl rfl rfl
      · exact State.actAgrees_kept rfl

theorem State.actAgrees_emitIslands (s : State) : s.ActAgrees s.emitIslands := by
  unfold State.emitIslands
  split
  · exact .refl s
  · split
    · exact .refl s
    · split
      · refine (State.ActWrites.trans ?_ (State.actWrites_endRelabel (s.enqueue _) _)).settleComplete
        exact State.actWrites_of_parts rfl rfl rfl
      · exact .refl s

theorem State.actAgrees_beginEmission (s : State) : s.ActAgrees s.beginEmission := by
  unfold State.beginEmission
  split
  · exact State.actAgrees_kept rfl
  · exact .refl s

theorem State.actAgrees_emitElement (s : State) : s.ActAgrees s.emitElement := by
  unfold State.emitElement
  split
  · exact .refl s
  · exact .refl s
  · split
    · exact .refl s
    · split
      · exact State.actAgrees_kept rfl
      · exact .refl s

theorem State.actAgrees_emitLabels (s : State) : s.ActAgrees s.emitLabels := by
  unfold State.emitLabels
  split
  · exact .refl s
  · exact .refl s
  · split
    · exact State.actAgrees_kept rfl
    · exact .refl s

/-! ## The release engine (R110 to R121) and the apply step (R114) -/

theorem State.ItemWrites.actWrites (h : s.ItemWrites u) : s.ActWrites u := by
  rw [h]
  exact State.actWrites_of_parts rfl rfl rfl

/-- A completed step sets BREAK or leaves it, and leaves the monitors (R102, R103). -/
theorem State.actWrites_steppedTo (s : State) (t : Nat) : s.ActWrites (s.steppedTo t) := by
  obtain ⟨lag, stall, timer, -⟩ := s.steppedTo_keeps t
  have station : (s.steppedTo t).station = s.station := by rw [State.steppedTo_frame]
  have tx : (s.steppedTo t).tx = s.tx := by rw [State.steppedTo_frame]
  have causes : (s.steppedTo t).clock.causes.startPending = s.clock.causes.startPending ∧
      (s.steppedTo t).clock.broadcastBreak = s.clock.broadcastBreak ∧
      (s.clock.causes.brk = true → (s.steppedTo t).clock.causes.brk = true) := by
    unfold State.steppedTo
    dsimp only
    split
    · exact ⟨rfl, rfl, fun h => by rw [h]; rfl⟩
    · exact ⟨rfl, rfl, id⟩
  obtain ⟨startPending, broadcastBreak, brk⟩ := causes
  refine ⟨fun h => ⟨fun hc => ?_, ⟨fun hr => ?_, fun hs => ?_⟩, fun hb => ?_⟩, fun hr => ⟨station ▸ hr, lag, stall, timer⟩⟩
  · rw [tx]
    exact h.silent (by rwa [State.beforeCommit_congr (congrArg (·.state) station)] at hc)
  · rw [startPending]
    exact h.startPending.ready (station ▸ hr)
  · rw [startPending]
    exact h.startPending.started (station ▸ hs)
  · exact brk (h.broadcastBreak (broadcastBreak ▸ hb))

theorem State.actAgrees_releaseAct (s : State) : s.ActAgrees s.releaseAct := by
  by_cases h : ∃ i, s.leastHead = some i ∧ s.CanRelease i.key
  · obtain ⟨i, hi, can⟩ := h
    rw [State.releaseAct_releases hi can]
    have removed : s.ActWrites (s.removed i) := by
      rw [State.removed_frame]
      exact State.actWrites_of_parts rfl rfl rfl
    exact ((removed.trans (State.actWrites_steppedTo _ _)).trans
      (State.itemWrites_releaseItem _ _).actWrites).settleComplete
  · rw [State.releaseAct_stays fun i hi can => h ⟨i, hi, can⟩]
    exact .refl s

/-- A watch hit sets BREAK, with or without a broadcast break (R120). -/
theorem State.actWrites_watchHit (s : State) (m : WatchMark) : s.ActWrites (s.watchHit m) where
  causes h := ⟨h.silent, { h.startPending with }, fun _ => rfl⟩
  monitors hr := ⟨hr, rfl, rfl, rfl⟩

theorem State.actWrites_finishRecords (s : State) (r : ReleaseInFlight) : s.ActWrites (s.finishRecords r) :=
  State.actWrites_of_parts rfl rfl rfl

theorem State.actAgrees_queueReleaseRecord (s : State) : s.ActAgrees s.queueReleaseRecord := by
  have queued (b : RecordBody) : s.ActWrites (s.enqueue b) := State.actWrites_of_parts rfl rfl rfl
  unfold State.queueReleaseRecord
  split
  · exact .refl s
  · split
    · split
      · exact ((queued _).trans (State.itemWrites_afterRecord _ _).actWrites).settleComplete
      · exact (((queued _).trans (State.actWrites_watchHit _ _)).trans (State.actWrites_finishRecords _ _)).settleComplete
      · exact .refl s
    · exact .refl s

theorem State.actAgrees_lateApply (s : State) : s.ActAgrees s.lateApply := by
  unfold State.lateApply
  split
  · exact .refl s
  · split
    · split
      · exact State.actAgrees_kept rfl
      · dsimp only
        split <;> exact State.ActWrites.settleComplete (State.actWrites_of_parts rfl rfl rfl)
    · exact .refl s

/-! ## The clock (R95) and stall (R107) -/

theorem TxState.tick_isMuted (x : TxState) : x.tick.isMuted = x.isMuted := by
  unfold TxState.tick
  split <;> rfl

theorem TxState.tick_eq_idle_iff (x : TxState) : x.tick = .idle ↔ x = .idle := by
  unfold TxState.tick
  split <;> simp

/-- A tick clears no BREAK. -/
theorem State.tick_brk {s : State} (h : s.clock.causes.brk = true) : s.tick.clock.causes.brk = true := by
  rw [State.tick_frame, State.ticked]
  rcases s.countTime.clockAct_cases with ⟨integer, fraction, act⟩ | ⟨x, act⟩ <;> rw [act]
  · exact h
  · rfl

/-- A tick changes no content of a frame: BREAK, which it may set, is announced under a broadcast break alone, which it does
not set (R104). -/
theorem State.contentNow_tick (s : State) (h : s.clock.broadcastBreak = true → s.clock.causes.brk = true) :
    s.tick.contentNow = s.contentNow := by
  have hold : (s.tick.clock.causes.localHold || (s.tick.clock.causes.brk && s.tick.clock.broadcastBreak)) =
      (s.clock.causes.localHold || (s.clock.causes.brk && s.clock.broadcastBreak)) := by
    have kept : s.tick.clock.causes.localHold = s.clock.causes.localHold ∧
        s.tick.clock.broadcastBreak = s.clock.broadcastBreak := by
      rw [State.tick_clock]
      exact ⟨rfl, rfl⟩
    rw [kept.1, kept.2]
    by_cases announced : s.clock.broadcastBreak = true
    · rw [announced, h announced, State.tick_brk (h announced)]
    · rw [Bool.not_eq_true] at announced
      rw [announced, Bool.and_false, Bool.and_false]
  unfold State.contentNow
  rw [hold]
  rw [State.tick_keeps]

/-- A frame is wanted by what it would carry, by the last one sent and by the copies. -/
theorem State.ContentWanted.congr {s t : State} (content : t.contentNow = s.contentNow)
    (station : t.station.state = s.station.state) (sent : t.tx.lastSent = s.tx.lastSent)
    (outgoing : t.outgoing = s.outgoing) (h : t.ContentWanted) : s.ContentWanted := by
  simpa only [State.ContentWanted, State.inService, content, station, sent, outgoing] using h

theorem State.ConditionsAgree.tick {s : State} (h : s.ConditionsAgree) : s.tick.ConditionsAgree := by
  have state : s.tick.station.state = s.station.state := by rw [State.tick_keeps]
  have tx : s.tick.tx = { s.tx with state := s.tx.state.tick } := by rw [State.tick_keeps]; rfl
  have peer (n : Nat) : (s.tick.peer n).state = (s.peer n).state ∧ (s.tick.peer n).hold = (s.peer n).hold := by
    have ticked : s.tick.peer n = (s.peer n).tick := by
      rw [← s.peer_countTime]
      exact State.peer_congr (by rw [State.tick_keeps]) n
    rw [ticked, Peer.tick_eq]
    exact ⟨rfl, rfl⟩
  have causes : s.tick.clock.causes.startPending = s.clock.causes.startPending ∧
      s.tick.clock.causes.peer = s.clock.causes.peer ∧ s.tick.clock.broadcastBreak = s.clock.broadcastBreak ∧
      s.tick.clock.stall = s.clock.stall := by
    rw [State.tick_clock]
    exact ⟨rfl, rfl, rfl, rfl⟩
  obtain ⟨startPending, peerCause, broadcastBreak, stall⟩ := causes
  have silent : s.tick.SilentBeforeCommit := fun hc => by
    rw [State.beforeCommit_congr state] at hc
    rw [tx]
    rcases h.silent hc with idle | muted
    · exact .inl (by rw [idle]; rfl)
    · exact .inr (by rw [muted]; rfl)
  refine {
    silent := silent, startPending := ⟨fun hr => ?_, fun hs => ?_⟩, broadcastBreak := fun hb => ?_, peerHold := ?_
    link := ?_, stallTimer := ?_, idle := fun hi wanted => ?_ }
  · rw [startPending]
    exact h.startPending.ready (state ▸ hr)
  · rw [startPending]
    exact h.startPending.started (state ▸ hs)
  · exact State.tick_brk (h.broadcastBreak (broadcastBreak ▸ hb))
  · have before := s.peerHoldAgrees_iff.1 h.peerHold
    rw [State.peerHoldAgrees_iff, peerCause, before]
    refine exists_congr fun n => ?_
    rw [Peer.counted_congr (peer n).1, (peer n).2]
  · have before := s.linkAgrees_iff.1 h.link
    have condition : s.tick.attention.linkCondition = s.attention.linkCondition := by rw [State.tick_attention]
    rw [State.linkAgrees_iff, condition, before, tx]
    refine or_congr (by rw [TxState.tick_isMuted]) (exists_congr fun n => by rw [(peer n).1])
  · rw [State.StallTimerAgrees, stall, s.tick_stallTimer, ← State.stallHolds_iff]
    cases s.clock.stall <;> cases s.tick.stallHolds <;> simp
  · have transmitted := State.ContentWanted.congr (s.contentNow_tick h.broadcastBreak) (by rw [State.tick_keeps])
      (by rw [tx]) (by rw [State.tick_keeps]) wanted
    exact h.idle ((TxState.tick_eq_idle_iff _).1 (by rw [tx] at hi; exact hi)) transmitted

/-- The safe time stands through a tick, so the stall timer starts from 0 or counts one tick (R107). -/
theorem State.monitorsFollow_tick (s : State) : s.MonitorsFollow s.tick := by
  have stall : s.tick.clock.stall = s.clock.stall := by rw [State.tick_clock]
  have safe : s.tick.horizon.safeTime = s.horizon.safeTime := by rw [State.tick_keeps]
  refine ⟨s.lagFollows_tick, fun added absent => ?_, fun present => ?_, fun absent present => ?_, fun k hk => ?_⟩
  · rw [s.tick_lagFlag, added, absent]
    exact Bool.or_true _
  · exact ⟨fun _ => safe.le, fun _ => stall.trans present⟩
  · cases (present.symm.trans stall).trans absent
  · have counted : k = s.countTime.clock.stallTimer.getD 0 := by
      rw [s.tick_stallTimer] at hk
      split at hk
      · cases hk
      · exact (Option.some.inj hk).symm
    refine ⟨fun starts => ?_, fun k₀ hk₀ _ => .inr ?_⟩
    · rw [counted, State.countTime, starts.resolve_right (not_not_intro safe)]
      rfl
    · rw [counted, State.countTime, hk₀]
      rfl

theorem State.actAgrees_tick (s : State) : s.ActAgrees s.tick :=
  ⟨fun h => h.tick, fun _ _ _ _ => s.monitorsFollow_tick⟩

/-- The stall timer that has run out gives way to STALL (R107). -/
theorem State.actAgrees_stallAct (s : State) : s.ActAgrees s.stallAct := by
  by_cases h : ∃ k, s.clock.stallTimer = some k ∧ 100000 ≤ k
  · obtain ⟨k, hk, long⟩ := h
    rw [State.stallAct_stalled hk long]
    refine ⟨fun a => ?_, fun _ _ _ _ => ⟨State.lagFollows_of_kept rfl rfl rfl rfl, fun added absent => ?_,
      fun _ => ⟨fun _ => le_rfl, fun _ => rfl⟩, fun _ _ => ⟨⟨k, hk, long⟩, rfl⟩, nofun⟩⟩
    · exact { a with startPending := { a.startPending with }, stallTimer := ⟨nofun, fun stalls => by cases stalls.2⟩ }
    · cases added.symm.trans absent
  · rw [State.stallAct_ignored fun k hk => Nat.not_le.1 fun long => h ⟨k, hk, long⟩]
    exact .refl s

end

end Sys2Proof.Machine
end

section
/-! SUPPORT. Every step keeps the conditions (O8), and over every step in REPLAYING the monitors follow (O16). -/

namespace Sys2Proof.Machine

theorem State.actAgrees_takeMalformed (s : State) (kind : Byte) (received : Nat) :
    s.ActAgrees (s.takeMalformed kind received) :=
  State.actAgrees_kept rfl

/-- Every command is an act so. -/
theorem State.actAgrees_exec {s t : State} {i : Instr} (he : Machine.exec i s = .next t) : s.ActAgrees t := by
  have acts {u : State} (hu : Machine.exec i s = .next u) (m : s.ActAgrees u) : s.ActAgrees t := by
    rw [hu] at he
    cases he
    exact m
  have described {form inRange : Bool} (hv : screen form s.acceptsDescription inRange = none) : s.beforeCommit = true :=
    State.beforeCommit_of_not_inService (State.not_inService_of_acceptsDescription (accepted_of_screen hv))
  cases i with
  | powerOnReset straps => exact acts rfl (s.actAgrees_powerOnAct straps)
  | feedWriteStart => exact acts rfl s.actAgrees_feedWriteStart
  | stationSettings f b =>
    exact acts rfl (s.actAgrees_receiveRecord kindSettings fun hv => State.actAgrees_takeSettings (described hv) b)
  | declareSource f b =>
    exact acts rfl (s.actAgrees_receiveRecord kindDeclare fun hv => State.actAgrees_takeDeclare (described hv) b)
  | element f b =>
    exact acts rfl (s.actAgrees_receiveRecord kindElement fun hv => State.actAgrees_takeElement (described hv) b)
  | point f b =>
    exact acts rfl (s.actAgrees_receiveRecord kindPoint fun hv => State.actAgrees_takePoint (described hv) b)
  | commit f =>
    refine acts rfl (s.actAgrees_receiveRecord kindCommit fun hv => State.actAgrees_takeCommit fun replaying => ?_)
    cases replaying.symm.trans (beq_iff_eq.1 (accepted_of_screen hv))
  | segment f b => exact acts rfl (s.actAgrees_receiveRecord kindSegment fun _ => State.actAgrees_takeSegment b)
  | event f b => exact acts rfl (s.actAgrees_receiveRecord kindEvent fun _ => State.actAgrees_takeEvent b)
  | progress f b => exact acts rfl (s.actAgrees_receiveRecord kindProgress fun _ => State.actAgrees_takeProgress b)
  | endSource f n => exact acts rfl (s.actAgrees_receiveRecord kindEndSource fun _ => State.actAgrees_takeEndSource n)
  | malformedFeedRecord kind n =>
    exact acts rfl (s.actAgrees_receiveRecord kind fun _ => s.actAgrees_takeMalformed kind n)
  | mergeAct => exact acts rfl s.actAgrees_mergeAct
  | commandWriteStart => exact acts rfl s.actAgrees_commandWriteStart
  | start n => exact acts rfl (s.actAgrees_submit _)
  | hold n => exact acts rfl (s.actAgrees_submit _)
  | resume n => exact acts rfl (s.actAgrees_submit _)
  | step n => exact acts rfl (s.actAgrees_submit _)
  | setRate n r => exact acts rfl (s.actAgrees_submit _)
  | holdAt n w => exact acts rfl (s.actAgrees_submit _)
  | skipOn n => exact acts rfl (s.actAgrees_submit _)
  | skipOff n => exact acts rfl (s.actAgrees_submit _)
  | watchSet n e k => exact acts rfl (s.actAgrees_submit _)
  | watchClear n e => exact acts rfl (s.actAgrees_submit _)
  | excludePeer n p => exact acts rfl (s.actAgrees_submit _)
  | includePeer n p => exact acts rfl (s.actAgrees_submit _)
  | snapshot n => exact acts rfl (s.actAgrees_submit _)
  | status n => exact acts rfl (s.actAgrees_submit _)
  | skew n => exact acts rfl (s.actAgrees_submit _)
  | restart n b => exact acts rfl (s.actAgrees_submit _)
  | clearFlags n f => exact acts rfl (s.actAgrees_submit _)
  | mask n m => exact acts rfl (s.actAgrees_submit _)
  | malformedCommand k => exact acts rfl (s.actAgrees_submit _)
  | consoleReadyAssert => exact acts rfl (State.actAgrees_kept rfl)
  | consoleReadyWithdraw => exact acts rfl (State.actAgrees_kept rfl)
  | deliveryRecordBegin => exact acts rfl s.actAgrees_beginRecord
  | deliveryRecordEnd => exact acts rfl (State.actAgrees_kept rfl)
  | heartbeat => exact acts rfl s.actAgrees_heartbeatAct
  | frameBuild q => exact acts rfl (s.actAgrees_buildFrame q)
  | collision bit => exact acts rfl (s.actAgrees_collide bit)
  | transmitError bit => exact acts rfl (s.actAgrees_transmitError bit)
  | frameSentWhole => exact acts rfl s.actAgrees_frameSent
  | backoffDone q => exact acts rfl (s.actAgrees_countBackoff q)
  | muteExpiry => exact acts rfl s.actAgrees_expireMute
  | syncReject p d => exact acts rfl (s.actAgrees_rejectSync p d)
  | frameOpened p d => exact acts rfl (s.actAgrees_openFrame p d)
  | frameReceive bits own => exact acts rfl (s.actAgrees_receiveFrame bits own)
  | frameProcessing n => exact acts rfl (s.actAgrees_processFrame n)
  | peerSilenceTimeout p => exact acts rfl (s.actAgrees_silencePeer p.toNat)
  | release => exact acts rfl s.actAgrees_releaseAct
  | releaseRecordQueue => exact acts rfl s.actAgrees_queueReleaseRecord
  | lateApply => exact acts rfl s.actAgrees_lateApply
  | relabelComputed => exact acts rfl s.actAgrees_computeRelabel
  | islandsEmit => exact acts rfl s.actAgrees_emitIslands
  | snapshotEmitting => exact acts rfl s.actAgrees_beginEmission
  | elementState => exact acts rfl s.actAgrees_emitElement
  | nodeLabels => exact acts rfl s.actAgrees_emitLabels
  | skewRecord => exact acts rfl s.actAgrees_emitSkew
  | holdState => exact acts rfl s.actAgrees_queueHoldState
  | completeRecord => exact acts rfl s.actAgrees_queueComplete
  | clockAdvance => exact acts rfl s.actAgrees_tick
  | stallTimeout => exact acts rfl s.actAgrees_stallAct

theorem State.actAgrees_step {s t : State} (h : Machine.step s = .next t) : s.ActAgrees t := by
  rcases step_next h with ⟨-, rfl⟩ | ⟨i, rest, -, hi⟩
  · exact .refl t
  · exact State.ActAgrees.ofPorts (c := s.console) (p := rest) (State.actAgrees_exec hi) id

/-- Settles O8: every act forms anew, at its end, each condition whose inputs it wrote, and no act writes START_PENDING or
BREAK against what the station state and a broadcast break ask for. -/
theorem conditionsStayAgreed : Obligations.ConditionsStayAgreed := by
  intro s t peerHold link silent startPending stallTimer idle hstep
  have before := s.conditionsAgree_iff.2 ⟨peerHold, link, silent, startPending, stallTimer, idle⟩
  exact t.conditionsAgree_iff.1 ((State.actAgrees_step hstep).agree before)

/-- Settles O16: an act that writes an input of lag or stall re-forms them against the state before it; the tick counts the
stall timer and the expiry of the timer begins STALL. -/
theorem lagAndStallFollowTheirInputs : Obligations.LagAndStallFollowTheirInputs := by
  intro s t _ replaying undecided hstep service epoch
  obtain ⟨lag, lagFlag, stallEnds, stallBegins, timer⟩ :=
    (State.actAgrees_step hstep).monitors replaying undecided service epoch
  exact ⟨lag, lagFlag, stallEnds, stallBegins, timer⟩

end Sys2Proof.Machine
end

section
/-! SUPPORT. START (R99) with its statement (O36). -/

namespace Sys2Proof.Machine

theorem exec_start (n : Byte) (s : State) : exec (.start n) s = .next (s.submit (.start n)) := rfl

/-- START writes the station state, the restart request and START_PENDING, and re-forms (R99, R151). -/
theorem State.startAct_frame (s : State) : s.startAct = { s with
    station := { s.station with state := .replaying, restartRequest := false }
    clock := s.startAct.clock, attention := s.startAct.attention, horizon := s.startAct.horizon, tx := s.startAct.tx } :=
  State.settle_frame _ _

/-- In READY, where no lag test is taken, START leaves everything but what is re-formed from its own writes (R99). -/
theorem State.startAct_onlyReformed {s : State} (h : s.station.state = .ready) :
    ({ s with clock := { s.clock with causes := { s.clock.causes with startPending := false } } }).OnlyReformed
      s.written.startAct := by
  refine State.settle_onlyReformed ⟨rfl, rfl, rfl, rfl, rfl, ⟨rfl, rfl⟩, rfl, rfl, rfl, fun replaying => ?_⟩
  cases h.symm.trans replaying

/-- Settles O36: the reply follows the start in the same act, and what is re-formed is that of the state without
START_PENDING. -/
theorem startBeginsTheReplay : Obligations.StartBeginsTheReplay := by
  intro s h
  refine ⟨fun unready => ?_, fun ready => ?_⟩
  · have refused : s.written.commandTest (.start 0) = some .wrongState :=
      State.commandTest_wrongState rfl (beq_eq_false_iff_ne.2 unready)
    rw [exec_start, State.submit_refused h rfl refused]
    rfl
  · have accepted : s.written.commandTest (.start 0) = none := State.commandTest_own rfl (beq_iff_eq.2 ready)
    have delivery : s.written.startAct.delivery = s.delivery := State.settle_delivery _ _
    have epoch : s.written.startAct.station.epoch = s.station.epoch := by rw [State.startAct_frame]; rfl
    refine ⟨s.written.startAct.withReply 1 none false, ?_, ?_, ?_⟩
    · rw [exec_start, State.submit_accepted h rfl (fun _ => Command.noConfusion) accepted]
      rfl
    · rw [State.withReply, delivery, epoch]
      conv_lhs => rw [State.startAct_frame]
      rfl
    · exact (State.startAct_onlyReformed ready).withReply 1 none false

end Sys2Proof.Machine
end

section
/-! SUPPORT. SET_RATE, HOLD_AT, SKIP_ON and SKIP_OFF (R96, R103, R144) with their statement (O38). -/

namespace Sys2Proof.Machine

theorem exec_setRate (n : Byte) (r : BitVec 32) (s : State) :
    exec (.setRate n r) s = .next (s.submit (.setRate n r)) := rfl

theorem exec_holdAt (n : Byte) (t : BitVec 40) (s : State) :
    exec (.holdAt n t) s = .next (s.submit (.holdAt n t)) := rfl

theorem exec_skipOn (n : Byte) (s : State) : exec (.skipOn n) s = .next (s.submit (.skipOn n)) := rfl

theorem exec_skipOff (n : Byte) (s : State) : exec (.skipOff n) s = .next (s.submit (.skipOff n)) := rfl

/-- A rate is clamped to 1 .. 16,777,215 (R96). -/
theorem clampedRate_eq (n : Nat) : clampedRate n = max 1 (min n 16777215) := by
  unfold clampedRate maxRate
  split_ifs <;> omega

/-- A clamp is reported exactly where the request lies outside that range (R96). -/
theorem rateClamped_setRate (n : Byte) (r : BitVec 32) :
    rateClamped (.setRate n r) = decide (r.toNat = 0 ∨ 16777215 < r.toNat) := by
  rw [rateClamped, clampedRate_eq, Bool.eq_iff_iff, bne_iff_ne, decide_eq_true_iff]
  omega

/-- HOLD_AT asks for a time above the clock and at most 2^40 - 2 (R103). -/
theorem State.ownTest_holdAt (s : State) (n : Byte) (t : BitVec 40) : s.ownTest (.holdAt n t) =
    if t.toNat ≤ s.clock.integer ∨ 1099511627774 < t.toNat then some .outOfRange else none := rfl

/-- A well-formed command in one of its states, with no test of its own failed, is taken and replied to in one act. -/
theorem State.submit_own {s : State} (h : s.DecidesAtOnce) {c : Command} (hc : waitsForProcessing c = false)
    (hs : ∀ n, c ≠ .status n) (hf : commandFormHolds c = true) (ha : commandAccepted s.station.state c = true) :
    s.submit c = match s.written.ownTest c with
      | none => (s.written.commandEffect c).withReply (commandKind c) none (rateClamped c)
      | some r => s.written.withReply (commandKind c) (some r) false := by
  have test : s.written.commandTest c = s.written.ownTest c := State.commandTest_own hf ha
  cases own : s.written.ownTest c with
  | none => exact State.submit_accepted h hc hs (test.trans own)
  | some r => exact State.submit_refused h hc (test.trans own)

/-- Settles O38: each command in its states, HOLD_AT by its range. -/
theorem rateHoldAtAndSkipAreSet : Obligations.RateHoldAtAndSkipAreSet := by
  intro s h hs
  have started : (s.station.state == .ready || s.station.state == .replaying) = true := by
    rcases hs with ready | replaying
    · rw [ready]; rfl
    · rw [replaying]; rfl
  have own (c : Command) (hc : waitsForProcessing c = false) (hs : ∀ n, c ≠ .status n) (hf : commandFormHolds c = true)
      (ha : commandAccepted s.station.state c = true) := State.submit_own h hc hs hf ha
  refine ⟨fun r => ?_, fun t => ⟨fun above within => ?_, fun outside => ?_⟩, ?_, ?_⟩
  · rw [exec_setRate, own (.setRate 4 r) rfl (fun _ => Command.noConfusion) rfl started, rateClamped_setRate,
      ← clampedRate_eq]
    rfl
  · have inRange : ¬ (t.toNat ≤ s.written.clock.integer ∨ 1099511627774 < t.toNat) :=
      not_or.2 ⟨Nat.not_le.2 above, Nat.not_lt.2 within⟩
    rw [exec_holdAt, own (.holdAt 5 t) rfl (fun _ => Command.noConfusion) rfl started, State.ownTest_holdAt,
      if_neg inRange]
    rfl
  · have outOfRange : t.toNat ≤ s.written.clock.integer ∨ 1099511627774 < t.toNat := outside
    rw [exec_holdAt, own (.holdAt 5 t) rfl (fun _ => Command.noConfusion) rfl started, State.ownTest_holdAt,
      if_pos outOfRange]
    rfl
  · rw [exec_skipOn, own (.skipOn 0) rfl (fun _ => Command.noConfusion) rfl started]
    rfl
  · rw [exec_skipOff, own (.skipOff 0) rfl (fun _ => Command.noConfusion) rfl started]
    rfl

end Sys2Proof.Machine
end

section
/-! SUPPORT. The delivery sender and the records that the blocks owe (R98, R124, R133, R141), with their statement (O44). -/

namespace Sys2Proof.Machine

section
variable {s : State}

/-! ## The delivery sender (R133, R135) -/

theorem exec_deliveryRecordBegin (s : State) : exec .deliveryRecordBegin s = .next s.beginRecord := rfl

/-- The state with the oldest record begun, its entry free. -/
def State.recordBegun (s : State) (r : DeliveryRecord) (rest : List DeliveryRecord) : State :=
  { s with delivery := { s.delivery with queue := rest, sending := some r } }

theorem State.beginRecord_begins {r : DeliveryRecord} {rest : List DeliveryRecord}
    (h : s.delivery = ⟨r :: rest, none, true⟩) : s.beginRecord = (s.recordBegun r rest).decideWaiting := by
  have queue : s.delivery.queue = r :: rest := by rw [h]
  simp only [State.beginRecord, queue]
  exact if_pos (by rw [h]; exact ⟨rfl, rfl⟩)

theorem State.beginRecord_ignored
    (h : s.delivery.queue = [] ∨ s.delivery.ready = false ∨ s.delivery.sending.isSome = true) : s.beginRecord = s := by
  unfold State.beginRecord
  split
  · rfl
  · rename_i r rest queue
    refine if_neg fun ⟨ready, free⟩ => ?_
    rcases h with empty | withdrawn | sending
    · cases queue.symm.trans empty
    · cases ready.symm.trans withdrawn
    · rw [free] at sending
      cases sending

/-- No command touches the record being sent, nor the port of the command unit (R135, R146). -/
theorem State.commandEffect_ports (s : State) (c : Command) :
    (s.commandEffect c).console.inFlight = s.console.inFlight ∧
    (s.commandEffect c).delivery.sending = s.delivery.sending := by
  cases c with
  | start _ =>
    have frame := s.startAct_frame
    exact ⟨congrArg (·.console.inFlight) frame, congrArg (·.delivery.sending) frame⟩
  | watchSet _ n k =>
    simp only [State.commandEffect, State.watchAct]
    split <;> exact ⟨rfl, rfl⟩
  | watchClear _ n =>
    simp only [State.commandEffect, State.watchAct]
    split <;> exact ⟨rfl, rfl⟩
  | excludePeer _ p =>
    simp only [State.commandEffect, State.excludeAct, State.settleComplete_console, State.settleComplete_delivery]
    exact ⟨rfl, rfl⟩
  | includePeer _ p =>
    simp only [State.commandEffect, State.includeAct, State.settle_console, State.settle_delivery]
    exact ⟨rfl, rfl⟩
  | restart _ _ =>
    simp only [State.commandEffect, State.restartAct_eq, State.settle_console, State.settle_delivery]
    exact ⟨rfl, rfl⟩
  | _ => exact ⟨rfl, rfl⟩

/-- A command decided is no longer in flight (R135). -/
theorem State.decideCommand_ports (s : State) (c : Command) :
    (s.decideCommand c).console.inFlight = none ∧ (s.decideCommand c).delivery.sending = s.delivery.sending := by
  unfold State.decideCommand
  dsimp only
  split
  · exact ⟨rfl, rfl⟩
  · exact State.commandEffect_ports _ c

/-- With an entry free and no frame processing in flight a command that waits is decided (R135). -/
theorem State.decideWaiting_decided {c : Command} (hc : s.console.inFlight = some c)
    (room : s.delivery.queue.length < 64) (hp : s.processing = none) : s.decideWaiting = s.decideCommand c := by
  have can : s.canDecide c = true := by
    rw [State.canDecide, hp, Bool.and_eq_true]
    exact ⟨decide_eq_true room, Bool.or_true _⟩
  simp only [State.decideWaiting, hc, can, if_true]

/-! ## The records owed (R98, R124, R141) -/

theorem exec_holdState (s : State) : exec .holdState s = .next s.queueHoldState := rfl

theorem exec_completeRecord (s : State) : exec .completeRecord s = .next s.queueComplete := rfl

theorem exec_skewRecord (s : State) : exec .skewRecord s = .next s.emitSkew := rfl

theorem HoldCauses.holdState_ne_iff (c : HoldCauses) (h : HoldState) :
    c.holdState ≠ h ↔ c.isEmpty ≠ (h == .running) := by
  unfold HoldCauses.holdState
  cases c.isEmpty <;> cases h <;> decide

theorem State.holdStateOwed_iff (s : State) :
    s.holdStateOwed = true ↔ s.clock.causes.isEmpty ≠ (s.clock.reported == .running) := by
  rw [State.holdStateOwed, bne_iff_ne, HoldCauses.holdState_ne_iff]

theorem State.queueHoldState_ignored (h : s.holdStateOwed = false ∨ 60 ≤ s.delivery.queue.length) :
    s.queueHoldState = s := by
  refine if_neg fun ⟨owed, room⟩ => ?_
  rcases h with none | full
  · cases owed.symm.trans none
  · exact absurd (s.roomForRecord_iff.1 room) (Nat.not_lt.2 full)

theorem State.queueComplete_ignored (h : s.engine.completeOwed = false ∨ 60 ≤ s.delivery.queue.length) :
    s.queueComplete = s := by
  refine if_neg fun ⟨owed, room⟩ => ?_
  rcases h with none | full
  · cases owed.symm.trans none
  · exact absurd (s.roomForRecord_iff.1 room) (Nat.not_lt.2 full)

theorem State.emitSkew_emits {k n : Nat} {rest : List Nat} (hk : s.console.skew = some k)
    (hn : s.declaredFrom k = n :: rest) (room : s.delivery.queue.length < 60) : s.emitSkew =
      { s.enqueue (.skew (s.skewRecord n)) with console := { s.console with skew := rest.head? } } := by
  simp only [State.emitSkew, hk, hn]
  exact if_pos (s.roomForRecord_iff.2 room)

theorem State.emitSkew_ignored
    (h : (∀ k, s.console.skew = some k → s.declaredFrom k = []) ∨ 60 ≤ s.delivery.queue.length) : s.emitSkew = s := by
  unfold State.emitSkew
  split
  · rfl
  · rename_i k hk
    split
    · rfl
    · rename_i n rest hn
      refine if_neg fun room => ?_
      rcases h with none | full
      · cases hn.symm.trans (none k hk)
      · exact absurd (s.roomForRecord_iff.1 room) (Nat.not_lt.2 full)

end

/-- Settles O44: the sender by its conditions, and each record owed by its own and the room of R135. -/
theorem recordsAreQueuedAndSent : Obligations.RecordsAreQueuedAndSent := by
  intro s
  refine ⟨rfl, rfl, rfl, fun r rest h undecided => ?_, fun r rest c h room free waits => ?_, fun h => ?_, ?_⟩
  · have begun : (s.recordBegun r rest).decideWaiting = s.recordBegun r rest := State.decideWaiting_none undecided
    rw [exec_deliveryRecordBegin, State.beginRecord_begins h, begun, State.recordBegun, h]
  · have decided : (s.recordBegun r rest).decideWaiting = (s.recordBegun r rest).decideCommand c :=
      State.decideWaiting_decided waits room free
    obtain ⟨port, sending⟩ := (s.recordBegun r rest).decideCommand_ports c
    refine ⟨_, ?_, port, sending⟩
    rw [exec_deliveryRecordBegin, State.beginRecord_begins h, decided]
  · rw [exec_deliveryRecordBegin, State.beginRecord_ignored h]
  intro owed
  have owed_iff : s.holdStateOwed = true ↔ owed := s.holdStateOwed_iff
  refine ⟨fun room => ⟨fun owes => ?_, fun owes => ?_, fun k n rest hk hn => ?_⟩, fun full => ⟨?_, ?_, ?_⟩,
    fun paid => ?_, fun paid => ?_, fun done => ?_⟩
  · have queues : s.holdStateOwed = true ∧ s.roomForRecord = true := ⟨owed_iff.2 owes, s.roomForRecord_iff.2 room⟩
    rw [exec_holdState, State.queueHoldState, if_pos queues]
    rfl
  · rw [exec_completeRecord, State.queueComplete, if_pos ⟨owes, s.roomForRecord_iff.2 room⟩]
    rfl
  · rw [exec_skewRecord, State.emitSkew_emits hk hn room]
    rfl
  · rw [exec_holdState, State.queueHoldState_ignored (.inr full)]
  · rw [exec_completeRecord, State.queueComplete_ignored (.inr full)]
  · rw [exec_skewRecord, State.emitSkew_ignored (.inr full)]
  · rw [exec_holdState, State.queueHoldState_ignored (.inl (Bool.eq_false_iff.2 (owed_iff.not.2 paid)))]
  · rw [exec_completeRecord, State.queueComplete_ignored (.inl paid)]
  · rw [exec_skewRecord, State.emitSkew_ignored (.inl done)]

end Sys2Proof.Machine
end

section
/-! SUPPORT. Which head is released, and what its removal leaves of the clock (R102, R103, R109), with the statement O49. -/

namespace Sys2Proof.Machine

section
variable {s : State}

/-- A head of one of the three lists (R109). -/
def State.IsHead (s : State) (i : Item) : Prop :=
  s.pendingQueue.head?.map Item.own = some i ∨ s.remotes.head?.map Item.remote = some i ∨
    s.timers.head?.map Item.timer = some i

/-- There is no least head exactly where the three lists are empty. -/
theorem State.leastHead_eq_none_iff (s : State) : s.leastHead = none ↔ ∀ i, ¬ s.IsHead i := by
  constructor
  · intro h i head
    obtain ⟨queue, rest⟩ := lesserHead_eq_none h
    obtain ⟨remotes, timers⟩ := lesserHead_eq_none rest
    rcases head with head | head | head
    · cases queue.symm.trans head
    · cases remotes.symm.trans head
    · cases timers.symm.trans head
  · intro none
    have queue : s.pendingQueue.head?.map Item.own = Option.none :=
      Option.eq_none_iff_forall_ne_some.2 fun i hi => none i (.inl hi)
    have remotes : s.remotes.head?.map Item.remote = Option.none :=
      Option.eq_none_iff_forall_ne_some.2 fun i hi => none i (.inr (.inl hi))
    have timers : s.timers.head?.map Item.timer = Option.none :=
      Option.eq_none_iff_forall_ne_some.2 fun i hi => none i (.inr (.inr hi))
    rw [State.leastHead, queue, remotes, timers]
    rfl

/-- The least head is a head, and no head lies below it (R109). -/
theorem State.leastHead_spec {i : Item} (h : s.leastHead = some i) :
    s.IsHead i ∧ ∀ j, s.IsHead j → j.key.lt i.key = false := by
  obtain ⟨among, ownAbove, restAbove⟩ := lesserHead_spec h
  cases rest : lesserHead (s.remotes.head?.map Item.remote) (s.timers.head?.map Item.timer) with
  | none =>
    obtain ⟨remotes, timers⟩ := lesserHead_eq_none rest
    rw [rest] at among
    refine ⟨.inl (among.resolve_right nofun), fun j head => ?_⟩
    rcases head with own | remote | timer
    · exact ownAbove j own
    · cases remotes.symm.trans remote
    · cases timers.symm.trans timer
  | some k =>
    obtain ⟨amongRest, remoteAbove, timerAbove⟩ := lesserHead_spec rest
    rw [rest] at among
    have above : k.key.lt i.key = false := restAbove k rest
    refine ⟨?_, fun j head => ?_⟩
    · rcases among with own | same
      · exact .inl own
      · exact .inr (Option.some.inj same ▸ amongRest)
    · rcases head with own | remote | timer
      · exact ownAbove j own
      · exact Key.not_lt_trans above (remoteAbove j remote)
      · exact Key.not_lt_trans above (timerAbove j timer)

/-! ## The clock of a completed step (R102, R103) -/

/-- The hold-at time `holdAt` is reached by a clock raised to `now` (R103). -/
theorem any_holdAt_iff (holdAt : Option Nat) (now : Nat) :
    (holdAt.any fun h => decide (h ≤ now)) = true ↔ ∃ h, holdAt = some h ∧ h ≤ now := by
  simp only [Option.any_eq_true, decide_eq_true_eq]

/-- Where a step is armed the removal raises the clock, disarms the step and adds STEP (R102). -/
theorem State.steppedTo_clock (h : s.clock.stepArmed = true) (time : Nat) : (s.steppedTo time).clock = { s.clock with
    integer := max s.clock.integer time, fraction := 0, stepArmed := false, holdAt := (s.steppedTo time).clock.holdAt
    causes := { s.clock.causes with step := true, brk := (s.steppedTo time).clock.causes.brk } } := by
  simp only [State.steppedTo, if_pos h]

theorem State.steppedTo_unarmed (h : ¬ s.clock.stepArmed = true) (time : Nat) : s.steppedTo time = s := if_neg h

/-- A hold-at time that the raised clock has reached becomes absent and sets BREAK with its flag (R103). -/
theorem State.steppedTo_reached (h : s.clock.stepArmed = true) {time : Nat}
    (hr : ∃ x, s.clock.holdAt = some x ∧ x ≤ max s.clock.integer time) :
    (s.steppedTo time).clock.holdAt = none ∧ (s.steppedTo time).clock.causes.brk = true ∧
    (s.steppedTo time).attention.flags.brk = true := by
  have reached := (any_holdAt_iff _ _).2 hr
  simp only [State.steppedTo, if_pos h, reached, if_true, Bool.or_true, and_self]

theorem State.steppedTo_unreached (h : s.clock.stepArmed = true) {time : Nat}
    (hr : ¬ ∃ x, s.clock.holdAt = some x ∧ x ≤ max s.clock.integer time) :
    (s.steppedTo time).clock.holdAt = s.clock.holdAt ∧ (s.steppedTo time).clock.causes.brk = s.clock.causes.brk ∧
    (s.steppedTo time).attention.flags.brk = s.attention.flags.brk := by
  have unreached := Bool.eq_false_iff.2 ((any_holdAt_iff _ _).not.2 hr)
  simp only [State.steppedTo, if_pos h, unreached, Bool.false_eq_true, if_false, Bool.or_false, and_self]

/-- A released item lies at or below the clock that the act leaves (R102, R109). -/
theorem State.CanRelease.le_steppedTo {k : Key} (h : s.CanRelease k) :
    k.time ≤ (s.steppedTo k.time).clock.integer := by
  by_cases armed : s.clock.stepArmed = true
  · rw [State.steppedTo_clock armed]
    exact Nat.le_max_right _ _
  · rw [State.steppedTo_unarmed armed]
    exact h.clock.resolve_right armed

/-- A release leaves everything but the lists, the tables that the item's own release writes, the release point, and what is
re-formed. -/
theorem State.releaseAct_frame {i : Item} (hi : s.leastHead = some i) (h : s.CanRelease i.key) : s.releaseAct = { s with
    station := s.releaseAct.station
    pendingQueue := (s.removed i).pendingQueue, remotes := (s.removed i).remotes
    timers := ((s.stepped i).releaseItem i).timers, elements := ((s.stepped i).releaseItem i).elements
    sources := ((s.stepped i).releaseItem i).sources, islands := ((s.stepped i).releaseItem i).islands
    engine := { s.engine with
      releasePoint := some i.key, inFlight := ((s.stepped i).releaseItem i).engine.inFlight
      completeOwed := s.releaseAct.engine.completeOwed }
    horizon := s.releaseAct.horizon, clock := s.releaseAct.clock, attention := s.releaseAct.attention
    tx := s.releaseAct.tx } := by
  have settled := ((s.stepped i).releaseItem i).settleComplete_frame s
  rw [← State.releaseAct_releases hi h] at settled
  conv_lhs => rw [settled, s.releaseItem_frame i]

end

/-- Settles O49: the least head by the heads of the three lists, the release by what it re-forms from the completed step. -/
theorem releasesLieBelowTheSafeTime : Obligations.ReleasesLieBelowTheSafeTime := by
  intro s isHead
  refine ⟨s.leastHead_eq_none_iff, fun held => ?_, fun i hi => ⟨(State.leastHead_spec hi).1, (State.leastHead_spec hi).2,
    fun can => ?_⟩⟩
  · rw [exec_release, State.releaseAct_stays held]
  have reformed := (State.reformed_releaseAct hi can).toReformed
  have clock := reformed.clock
  have flag : s.releaseAct.attention.flags.brk = (s.steppedTo i.key.time).attention.flags.brk := by
    rw [reformed.attention]
  refine ⟨s.releaseAct, exec_release s, ?_, can.safe, ?_, can.replaying, reformed, fun armed => ?_⟩
  · rw [State.releaseAct_frame hi can]
  · rw [clock]
    exact can.le_steppedTo
  intro now reached
  refine ⟨fun hr => ?_, fun hr => ?_, ?_⟩
  · rw [flag, clock]
    exact State.steppedTo_reached armed hr
  · rw [flag, clock]
    exact State.steppedTo_unreached armed hr
  · rw [State.steppedTo_clock armed] at clock
    have brk : s.releaseAct.clock.causes.brk = (s.steppedTo i.key.time).clock.causes.brk := by rw [clock]
    have holdAt : s.releaseAct.clock.holdAt = (s.steppedTo i.key.time).clock.holdAt := by rw [clock]
    rw [brk, holdAt]
    exact clock

end Sys2Proof.Machine
end

section
/-! SUPPORT. The release of a remote change and of a timer (R113, R116, R118): one element is written and a record owed, with
the statement O48. -/

namespace Sys2Proof.Machine

section
variable {s : State} {i : Item} {n : Nat} {e f : Element} {b : RecordBody} {relabels : Bool}

theorem State.elementAt_stepped (s : State) (i : Item) (n : Nat) : (s.stepped i).elementAt n = s.elementAt n :=
  State.elementAt_congr (by rw [State.stepped_frame, State.removed_frame]) n

/-- With its release in flight the station is not drained, so the act does not complete it (R124). -/
theorem State.not_comesToEnd_of_inFlight {s t : State} {r : ReleaseInFlight} (h : t.engine.inFlight = some r) :
    ¬ s.ComesToEnd t := by
  rintro ⟨-, -, drained⟩
  cases drained.idle.1.symm.trans h

/-- The release of item `i` from `s` to `t` wrote `f` at element `n` and owes the record `b`; the relabel is started where
`relabels` asks for it. -/
structure State.ElementReleased (s : State) (i : Item) (n : Nat) (f : Element) (b : RecordBody) (relabels : Bool)
    (t : State) : Prop where
  frame : t = { s with
    pendingQueue := (s.removed i).pendingQueue, remotes := (s.removed i).remotes, timers := (s.removed i).timers
    elements := t.elements, engine := t.engine, islands := t.islands, clock := t.clock, attention := t.attention
    horizon := t.horizon, tx := t.tx }
  element : t.elementAt n = some f
  elements : ∀ m, m ≠ n → t.elementAt m = s.elementAt m
  islands : t.islands = (s.relabelStarted i relabels).islands
  engine : t.engine = { s.engine with releasePoint := some i.key, inFlight := some ⟨i, some b, none⟩ }
  reformed : s.ReformedWith (s.steppedTo i.key.time) t

/-- The element written and the item in flight, with what the removal left. -/
theorem State.setElement_enterFlight (s : State) (i : Item) (n : Nat) (f : Element) (b : RecordBody) (relabels : Bool) :
    ((s.stepped i).setElement n f).enterFlight i (some b) relabels = { s with
      pendingQueue := (s.removed i).pendingQueue, remotes := (s.removed i).remotes, timers := (s.removed i).timers
      elements := (s.setElement n f).elements, islands := (s.relabelStarted i relabels).islands
      engine := { s.engine with releasePoint := some i.key, inFlight := some ⟨i, some b, none⟩ }
      clock := (s.steppedTo i.key.time).clock, attention := (s.steppedTo i.key.time).attention } := by
  rw [State.enterFlight_some, s.stepped_frame, s.removed_frame]
  unfold State.relabelStarted
  split <;> rfl

/-- A release that writes one element and goes into flight. -/
theorem State.elementReleased (hi : s.leastHead = some i) (can : s.CanRelease i.key) (he : s.elementAt n = some e)
    (item : (s.stepped i).releaseItem i = ((s.stepped i).setElement n f).enterFlight i (some b) relabels) :
    s.ElementReleased i n f b relabels s.releaseAct := by
  have frame := State.releaseAct_frame hi can
  have reformed := State.reformed_releaseAct hi can
  rw [item, s.setElement_enterFlight] at frame
  have flies : s.releaseAct.engine.inFlight = some ⟨i, some b, none⟩ := by rw [frame]
  have unended := reformed.otherwise (State.not_comesToEnd_of_inFlight flies)
  have elements : s.releaseAct.elements = (s.setElement n f).elements := by rw [frame]
  have islands : s.releaseAct.islands = (s.relabelStarted i relabels).islands := by rw [frame]
  have engine : s.releaseAct.engine =
      { s.engine with releasePoint := some i.key, inFlight := some ⟨i, some b, none⟩ } := by
    have written : s.releaseAct.engine = _ := congrArg State.engine frame
    rw [unended.owed] at written
    exact written
  refine ⟨?_, ?_, fun m hm => ?_, islands, engine, reformed⟩
  · rw [engine, elements, islands]
    rw [engine, unended.station] at frame
    exact frame
  · rw [State.elementAt_congr elements, State.elementAt_setElement_self _ _ (State.lt_of_elementAt he)]
  · rw [State.elementAt_congr elements, State.elementAt_setElement_of_ne _ _ hm]

/-- The relabel started, or none (R127). -/
theorem State.relabelStarted_islands (s : State) (i : Item) {nodes : Option (Nat × Nat)} {p q : Position} :
    (nodes.isSome = true → p ≠ q → (s.relabelStarted i (nodes.isSome && p != q)).islands =
      { s.islands with relabel := some ⟨.item i.key, .computing⟩ }) ∧
    (nodes = none ∨ p = q → (s.relabelStarted i (nodes.isSome && p != q)).islands = s.islands) := by
  refine ⟨fun noded moved => ?_, fun still => ?_⟩
  · rw [noded, bne_iff_ne.2 moved]
    rfl
  · have none : (nodes.isSome && p != q) = false := by
      rcases still with rfl | rfl
      · rfl
      · rw [bne_self_eq_false, Bool.and_false]
    rw [none]
    rfl

/-- A remote change writes its MIRROR element (R113). -/
theorem State.remoteReleased {r : RemoteEntry} (hi : s.leastHead = some (.remote r)) (can : s.CanRelease r.key)
    (he : s.elementAt r.element = some e) :
    s.ElementReleased (.remote r) r.element
      { e with current := r.position, lastRelease := some ⟨r.key.time, r.key.source, r.position⟩ }
      (.remote (remoteRecord r e.current false)) (e.nodes.isSome && r.position != e.current) s.releaseAct := by
  refine State.elementReleased hi can he ?_
  simp only [State.releaseItem, State.releaseRemote, State.elementAt_stepped, he]
  rfl

/-- A travel timer sets STUCK (R116). -/
theorem State.travelReleased {k : Key} (hi : s.leastHead = some (.timer k)) (can : s.CanRelease k)
    (he : s.elementAt k.ordinal = some e) (hk : k.source = 32) :
    s.ElementReleased (.timer k) k.ordinal
      { e with stuck := true, lastRelease := some ⟨k.time, 32, .intermediate⟩ }
      (.stuck k.ordinal k.time e.travelStart) false s.releaseAct := by
  refine State.elementReleased hi can he ?_
  simp only [State.releaseItem, State.releaseTravel, State.elementAt_stepped, he]
  exact if_pos hk

/-- A quiet timer returns its element to NORMAL (R118). -/
theorem State.quietReleased {k : Key} (hi : s.leastHead = some (.timer k)) (can : s.CanRelease k)
    (he : s.elementAt k.ordinal = some e) (hk : k.source ≠ 32) :
    s.ElementReleased (.timer k) k.ordinal
      { e with
        chatter := .normal, suppressed := 0, windowStart := none, windowCount := 0
        lastRelease := some ⟨k.time, 33, e.current⟩ }
      (.chatterEnd k.ordinal k.time e.suppressed e.current) false s.releaseAct := by
  refine State.elementReleased hi can he ?_
  simp only [State.releaseItem, State.releaseQuiet, State.elementAt_stepped, he]
  exact if_neg hk

end

/-- Settles O48: each item by what its release writes at its element and the record that it owes. -/
theorem remoteChangesAndTimersAreReleased : Obligations.RemoteChangesAndTimersAreReleased := by
  intro s i e hi can he
  refine ⟨fun r hr => ?_, fun k hk => ?_⟩
  · subst hr
    have released := State.remoteReleased hi can he
    obtain ⟨starts, stays⟩ := s.relabelStarted_islands (.remote r) (nodes := e.nodes) (p := r.position) (q := e.current)
    refine ⟨s.releaseAct, exec_release s, released.frame, ?_, ?_, released.element, released.elements,
      released.reformed, released.engine⟩
    · rw [released.islands]
      exact starts
    · rw [released.islands]
      exact stays
  · subst hk
    by_cases travel : k.source = 32
    · have released := State.travelReleased hi can he travel
      refine ⟨s.releaseAct, exec_release s, ?_, released.elements, released.reformed,
        fun _ => ⟨released.element, released.engine⟩, fun quiet => ?_⟩
      · exact released.frame.trans (by rw [released.islands]; rfl)
      · cases travel.symm.trans quiet
    · have released := State.quietReleased hi can he travel
      refine ⟨s.releaseAct, exec_release s, ?_, released.elements, released.reformed, fun h => absurd h travel,
        fun _ => ⟨released.element, released.engine⟩⟩
      exact released.frame.trans (by rw [released.islands]; rfl)

end Sys2Proof.Machine
end

section
/-! SUPPORT. Travel and chatter on the element of an own event (R115, R117, R118), case by case, and the timers that they
leave. -/

namespace Sys2Proof.Machine

/-! ## Timers (R115, R118) -/

/-- A timer's key takes its origin from the station's number alone. -/
theorem State.timerMoved_congr {s t : State} (h : t.station.number = s.station.number) (kind n due : Nat)
    (ts : List Key) : t.timerMoved kind n due ts = s.timerMoved kind n due ts := by
  rw [State.timerMoved, h]
  rfl

/-! ## What handling an element may write -/

/-- From `s` to `t` the element table and the timer list were written, with element `n` present as `f` and no other element
changed. -/
structure State.Handles (s : State) (n : Nat) (f : Element) (t : State) : Prop where
  frame : t = { s with elements := t.elements, timers := t.timers }
  element : t.elementAt n = some f
  elements : ∀ m, m ≠ n → t.elementAt m = s.elementAt m

section
variable {s t u : State} {n : Nat} {e f : Element}

theorem State.Handles.refl (h : s.elementAt n = some f) : s.Handles n f s := ⟨rfl, h, fun _ _ => rfl⟩

theorem State.handles_setElement (h : n < 256) (f : Element) : s.Handles n f (s.setElement n f) :=
  ⟨rfl, s.elementAt_setElement_self f h, fun _ hm => s.elementAt_setElement_of_ne f hm⟩

theorem State.Handles.timers (h : s.Handles n f t) (ts : List Key) : s.Handles n f { t with timers := ts } :=
  ⟨congrArg (fun v : State => { v with timers := ts }) h.frame, h.element, h.elements⟩

theorem State.Handles.setTimer (h : s.Handles n f t) (kind m due : Nat) : s.Handles n f (t.setTimer kind m due) :=
  h.timers _

theorem State.Handles.cancelTimer (h : s.Handles n f t) (kind m : Nat) : s.Handles n f (t.cancelTimer kind m) :=
  h.timers _

theorem State.Handles.trans (h : s.Handles n e t) (h' : t.Handles n f u) : s.Handles n f u where
  frame := h'.frame.trans (congrArg (fun v : State => { v with elements := u.elements, timers := u.timers }) h.frame)
  element := h'.element
  elements m hm := (h'.elements m hm).trans (h.elements m hm)

theorem State.Handles.keeps (h : s.Handles n f t) :
    t.station = s.station ∧ t.settings = s.settings ∧ t.sources = s.sources := by
  rw [h.frame]
  exact ⟨rfl, rfl, rfl⟩

/-! ## Travel (TRAVEL TABLE, R115) -/

theorem Element.timesTravel_iff (e : Element) : e.timesTravel = true ↔ e.Timed := by
  unfold Element.timesTravel Element.Timed
  rw [Bool.and_eq_true, decide_eq_true_iff]
  refine and_congr_left fun _ => ?_
  cases e.ownership <;> simp

theorem Position.final_iff (p : Position) : p.final = true ↔ p = .opened ∨ p = .closed := by
  cases p <;> decide

/-- The rows of the TRAVEL TABLE, by the new position. -/
theorem Position.travel_cases (p : Position) :
    p = .intermediate ∨ (p = .opened ∨ p = .closed) ∨ p = .bad ∨ p = .unknown := by
  cases p <;> decide

variable {prev : Position} {time : Nat}

theorem State.handleTravel_untimed (h : ¬ e.Timed) : s.handleTravel n e prev time = (s, none, false) := by
  have untimed : (!e.timesTravel) = true := by
    rw [Bool.not_eq_true', ← Bool.not_eq_true, e.timesTravel_iff]
    exact h
  rw [State.handleTravel, if_pos untimed]

/-- The handling of an element with travel timing, by its new position. -/
theorem State.handleTravel_timed (h : e.Timed) : s.handleTravel n e prev time =
    if e.current = .intermediate then
      if prev.final = true then ((s.setElement n { e with travelStart := some time }).setTimer 32 n
        (time + e.travelLimit * 1000), none, false)
      else (s, none, false)
    else if e.current.final = true then
      match e.travelStart with
      | some start => ((s.setElement n { e with travelStart := none, stuck := false }).cancelTimer 32 n,
          some (time - start), e.stuck)
      | none => (s.setElement n { e with stuck := false }, none, false)
    else if e.current = .bad then ((s.setElement n { e with travelStart := none }).cancelTimer 32 n, none, false)
    else (s, none, false) := by
  have timed : ¬ (!e.timesTravel) = true := by
    rw [(e.timesTravel_iff).2 h]
    exact Bool.false_ne_true
  exact if_neg timed

/-- Travel starts with the departure from an end position. -/
theorem State.handleTravel_starts (h : e.Timed) (hc : e.current = .intermediate) (hp : prev = .opened ∨ prev = .closed) :
    s.handleTravel n e prev time = ((s.setElement n { e with travelStart := some time }).setTimer 32 n
      (time + e.travelLimit * 1000), none, false) := by
  rw [State.handleTravel_timed h, if_pos hc, if_pos (prev.final_iff.2 hp)]

theorem State.handleTravel_stays (h : e.Timed) (hc : e.current = .intermediate)
    (hp : ¬ (prev = .opened ∨ prev = .closed)) : s.handleTravel n e prev time = (s, none, false) := by
  rw [State.handleTravel_timed h, if_pos hc, if_neg (prev.final_iff.not.2 hp)]

/-- Travel ends at an end position. -/
theorem State.handleTravel_ends (h : e.Timed) (hc : e.current = .opened ∨ e.current = .closed) {start : Nat}
    (hs : e.travelStart = some start) : s.handleTravel n e prev time =
      ((s.setElement n { e with travelStart := none, stuck := false }).cancelTimer 32 n, some (time - start), e.stuck) := by
  have moved : e.current ≠ .intermediate := by rcases hc with hc | hc <;> rw [hc] <;> decide
  rw [State.handleTravel_timed h, if_neg moved, if_pos (e.current.final_iff.2 hc), hs]

theorem State.handleTravel_arrives (h : e.Timed) (hc : e.current = .opened ∨ e.current = .closed)
    (hs : e.travelStart = none) :
    s.handleTravel n e prev time = (s.setElement n { e with stuck := false }, none, false) := by
  have moved : e.current ≠ .intermediate := by rcases hc with hc | hc <;> rw [hc] <;> decide
  rw [State.handleTravel_timed h, if_neg moved, if_pos (e.current.final_iff.2 hc), hs]

theorem State.handleTravel_bad (h : e.Timed) (hc : e.current = .bad) : s.handleTravel n e prev time =
    ((s.setElement n { e with travelStart := none }).cancelTimer 32 n, none, false) := by
  rw [State.handleTravel_timed h, hc]
  rfl

theorem State.handleTravel_unknown (h : e.Timed) (hc : e.current = .unknown) :
    s.handleTravel n e prev time = (s, none, false) := by
  rw [State.handleTravel_timed h, hc]
  rfl

/-- Travel handling writes the travel start and the stuck flag of its element. -/
theorem State.handles_handleTravel (he : s.elementAt n = some e) (prev : Position) (time : Nat) :
    ∃ start stuck, s.Handles n { e with travelStart := start, stuck := stuck } (s.handleTravel n e prev time).1 := by
  have kept {r : State × Option Nat × Bool} (hr : r = (s, none, false)) :
      ∃ start stuck, s.Handles n { e with travelStart := start, stuck := stuck } r.1 :=
    ⟨e.travelStart, e.stuck, by rw [hr]; exact .refl he⟩
  have set (f : Element) : s.Handles n f (s.setElement n f) := State.handles_setElement (State.lt_of_elementAt he) f
  by_cases timed : e.Timed
  · rcases e.current.travel_cases with moving | arrived | bad | unknown
    · by_cases departs : prev = .opened ∨ prev = .closed
      · rw [State.handleTravel_starts timed moving departs]
        exact ⟨some time, e.stuck, (set _).setTimer _ _ _⟩
      · exact kept (State.handleTravel_stays timed moving departs)
    · rcases Option.eq_none_or_eq_some e.travelStart with absent | ⟨start, present⟩
      · rw [State.handleTravel_arrives timed arrived absent]
        exact ⟨e.travelStart, false, set _⟩
      · rw [State.handleTravel_ends timed arrived present]
        exact ⟨none, false, (set _).cancelTimer _ _⟩
    · rw [State.handleTravel_bad timed bad]
      exact ⟨none, e.stuck, (set _).cancelTimer _ _⟩
    · exact kept (State.handleTravel_unknown timed unknown)
  · exact kept (State.handleTravel_untimed timed)

/-- The timers after travel depend on those before it and on the station's number alone. -/
theorem State.TravelTimers.congr {x : PendingEntry} {ts : List Key} (h : t.TravelTimers x e ts)
    (timers : t.timers = s.timers) (number : t.station.number = s.station.number) : s.TravelTimers x e ts := by
  obtain ⟨untimed, starts, staysAbsent, ends, bad⟩ := h
  simp only [timers, State.timerMoved_congr number] at untimed starts staysAbsent ends bad
  exact ⟨untimed, starts, staysAbsent, ends, bad⟩

/-- A no change leaves the timers. -/
theorem State.travelTimers_of_noChange {x : PendingEntry} (h : x.position = e.current) :
    s.TravelTimers x e s.timers where
  untimed _ := rfl
  starts _ hp hc := by rw [← h, hp] at hc; rcases hc with hc | hc <;> cases hc
  staysAbsent _ _ _ := rfl
  ends _ hn := absurd h hn
  bad _ hn := absurd h hn

/-- The timers after the travel handling of a change, on an element that it finds at its new position. -/
theorem State.travelTimers_handleTravel {x : PendingEntry} {e₁ : Element} (hc : e₁.current = x.position)
    (ho : e₁.ownership = e.ownership) (hl : e₁.travelLimit = e.travelLimit) (hs : e₁.travelStart = e.travelStart)
    (hne : x.position ≠ e.current) :
    s.TravelTimers x e (s.handleTravel x.element e₁ e.current x.key.time).1.timers := by
  have timed_iff : e.Timed ↔ e₁.Timed := by rw [Element.Timed, Element.Timed, ho, hl]
  refine ⟨fun h => ?_, fun timed hp prev => ?_, fun hp notOpened notClosed => ?_, fun timed _ hp => ?_,
    fun timed _ hp => ?_⟩
  · by_cases timed : e.Timed
    · have unknown : e₁.current = .unknown := hc.trans ((h.resolve_left (not_not_intro timed)).resolve_left hne)
      rw [State.handleTravel_unknown (timed_iff.1 timed) unknown]
    · rw [State.handleTravel_untimed (timed_iff.not.1 timed)]
  · rw [State.handleTravel_starts (timed_iff.1 timed) (hc.trans hp) prev, ← hl]
    rfl
  · by_cases timed : e.Timed
    · rw [State.handleTravel_stays (timed_iff.1 timed) (hc.trans hp) (not_or.2 ⟨notOpened, notClosed⟩)]
    · rw [State.handleTravel_untimed (timed_iff.not.1 timed)]
  · cases start : e.travelStart with
    | none =>
      rw [State.handleTravel_arrives (timed_iff.1 timed) (by rwa [hc]) (hs.trans start)]
      rfl
    | some _ =>
      rw [State.handleTravel_ends (timed_iff.1 timed) (by rwa [hc]) (hs.trans start)]
      rfl
  · rw [State.handleTravel_bad (timed_iff.1 timed) (hc.trans hp)]
    rfl

/-! ## Chatter (R117, R118) -/

theorem ChatterState.normal_or_chattering (c : ChatterState) : c = .normal ∨ c = .chattering := by
  cases c <;> decide

/-- The start of the chatter window after a change of position at `time` (R117). -/
def State.chatterWindow (s : State) (e : Element) (time : Nat) : Option Nat :=
  match e.windowStart with
  | none => some time
  | some w => if s.settings.chatterW * 1000 ≤ time - w then some time else some w

/-- The element with a change of position at `time` counted (R117). -/
def State.chatterCounted (s : State) (e : Element) (time : Nat) : Element :=
  { e with windowStart := s.chatterWindow e time, windowCount := s.chatterCount e time }

theorem State.handleChatter_chattering (h : e.chatter = .chattering) : s.handleChatter n e time =
    ((s.setElement n { e with suppressed := satSucc 65535 e.suppressed }).setTimer 33 n
      (time + s.settings.chatterQ * 1000), false, true) := by
  simp only [State.handleChatter, h]
  rfl

theorem State.handleChatter_disabled (h : e.chatter = .normal) (hd : e.chatterEnable = false) :
    s.handleChatter n e time = (s, false, false) := by
  simp only [State.handleChatter, h, hd]
  rfl

/-- A change of position on a NORMAL element with chatter enabled is counted, and starts CHATTERING at the count N. -/
theorem State.handleChatter_enabled (h : e.chatter = .normal) (hd : e.chatterEnable = true) :
    s.handleChatter n e time = if s.chatterCount e time = s.settings.chatterN then
      ((s.setElement n { s.chatterCounted e time with chatter := .chattering }).setTimer 33 n
        (time + s.settings.chatterQ * 1000), true, false)
    else (s.setElement n (s.chatterCounted e time), false, false) := by
  have on : ¬ (!e.chatterEnable) = true := by
    rw [hd]
    exact Bool.false_ne_true
  unfold State.handleChatter
  split
  · rename_i chattering
    cases h.symm.trans chattering
  · rw [if_neg on, State.chatterCounted, State.chatterWindow, State.chatterCount]
    cases e.windowStart with
    | none => rfl
    | some w =>
      by_cases fresh : s.settings.chatterW * 1000 ≤ time - w
      · simp only [fresh, decide_true, if_true]
        rfl
      · simp only [fresh, decide_false, Bool.false_eq_true, if_false]
        rfl

/-- The quiet timer is set by an event on a CHATTERING element and by one that starts CHATTERING. -/
def State.SetsQuietTimer (s : State) (e : Element) (time : Nat) : Prop :=
  e.chatter = .chattering ∨
    e.chatter = .normal ∧ e.chatterEnable = true ∧ s.chatterCount e time = s.settings.chatterN

theorem State.handleChatter_timers (h : s.SetsQuietTimer e time) : (s.handleChatter n e time).1.timers =
    s.timerMoved 33 n (time + s.settings.chatterQ * 1000) s.timers := by
  rcases h with chattering | ⟨normal, enabled, count⟩
  · rw [State.handleChatter_chattering chattering]
    rfl
  · rw [State.handleChatter_enabled normal enabled, if_pos count]
    rfl

theorem State.handleChatter_keepsTimers (h : ¬ s.SetsQuietTimer e time) :
    (s.handleChatter n e time).1.timers = s.timers := by
  cases hc : e.chatter with
  | chattering => exact absurd (.inl hc) h
  | normal =>
    cases hd : e.chatterEnable with
    | false => rw [State.handleChatter_disabled hc hd]
    | true =>
      rw [State.handleChatter_enabled hc hd, if_neg fun count => h (.inr ⟨hc, hd, count⟩)]
      rfl

/-- The EVENT record is suppressed on a CHATTERING element (R118). -/
theorem State.handleChatter_suppressed (s : State) (n : Nat) (e : Element) (time : Nat) :
    (s.handleChatter n e time).2.2 = (e.chatter == .chattering) := by
  cases hc : e.chatter with
  | chattering =>
    rw [State.handleChatter_chattering hc]
    rfl
  | normal =>
    cases hd : e.chatterEnable with
    | false =>
      rw [State.handleChatter_disabled hc hd]
      rfl
    | true =>
      rw [State.handleChatter_enabled hc hd]
      split <;> rfl

/-- Chatter handling writes the chatter fields of its element. -/
theorem State.handles_handleChatter (he : s.elementAt n = some e) (time : Nat) :
    ∃ chatter window count suppressed, s.Handles n
      { e with chatter := chatter, windowStart := window, windowCount := count, suppressed := suppressed }
      (s.handleChatter n e time).1 := by
  have set (f : Element) : s.Handles n f (s.setElement n f) := State.handles_setElement (State.lt_of_elementAt he) f
  rcases e.chatter.normal_or_chattering with normal | chattering
  · by_cases enabled : e.chatterEnable = true
    · rw [State.handleChatter_enabled normal enabled]
      split
      · exact ⟨.chattering, _, _, e.suppressed, (set _).setTimer _ _ _⟩
      · exact ⟨e.chatter, _, _, e.suppressed, set _⟩
    · rw [State.handleChatter_disabled normal (Bool.eq_false_iff.2 enabled)]
      exact ⟨e.chatter, e.windowStart, e.windowCount, e.suppressed, .refl he⟩
  · rw [State.handleChatter_chattering chattering]
    exact ⟨e.chatter, e.windowStart, e.windowCount, satSucc 65535 e.suppressed, (set _).setTimer _ _ _⟩

end

end Sys2Proof.Machine
end

section
/-! SUPPORT. The release of an own event (R110, R112): what it does on its element and its source, the record it owes, and the
statement O45. -/

namespace Sys2Proof.Machine

/-! ## Steps 1 to 5 of R112 -/

/-- The element at the position of an own event, with that as its last release (R111, R112). -/
def PendingEntry.placed (x : PendingEntry) (e : Element) : Element :=
  { e with current := x.position, lastRelease := some ⟨x.key.time, x.key.source, x.position⟩ }

/-- The state with the element so placed and the own event counted as released (R12, R112). -/
def State.placed (s : State) (x : PendingEntry) (e : Element) : State :=
  (s.setElement x.element (x.placed e)).countSource x.key.source fun k =>
    { k with released := satSucc 4294967295 k.released, pending := k.pending - 1 }

/-- Travel handling of the change that an own event makes on the placed element (R115). -/
def State.travelled (s : State) (x : PendingEntry) (e : Element) : State × Option Nat × Bool :=
  (s.placed x e).handleTravel x.element (x.placed e) e.current x.key.time

/-- What steps 1 to 5 of an own event's release did from `s`: `f` is the element's new record, `ts` the timer list after
travel. -/
structure State.OwnApplied (s : State) (x : PendingEntry) (e f : Element) (ts : List Key) (a : Applied) : Prop where
  frame : a.state = { s with elements := a.state.elements, sources := a.state.sources, timers := a.state.timers }
  element : a.state.elementAt x.element = some f
  elements : ∀ n, n ≠ x.element → a.state.elementAt n = s.elementAt n
  fields : f = { x.placed e with
    travelStart := f.travelStart, stuck := f.stuck, chatter := f.chatter, windowStart := f.windowStart
    windowCount := f.windowCount, suppressed := f.suppressed }
  sources : a.state.sources = (s.placed x e).sources
  travelTimers : s.TravelTimers x e ts
  chatterTimers : (x.position ≠ e.current ∧ e.chatter = .chattering ∨ s.StartsChatter x e) →
    a.state.timers = s.timerMoved 33 x.element (x.key.time + s.settings.chatterQ * 1000) ts
  otherTimers : ¬ (x.position ≠ e.current ∧ e.chatter = .chattering ∨ s.StartsChatter x e) → a.state.timers = ts
  suppressed : a.suppressed = (e.chatter == .chattering)
  noChange : x.position = e.current → f = x.placed e ∧ a.state.timers = s.timers ∧
    a.chatterStart = false ∧ a.lateTravel = false ∧ a.travelTime = none

section
variable {s : State} {x : PendingEntry} {e : Element}

theorem State.placed_elementAt (he : s.elementAt x.element = some e) :
    (s.placed x e).elementAt x.element = some (x.placed e) :=
  s.elementAt_setElement_self _ (State.lt_of_elementAt he)

theorem State.placed_elementAt_of_ne {n : Nat} (hn : n ≠ x.element) : (s.placed x e).elementAt n = s.elementAt n :=
  s.elementAt_setElement_of_ne _ hn

theorem State.source_placed (s : State) (x : PendingEntry) (e : Element) (n : Nat) : (s.placed x e).source n =
    if n = x.key.source ∧ x.key.source < 32 then { s.source n with
      counters := { (s.source n).counters with
        released := satSucc 4294967295 (s.source n).counters.released, pending := (s.source n).counters.pending - 1 } }
    else s.source n :=
  State.source_countSource _ _ _ _

/-- A no change places its element and is counted, no more (R112); it is suppressed where the element is CHATTERING
(R118). -/
theorem State.applyOwn_noChange (h : x.position = e.current) :
    s.applyOwn x e = ⟨s.placed x e, none, false, false, e.chatter == .chattering⟩ := if_pos h

/-- A change is put to travel handling, and what that leaves of the element, `f`, to chatter handling. -/
theorem State.applyOwn_change (h : x.position ≠ e.current) {f : Element}
    (hf : (s.travelled x e).1.elementAt x.element = some f) : s.applyOwn x e =
      let chatter := (s.travelled x e).1.handleChatter x.element f x.key.time
      ⟨chatter.1, (s.travelled x e).2.1, (s.travelled x e).2.2, chatter.2.1, chatter.2.2⟩ := by
  have found : ((s.travelled x e).1.elementAt x.element).getD (x.placed e) = f := by rw [hf]; rfl
  rw [← found]
  exact if_neg h

/-- The chatter count is read from the window alone. -/
theorem State.setsQuietTimer_iff {t : State} {f : Element} (settings : t.settings = s.settings)
    (chatter : f.chatter = e.chatter) (enable : f.chatterEnable = e.chatterEnable)
    (window : f.windowStart = e.windowStart) (count : f.windowCount = e.windowCount) (h : x.position ≠ e.current) :
    t.SetsQuietTimer f x.key.time ↔ x.position ≠ e.current ∧ e.chatter = .chattering ∨ s.StartsChatter x e := by
  have counted : t.chatterCount f x.key.time = s.chatterCount e x.key.time := by
    simp only [State.chatterCount, settings, window, count]
  simp only [State.SetsQuietTimer, State.StartsChatter, chatter, enable, counted, settings, h, ne_eq, not_false_eq_true,
    true_and]

theorem State.ownApplied_noChange (he : s.elementAt x.element = some e) (h : x.position = e.current) :
    s.OwnApplied x e (x.placed e) s.timers (s.applyOwn x e) := by
  have unset : ¬ (x.position ≠ e.current ∧ e.chatter = .chattering ∨ s.StartsChatter x e) := by
    rintro (⟨changed, -⟩ | starts)
    · exact changed h
    · exact starts.1 h
  rw [State.applyOwn_noChange h]
  exact ⟨rfl, State.placed_elementAt he, fun _ hn => State.placed_elementAt_of_ne hn, rfl, rfl,
    State.travelTimers_of_noChange h, fun set => absurd set unset, fun _ => rfl, rfl, fun _ => ⟨rfl, rfl, rfl, rfl, rfl⟩⟩

theorem State.exists_ownApplied_change (he : s.elementAt x.element = some e) (h : x.position ≠ e.current) :
    ∃ f ts, s.OwnApplied x e f ts (s.applyOwn x e) := by
  obtain ⟨start, stuck, travelled⟩ :
      ∃ start stuck, (s.placed x e).Handles x.element { x.placed e with travelStart := start, stuck := stuck }
        (s.travelled x e).1 := State.handles_handleTravel (State.placed_elementAt he) e.current x.key.time
  have travelTimers : s.TravelTimers x e (s.travelled x e).1.timers :=
    (State.travelTimers_handleTravel (s := s.placed x e) (e := e) (e₁ := x.placed e) rfl rfl rfl rfl h).congr rfl rfl
  rw [State.applyOwn_change h travelled.element]
  set t := (s.travelled x e).1
  obtain ⟨station, settings, -⟩ := travelled.keeps
  have sets := State.setsQuietTimer_iff (s := s) (e := e) (x := x) (t := t)
    (f := { x.placed e with travelStart := start, stuck := stuck }) settings rfl rfl rfl rfl h
  obtain ⟨chatter, window, count, suppressed, chattered⟩ := State.handles_handleChatter travelled.element x.key.time
  have handled := travelled.trans chattered
  refine ⟨_, t.timers, ?_, handled.element, fun n hn => ?_, rfl, ?_, travelTimers, fun set => ?_, fun set => ?_, ?_,
    fun same => absurd same h⟩
  · dsimp only
    rw [handled.keeps.2.2]
    exact handled.frame
  · rw [handled.elements n hn, State.placed_elementAt_of_ne hn]
  · exact handled.keeps.2.2
  · dsimp only
    rw [State.handleChatter_timers (sets.2 set), settings]
    exact State.timerMoved_congr (congrArg _ station) _ _ _ _
  · exact State.handleChatter_keepsTimers (sets.not.2 set)
  · exact State.handleChatter_suppressed _ _ _ _

/-- Steps 1 to 5 of an own event's release, by whether it changes the position. -/
theorem State.exists_ownApplied (he : s.elementAt x.element = some e) :
    ∃ f ts, s.OwnApplied x e f ts (s.applyOwn x e) := by
  by_cases h : x.position = e.current
  · exact ⟨_, _, State.ownApplied_noChange he h⟩
  · exact State.exists_ownApplied_change he h

/-! ## The record and the flight of the item (R110, R118, R120, R121) -/

/-- The EVENT record owed, or none where it is suppressed. -/
def Applied.record (a : Applied) (x : PendingEntry) (e : Element) : Option EventRecord :=
  if a.suppressed = true then none else some (eventRecord x e.current a)

theorem State.releaseItem_own (he : s.elementAt x.element = some e) : s.releaseItem (.own x) =
    (s.applyOwn x e).state.enterFlight (.own x) (((s.applyOwn x e).record x e).map .event)
      (e.nodes.isSome && x.position != e.current) := by
  simp only [State.releaseItem, State.releaseOwn, he, Applied.record]
  split <;> rfl

/-- Going into flight starts the relabel and sets the item in flight, no more. -/
theorem State.enterFlight_frame (s : State) (i : Item) (record : Option RecordBody) (relabels : Bool) :
    s.enterFlight i record relabels = { s with
      islands := (s.relabelStarted i relabels).islands
      engine := { s.engine with inFlight := (s.enterFlight i record relabels).engine.inFlight } } := by
  cases record with
  | some b =>
    rw [State.enterFlight_some]
    cases relabels <;> rfl
  | none =>
    rw [State.enterFlight_none, State.afterRecord]
    split
    · cases relabels <;> rfl
    · cases relabels <;> rfl

/-- With its record suppressed the item waits for its watch mark, or else for the relabel it started, or its release ends
(R118, R120). -/
theorem State.enterFlight_suppressed {f : Element} {relabels : Bool} (hf : s.elementAt x.element = some f)
    (hr : s.islands.relabel = none) : (s.enterFlight (.own x) none relabels).engine.inFlight =
      if f.watch ≠ .none then some ⟨.own x, none, some f.watch⟩
      else if relabels = true then some ⟨.own x, none, none⟩ else none := by
  have check : (s.relabelStarted (.own x) relabels).watchCheck (.own x) = f.watch := by
    have found : (s.relabelStarted (.own x) relabels).elementAt x.element = some f := by
      unfold State.relabelStarted
      split <;> exact hf
    simp only [State.watchCheck, found]
    rfl
  have relabel : (s.relabelStarted (.own x) relabels).islands.relabel.isSome = relabels := by
    unfold State.relabelStarted
    cases relabels
    · simp only [Bool.false_eq_true, if_false, hr]
      rfl
    · rfl
  rw [State.enterFlight_none, State.afterRecord, check]
  cases f.watch with
  | none =>
    dsimp only [State.finishRecords]
    rw [relabel]
    rfl
  | _ => rfl

end

end Sys2Proof.Machine
end

section
/-! SUPPORT. The act of an own event's release as a whole (R110, R112), and the statement O45. -/

namespace Sys2Proof.Machine

section
variable {s : State} {x : PendingEntry} {e f : Element} {ts : List Key}

/-- The release of an own event changes the labels' ground: a changed position of an element with nodes (R127). -/
def PendingEntry.relabels (x : PendingEntry) (e : Element) : Bool := e.nodes.isSome && x.position != e.current

theorem PendingEntry.relabels_iff (x : PendingEntry) (e : Element) :
    x.relabels e = true ↔ e.nodes.isSome = true ∧ x.position ≠ e.current := by
  rw [PendingEntry.relabels, Bool.and_eq_true, bne_iff_ne]

/-- What steps 1 to 5 did of an own event that is removed from the state. -/
def State.ownApply (s : State) (x : PendingEntry) (e : Element) : Applied := (s.stepped (.own x)).applyOwn x e

/-- The state with an own event removed, applied and in flight. -/
def State.ownFlies (s : State) (x : PendingEntry) (e : Element) : State :=
  (s.ownApply x e).state.enterFlight (.own x) (((s.ownApply x e).record x e).map .event) (x.relabels e)

/-- What the removal and the completed step leave of the state that an own event is applied on. -/
theorem State.stepped_own_keeps (s : State) (x : PendingEntry) :
    (s.stepped (.own x)).timers = s.timers ∧ (s.stepped (.own x)).station = s.station ∧
    (s.stepped (.own x)).settings = s.settings ∧ (s.stepped (.own x)).islands = s.islands ∧
    (s.stepped (.own x)).sources = s.sources := by
  rw [State.stepped_frame]
  exact ⟨rfl, rfl, rfl, rfl, rfl⟩

/-- The act of an own event's release from `s` to `t`: the tables and the flight of the item as they were left before what
is re-formed. -/
structure State.OwnAct (s : State) (x : PendingEntry) (e : Element) (t : State) : Prop where
  frame : t = { s with
    pendingQueue := s.pendingQueue.tail, timers := t.timers, elements := t.elements, sources := t.sources
    engine := t.engine, islands := t.islands, station := t.station, clock := t.clock, attention := t.attention
    horizon := t.horizon, tx := t.tx }
  timers : t.timers = (s.ownApply x e).state.timers
  elements : t.elements = (s.ownApply x e).state.elements
  sources : t.sources = (s.ownApply x e).state.sources
  islands : t.islands = ((s.ownApply x e).state.relabelStarted (.own x) (x.relabels e)).islands
  engine : t.engine = { s.engine with
    releasePoint := some x.key, inFlight := t.engine.inFlight, completeOwed := t.engine.completeOwed }
  inFlight : t.engine.inFlight = (s.ownFlies x e).engine.inFlight

theorem State.ownAct_releaseAct (hi : s.leastHead = some (.own x)) (can : s.CanRelease x.key)
    (he : s.elementAt x.element = some e) : s.OwnAct x e s.releaseAct := by
  have item : (s.stepped (.own x)).releaseItem (.own x) = s.ownFlies x e :=
    State.releaseItem_own ((s.elementAt_stepped _ _).trans he)
  have flight : s.ownFlies x e = _ := State.enterFlight_frame _ _ _ _
  have frame := State.releaseAct_frame hi can
  rw [item] at frame
  have timers : s.releaseAct.timers = (s.ownFlies x e).timers := by rw [frame]
  have elements : s.releaseAct.elements = (s.ownFlies x e).elements := by rw [frame]
  have sources : s.releaseAct.sources = (s.ownFlies x e).sources := by rw [frame]
  have islands : s.releaseAct.islands = (s.ownFlies x e).islands := by rw [frame]
  have inFlight : s.releaseAct.engine.inFlight = (s.ownFlies x e).engine.inFlight := by rw [frame]
  rw [← timers, ← elements, ← sources, ← islands, ← inFlight] at frame
  have engine : s.releaseAct.engine = { s.engine with
      releasePoint := some x.key, inFlight := s.releaseAct.engine.inFlight
      completeOwed := s.releaseAct.engine.completeOwed } := congrArg State.engine frame
  refine ⟨?_, timers.trans ?_, elements.trans ?_, sources.trans ?_, islands.trans ?_, engine, inFlight⟩
  · rw [engine]
    exact frame
  all_goals rw [flight]

/-- An own event's release as a whole, from what was applied. -/
theorem State.ownReleased (hi : s.leastHead = some (.own x)) (can : s.CanRelease x.key)
    (he : s.elementAt x.element = some e) (h : (s.stepped (.own x)).OwnApplied x e f ts (s.ownApply x e)) :
    s.OwnReleased x e f ((s.ownApply x e).record x e) ts s.releaseAct := by
  obtain ⟨keptTimers, keptStation, keptSettings, keptIslands, keptSources⟩ := s.stepped_own_keeps x
  have act := State.ownAct_releaseAct hi can he
  have islands : (s.ownApply x e).state.islands = s.islands := by rw [h.frame]; exact keptIslands
  obtain ⟨starts, stays⟩ := (s.ownApply x e).state.relabelStarted_islands (.own x) (nodes := e.nodes) (p := x.position)
    (q := e.current)
  rw [islands] at starts stays
  have source (n : Nat) : s.releaseAct.source n = ((s.stepped (.own x)).placed x e).source n :=
    State.source_congr (act.sources.trans h.sources) n
  have starting : (s.stepped (.own x)).StartsChatter x e ↔ s.StartsChatter x e := by
    simp only [State.StartsChatter, State.chatterCount, keptSettings]
  have watch : f.watch = e.watch := by rw [h.fields]; rfl
  have element : (s.ownApply x e).state.elementAt x.element = some f := h.element
  refine {
    frame := act.frame, element := ?_, elements := fun n hn => ?_, fields := h.fields, source := fun hx => ?_
    sources := fun n hn => ?_, relabels := fun nodes moved => ?_, keepsLabels := fun still => ?_, engine := act.engine
    owes := fun v hv => ?_, suppressed := fun none => ?_
    travelTimers := h.travelTimers.congr keptTimers (congrArg _ keptStation), chatterTimers := fun set => ?_
    otherTimers := fun set => ?_, reformed := State.reformed_releaseAct hi can }
  · rw [State.elementAt_congr act.elements, element]
  · rw [State.elementAt_congr act.elements]
    exact (h.elements n hn).trans (s.elementAt_stepped _ n)
  · rw [source, State.source_placed, if_pos ⟨rfl, hx⟩, State.source_congr keptSources]
  · rw [source, State.source_placed, if_neg fun same => hn same.1, State.source_congr keptSources]
  · exact act.islands.trans (starts nodes moved)
  · exact act.islands.trans (stays still)
  · rw [act.inFlight, State.ownFlies, hv]
    rfl
  · rw [act.inFlight, State.ownFlies, none]
    have relabel : (s.ownApply x e).state.islands.relabel = Option.none := by rw [islands]; exact can.engine.relabel
    refine (State.enterFlight_suppressed element relabel).trans ?_
    rw [watch]
    simp only [x.relabels_iff e]
  · rw [act.timers, h.chatterTimers (set.imp_right starting.2), keptSettings]
    exact State.timerMoved_congr (congrArg _ keptStation) _ _ _ _
  · exact act.timers.trans (h.otherTimers fun other => set (other.imp_right starting.1))

end

/-- Settles O45: the applied own event gives the element, the source and the timers, the flight of the item the record owed,
and the act around them the rest. -/
theorem ownEventIsReleased : Obligations.OwnEventIsReleased := by
  intro s x e hi can he
  obtain ⟨f, ts, applied⟩ := State.exists_ownApplied (x := x) ((s.elementAt_stepped (.own x) _).trans he)
  have released := State.ownReleased hi can he applied
  have act := State.ownAct_releaseAct hi can he
  have suppressed : (s.ownApply x e).suppressed = (e.chatter == .chattering) := applied.suppressed
  refine ⟨s.releaseAct, f, _, ts, exec_release s, released, fun chattering => ?_, fun normal => ?_, fun same => ?_⟩
  · exact if_pos (suppressed.trans (by rw [chattering]; rfl))
  · have owed : ¬ (s.ownApply x e).suppressed = true := by
      rw [suppressed, normal]
      decide
    exact ⟨eventRecord x e.current (s.ownApply x e), if_neg owed, rfl⟩
  · obtain ⟨unmoved, timers, chatterStart, lateTravel, travelTime⟩ := applied.noChange same
    refine ⟨?_, act.timers.trans (timers.trans (s.stepped_own_keeps x).1), fun v hv => ?_⟩
    · rw [unmoved, PendingEntry.placed, same]
    · have owed : v = eventRecord x e.current (s.ownApply x e) := by
        unfold Applied.record at hv
        split at hv
        · cases hv
        · exact (Option.some.inj hv).symm
      rw [owed]
      exact ⟨chatterStart, lateTravel, travelTime⟩

end Sys2Proof.Machine
end

section
/-! SUPPORT. The completion test over one act (R124): what an act writes of the station state, the COMPLETE flag and the record
owed, and where the conditions may come to hold. -/

namespace Sys2Proof.Machine

/-! ## What completion speaks of -/

/-- What completion writes: the station state, the COMPLETE flag and the COMPLETE record owed. -/
def State.endMarks (s : State) := (s.station.state, s.attention.flags.complete, s.engine.completeOwed)

/-- The marks of completion and the conditions of R124. -/
def State.endParts (s : State) := (s.endMarks, s.drained)

/-- In the act from `s` to `t` the station completes exactly where the conditions of R124 come to hold, and no mark of
completion arises otherwise. -/
structure State.CompletionFollows (s t : State) : Prop where
  completes : s.ComesToEnd t →
    t.station.state = .complete ∧ t.attention.flags.complete = true ∧ t.engine.completeOwed = true
  otherwise : ¬ s.ComesToEnd t → t.station.state = .replaying ∧
    (t.attention.flags.complete = true → s.attention.flags.complete = true) ∧
    (t.engine.completeOwed = true → s.engine.completeOwed = true)

/-- An act within one epoch, in REPLAYING with no command waiting, over which completion follows. -/
def State.EndsRightly (s t : State) : Prop :=
  s.BoundsAgree → s.station.state = .replaying → s.console.inFlight = none → t.inService = true →
    t.station.epoch = s.station.epoch → s.CompletionFollows t

section
variable {s t u : State}

theorem State.Drained.congr (h : t.Drained) (e : t.drained = s.drained) : s.Drained :=
  s.drained_iff.1 (e ▸ t.drained_iff.2 h)

/-! ## The three kinds of acts -/

/-- An act in which the conditions do not come to hold, and which sets none of the marks. -/
theorem State.completionFollows_of_unended (hr : s.station.state = .replaying) (state : t.station.state = s.station.state)
    (flag : t.attention.flags.complete = true → s.attention.flags.complete = true)
    (owed : t.engine.completeOwed = true → s.engine.completeOwed = true) (drained : t.Drained → s.Drained) :
    s.CompletionFollows t :=
  ⟨fun ends => absurd (drained ends.2.2) ends.2.1, fun _ => ⟨state.trans hr, flag, owed⟩⟩

/-- An act that writes nothing of this. -/
theorem State.endsRightly_kept (e : t.endParts = s.endParts) : s.EndsRightly t := by
  simp only [State.endParts, State.endMarks, Prod.mk.injEq] at e
  obtain ⟨⟨state, flag, owed⟩, drained⟩ := e
  intro _ hr _ _ _
  exact State.completionFollows_of_unended hr state (fun h => flag ▸ h) (fun h => owed ▸ h) fun h => h.congr drained

theorem State.EndsRightly.refl (s : State) : s.EndsRightly s := State.endsRightly_kept rfl

/-- An act outside REPLAYING, or one that ends the epoch. -/
theorem State.endsRightly_of_epoch
    (h : s.station.state = .replaying → t.inService = true → t.station.epoch ≠ s.station.epoch) : s.EndsRightly t :=
  fun _ hr _ hs he => absurd he (h hr hs)

/-- What is re-formed writes of the conditions LW alone (R75, R76). -/
theorem State.drained_settle (u b : State) : (u.settle b).drained = u.reformBounds.drained := by
  rw [State.settle_eq, State.retimed_spec]
  rfl

theorem State.settle_completeFlag (u b : State) :
    (u.settle b).attention.flags.complete = u.attention.flags.complete := by
  rw [State.settle_eq, State.retimed_spec]
  rfl

/-- An act that takes no test: the conditions must not come to hold in it. -/
theorem State.endsRightly_settle (e : u.endMarks = s.endMarks)
    (drained : s.BoundsAgree → s.station.state = .replaying → u.reformBounds.Drained → s.Drained) :
    s.EndsRightly (u.settle s) := by
  simp only [State.endMarks, Prod.mk.injEq] at e
  obtain ⟨state, flag, owed⟩ := e
  intro hb hr _ _ _
  refine State.completionFollows_of_unended hr ?_ ?_ ?_ fun h => drained hb hr (h.congr (u.drained_settle s))
  · rw [State.settle_station, state]
  · rw [State.settle_completeFlag, flag]
    exact id
  · rw [State.settle_engine, owed]
    exact id

/-- An act that takes the test, whatever it wrote besides the marks. -/
theorem State.endsRightly_settleComplete (e : u.endMarks = s.endMarks) : s.EndsRightly (u.settleComplete s) := by
  simp only [State.endMarks, Prod.mk.injEq] at e
  obtain ⟨state, flag, owed⟩ := e
  intro _ hr _ _ _
  let begun : State := { s with
    station := u.station, clock := { u.clock with integer := s.clock.integer }, attention := u.attention
    engine := { s.engine with completeOwed := u.engine.completeOwed }, tx := u.tx }
  have reformed : begun.ReformedWith u (u.settleComplete s) :=
    State.settleComplete_reformedWith ⟨rfl, rfl, rfl, rfl, rfl, ⟨rfl, rfl⟩, rfl, rfl, rfl, id⟩ rfl rfl rfl rfl
  have drained : begun.Drained ↔ s.Drained := ⟨fun h => h.congr rfl, fun h => h.congr rfl⟩
  have ends : s.ComesToEnd (u.settleComplete s) ↔ begun.ComesToEnd (u.settleComplete s) := by
    simp only [State.ComesToEnd, drained, begun, state]
  refine ⟨fun h => ?_, fun h => ?_⟩
  · obtain ⟨complete, flagged, owes⟩ := reformed.completes (ends.1 h)
    exact ⟨congrArg Station.state complete, flagged, owes⟩
  · obtain ⟨station, flagged, owes⟩ := reformed.otherwise (ends.not.1 h)
    refine ⟨(congrArg Station.state station).trans (state.trans hr), ?_, ?_⟩
    · rw [flagged]
      exact fun h => flag ▸ h
    · rw [owes]
      exact fun h => owed ▸ h

/-- A record queued after an act. -/
theorem State.EndsRightly.enqueue (m : s.EndsRightly t) (b : RecordBody) : s.EndsRightly (t.enqueue b) := by
  intro hb hr hi hs he
  have follows := m hb hr hi hs he
  have drained : (t.enqueue b).Drained ↔ t.Drained := ⟨fun h => h.congr rfl, fun h => h.congr rfl⟩
  have ends : s.ComesToEnd (t.enqueue b) ↔ s.ComesToEnd t := by simp only [State.ComesToEnd, drained]
  exact ⟨fun h => follows.completes (ends.1 h), fun h => follows.otherwise (ends.not.1 h)⟩

/-- An act on the state with the ports of the command unit or the queue of commands written. -/
theorem State.EndsRightly.ofPorts {c : CommandUnit} {p : List Instr}
    (m : ({ s with console := c, pending := p } : State).EndsRightly t)
    (hc : s.console.inFlight = none → c.inFlight = none) : s.EndsRightly t := by
  intro hb hr hi hs he
  have follows := m ⟨hb.lw, hb.safeTime, hb.limiting⟩ hr (hc hi) hs he
  have drained : ({ s with console := c, pending := p } : State).Drained ↔ s.Drained :=
    ⟨fun h => h.congr rfl, fun h => h.congr rfl⟩
  have ends : ({ s with console := c, pending := p } : State).ComesToEnd t ↔ s.ComesToEnd t := by
    simp only [State.ComesToEnd, drained]
  exact ⟨fun h => follows.completes (ends.2 h), fun h => follows.otherwise (ends.not.2 h)⟩

/-- No command waits, so none is decided after the act. -/
theorem State.EndsRightly.decideWaiting (m : s.EndsRightly t)
    (hc : s.console.inFlight = none → t.console.inFlight = none) : s.EndsRightly t.decideWaiting := by
  intro hb hr hi
  rw [State.decideWaiting_none (hc hi)]
  exact m hb hr hi

/-! ## LW at END (R75) -/

/-- Where every open source's watermark below END is still below END, LW does not come to END. -/
theorem State.localWatermark_eq_endTime (hc : s.beforeCommit = false) (h : u.localWatermark = endTime)
    (below : ∀ n w, (s.source n).bound = some w → w < endTime → ∃ w', (u.source n).bound = some w' ∧ w' < endTime) :
    s.localWatermark = endTime := by
  have formed : s.localWatermark = leastBound (s.sources.toList.filterMap Source.bound) :=
    if_neg (Bool.eq_false_iff.1 hc)
  obtain ⟨least, -⟩ := (le_leastBound_iff (leastBound _) (s.sources.toList.filterMap Source.bound)).1 le_rfl
  rw [formed]
  refine Nat.le_antisymm least ((le_leastBound_iff _ _).2 ⟨le_rfl, fun w hw => Nat.not_lt.1 fun lt => ?_⟩)
  obtain ⟨r, mem, bound⟩ := List.mem_filterMap.1 hw
  obtain ⟨n, rfl⟩ := State.exists_source_of_mem mem
  obtain ⟨w', bound', lt'⟩ := below n w bound lt
  obtain ⟨opened, watermark⟩ := (Source.bound_eq_some_iff _ _).1 bound'
  exact absurd (State.localWatermark_le ((Source.isOpen_iff _).2 opened) watermark) (Nat.not_le.2 (h ▸ lt'))

/-- A corrected time lies below END, so a watermark raised to it comes to END from END alone (R30). -/
theorem State.localWatermark_of_raised {n c : Nat} {r : Source} (hr : s.station.state = .replaying)
    (sources : u.sources = (s.setSource n r).sources) (opened : r.isOpen = true)
    (watermark : r.watermark = some (max ((s.source n).watermark.getD 0) c)) (hc : c ≤ maxTime)
    (h : u.localWatermark = endTime) : s.localWatermark = endTime := by
  have commit : s.beforeCommit = false := by simp only [State.beforeCommit, hr]; rfl
  refine State.localWatermark_eq_endTime commit h fun m w bound lt => ?_
  rw [State.source_congr sources, State.source_setSource]
  split
  · rename_i same
    obtain ⟨-, held⟩ := (Source.bound_eq_some_iff _ _).1 bound
    rw [same.1] at held
    refine ⟨max w c, (Source.bound_eq_some_iff _ _).2 ⟨(Source.isOpen_iff r).1 opened, ?_⟩,
      Nat.max_lt.2 ⟨lt, Nat.lt_of_le_of_lt hc (by decide)⟩⟩
    rw [watermark, held]
    rfl
  · exact ⟨w, bound, lt⟩

/-- The conditions with LW re-formed, in an act that writes none of the others. -/
theorem State.drained_of_localWatermark (hb : s.BoundsAgree) (h : u.reformBounds.Drained)
    (kept : u.reformBounds.drained = ({ s with horizon := u.reformBounds.horizon } : State).drained)
    (lw : u.localWatermark = endTime → s.localWatermark = endTime) : s.Drained := by
  exact { h.congr kept with lw := hb.lw.trans (lw h.lw) }


/-- An act that leaves the sources' bounds leaves LW. -/
theorem State.TablesKept.localWatermark (k : s.TablesKept t) : t.localWatermark = s.localWatermark :=
  State.localWatermark_congr k.commit k.sourceBound

end

end Sys2Proof.Machine
end

section
/-! SUPPORT. Completion over the feed records, the merge act and the commands. -/

namespace Sys2Proof.Machine

section
variable {s t u : State}

/-! ## Reports and answers -/

theorem State.report_endParts (s : State) (k : ErrorKind) (x : Option Nat) : (s.report k x).endParts = s.endParts := by
  unfold State.report
  dsimp only
  split <;> rfl

theorem State.endsRightly_report (s : State) (k : ErrorKind) (x : Option Nat) : s.EndsRightly (s.report k x) :=
  State.endsRightly_kept (s.report_endParts k x)

theorem State.endsRightly_placeAnswer (s : State) (a : Answer) : s.EndsRightly (s.placeAnswer a) :=
  State.endsRightly_kept rfl

theorem State.endsRightly_feedWriteStart (s : State) : s.EndsRightly s.feedWriteStart := by
  unfold State.feedWriteStart
  split
  · exact State.endsRightly_kept rfl
  · exact s.endsRightly_report _ _

theorem State.endsRightly_commandWriteStart (s : State) : s.EndsRightly s.commandWriteStart := by
  unfold State.commandWriteStart
  split
  · exact s.endsRightly_report _ _
  · exact State.endsRightly_kept rfl

/-- A record is refused, ignored, or handed to its own work (R3, R5). -/
theorem State.endsRightly_receiveRecord (s : State) (kind : Byte) {verdict : Option AnswerReason} {work : State → State}
    (hw : verdict = none → s.EndsRightly (work s)) : s.EndsRightly (s.receiveRecord kind verdict work) := by
  unfold State.receiveRecord
  split
  · split
    · exact s.endsRightly_placeAnswer _
    · exact hw rfl
  · exact .refl s

/-! ## Records of a source (file 01) -/

theorem State.endsRightly_takeSegment (b : SegmentBody) : s.EndsRightly (s.takeSegment b) := by
  unfold State.takeSegment
  dsimp only
  split
  · exact s.endsRightly_placeAnswer _
  · split
    · exact s.endsRightly_placeAnswer _
    · exact State.endsRightly_kept rfl

/-- PROGRESS raises a watermark, which does not come to END (R17, R30). -/
theorem State.endsRightly_takeProgress (b : ProgressBody) : s.EndsRightly (s.takeProgress b) := by
  unfold State.takeProgress
  dsimp only
  split
  · exact s.endsRightly_placeAnswer _
  · rename_i hc
    obtain ⟨state, -⟩ := (s.source b.source.toNat).promote_keeps b.bound.toNat
    refine State.endsRightly_settle rfl fun hb hr ends => State.drained_of_localWatermark hb ends rfl ?_
    refine State.localWatermark_of_raised hr rfl ?_ ?_ (corrected_le_maxTime
      ((s.source b.source.toNat).promote b.bound.toNat).segment b.bound.toNat)
    · rw [← State.isOpen_of_sourceCheck hc]
      simp only [Source.isOpen, state]
    · dsimp only
      rw [Source.promote_watermark]

theorem State.endsRightly_takeEndSource (n : Byte) : s.EndsRightly (s.takeEndSource n) := by
  unfold State.takeEndSource
  dsimp only
  split
  · exact s.endsRightly_placeAnswer _
  · exact State.endsRightly_settleComplete rfl

/-- An EVENT admitted raises its source's watermark, which does not come to END (R7, R30). -/
theorem State.endsRightly_admitEvent (b : EventBody) (p : PointEntry) (position : Position) (c : SequenceClass)
    (ordinal : Nat) : s.EndsRightly (s.admitEvent b p position c ordinal) := by
  have reported (cl ro ga : Bool) : (s.eventReports b.source.toNat cl ro ga).endParts = s.endParts := by
    have one (v : State) (c : Bool) (k : ErrorKind) (x : Option Nat) : (v.reportIf c k x).endParts = v.endParts := by
      cases c
      · rfl
      · exact v.report_endParts k x
    simp only [State.eventReports, one]
  have marks (cl ro ga : Bool) : (s.eventReports b.source.toNat cl ro ga).endMarks = s.endMarks :=
    congrArg Prod.fst (reported cl ro ga)
  rw [State.admitEvent_eq]
  refine State.endsRightly_settle (marks _ _ _) fun hb hr ends => ?_
  rw [State.eventReports_frame] at ends
  refine State.drained_of_localWatermark hb ends rfl ?_
  refine State.localWatermark_of_raised hr rfl rfl ?_ (corrected_le_maxTime
      ((s.source b.source.toNat).promote b.raw.toNat).segment b.raw.toNat)
  simp only [Source.commitEvent, heldTime, Source.promote_watermark, Nat.max_comm]

theorem State.endsRightly_takeEvent (b : EventBody) : s.EndsRightly (s.takeEvent b) := by
  unfold State.takeEvent
  dsimp only
  split
  · exact s.endsRightly_placeAnswer _
  · split
    · exact s.endsRightly_placeAnswer _
    · split
      · exact State.endsRightly_kept (State.report_endParts (s.countSource _ _) _ _)
      · rename_i ordinal _ _ p _
        have admitted (c : SequenceClass) : s.EndsRightly (match s.admission b.source.toNat p.element with
            | some a =>
              (s.countSource b.source.toNat fun k => { k with deferred := satSucc max32 k.deferred }).placeAnswer a
            | none => s.admitEvent b p ((Position.ofReport b.position).getD .bad) c ordinal) := by
          split
          · exact State.endsRightly_kept rfl
          · exact State.endsRightly_admitEvent _ _ _ _ _
        split
        · exact State.endsRightly_kept (State.report_endParts (s.countSource _ _) _ _)
        · exact admitted .inOrder
        · exact admitted (.gap _)

/-! ## The merge act (R55) -/

theorem ne_nil_insertByKey {α : Type} (key : α → Key) (x : α) (xs : List α) : insertByKey key x xs ≠ [] :=
  List.ne_nil_of_length_eq_add_one (length_insertByKey x xs)

/-- A merge leaves an entry in the Pending Queue, or leaves the lists and the sources' bounds (R48, R51). -/
theorem State.mergeEvent_cases (e : Intake) (x : Candidate) (hx : ∀ p, x.pending = some p → p ∈ s.pendingQueue) :
    (s.mergeEvent e x).pendingQueue ≠ [] ∨
      s.mergeEvent e x = (s.countMerge e x.quality x.time).placeAnswer (answerMerged kindEvent) := by
  have counted (v : State) (q time : Nat) : (v.countMerge e q time).pendingQueue = v.pendingQueue := by
    unfold State.countMerge
    dsimp only
    split <;> rfl
  unfold State.mergeEvent
  dsimp only
  split
  · rename_i p hp
    refine .inl ?_
    rw [State.placeAnswer_pendingQueue]
    split
    · exact ne_nil_insertByKey _ _ _
    · rw [counted]
      exact fun none => List.ne_nil_of_mem (hx p hp) (List.map_eq_nil_iff.1 none)
  · exact .inr rfl

theorem State.countMerge_frame (s : State) (e : Intake) (q time : Nat) :
    s.countMerge e q time = { s with sources := (s.countMerge e q time).sources } := by
  unfold State.countMerge
  dsimp only
  split <;> rfl

theorem State.endMarks_mergeEvent (s : State) (e : Intake) (x : Candidate) : (s.mergeEvent e x).endMarks = s.endMarks := by
  unfold State.mergeEvent
  dsimp only
  split
  · split
    · rfl
    · rw [State.countMerge_frame]
      rfl
  · rw [State.countMerge_frame]
    rfl

theorem State.endsRightly_mergeAct (s : State) : s.EndsRightly s.mergeAct := by
  unfold State.mergeAct
  split
  · rename_i e _
    split
    · refine State.endsRightly_settle rfl fun _ _ ends => ?_
      exact absurd ends.lists.1 (ne_nil_insertByKey _ _ _)
    · rename_i x hx
      refine State.endsRightly_settle (s.endMarks_mergeEvent e x) fun hb _ ends => ?_
      rcases State.mergeEvent_cases e x fun p hp => State.mem_pendingQueue_of_findMatch hx hp with held | counted
      · exact absurd ends.lists.1 held
      · have kept : s.TablesKept ((s.countMerge e x.quality x.time).placeAnswer (answerMerged kindEvent)) :=
          .placeAnswer (State.TablesKept.countMerge (.refl s) e _ _)
        rw [counted] at ends
        refine State.drained_of_localWatermark hb ends ?_ kept.localWatermark.symm.trans
        rw [State.countMerge_frame]
        rfl
  · exact .refl s

/-! ## Commands (R135) -/

theorem State.uncounted_iff (s : State) :
    (∀ p ∈ s.peers.toList, p.counted = false) ↔ ∀ n, (s.peer n).counted = false := by
  have counted := s.exists_mem_peers_iff (P := fun p => p.counted = true) (by decide)
  simpa only [not_exists, not_and, Bool.not_eq_true] using counted.not

theorem State.excluded_of_include {n b : Byte} (h : s.commandTest (.includePeer n b) = none) :
    (s.peer b.toNat).state = .excluded := by
  have own := State.ownTest_of_commandTest h
  rw [State.ownTest_includePeer] at own
  by_contra other
  rw [if_pos other] at own
  cases own

/-- INCLUDE finds a peer that is EXCLUDED and leaves one that is ENDED or ACTIVE, so it lifts no condition (R80, R93). -/
theorem State.endsRightly_includeAct {n : Nat} (h : (s.peer n).state = .excluded) : s.EndsRightly (s.includeAct n) := by
  refine State.endsRightly_settle rfl fun hb _ ends => ?_
  obtain ⟨lw, peers, lists, outgoing, idle⟩ := ends
  refine ⟨hb.lw.trans lw, s.uncounted_iff.2 fun m => ?_, lists, outgoing, idle⟩
  by_cases same : m = n
  · rw [same, Peer.counted, h]
  · have uncounted : ((s.setPeer n (s.peer n).toIncluded).peer m).counted = false := (State.uncounted_iff _).1 peers m
    rwa [State.peer_setPeer_of_ne _ _ same] at uncounted

theorem State.endsRightly_watchAct (s : State) (n : Nat) (m : WatchMark) : s.EndsRightly (s.watchAct n m) := by
  unfold State.watchAct
  split
  · exact State.endsRightly_kept rfl
  · exact .refl s

/-- CLEAR_FLAGS may clear the COMPLETE flag, and sets none (R138). -/
theorem State.endsRightly_clearFlagsAct (s : State) (f : Byte) : s.EndsRightly (s.clearFlagsAct f) := by
  intro _ hr _ _ _
  refine State.completionFollows_of_unended hr rfl (fun set => (Bool.and_eq_true_iff.1 set).1) id fun ends =>
    ends.congr rfl

theorem State.endsRightly_commandEffect {c : Command} (h : s.commandTest c = none) :
    s.EndsRightly (s.commandEffect c) := by
  cases c with
  | start _ =>
    refine State.endsRightly_of_epoch fun hr => ?_
    cases (beq_iff_eq.1 (State.accepted_of_commandTest h)).symm.trans hr
  | excludePeer _ _ => exact State.endsRightly_settleComplete rfl
  | includePeer _ _ => exact State.endsRightly_includeAct (State.excluded_of_include h)
  | watchSet _ _ _ => exact s.endsRightly_watchAct _ _
  | watchClear _ _ => exact s.endsRightly_watchAct _ _
  | restart _ _ =>
    refine State.endsRightly_of_epoch fun _ _ => ?_
    rw [State.commandEffect, State.restartAct_epoch]
    exact next_epoch_ne _
  | clearFlags _ f => exact s.endsRightly_clearFlagsAct f
  | hold _ => exact State.endsRightly_kept rfl
  | resume _ => exact State.endsRightly_kept rfl
  | step _ => exact State.endsRightly_kept rfl
  | setRate _ _ => exact State.endsRightly_kept rfl
  | holdAt _ _ => exact State.endsRightly_kept rfl
  | skipOn _ => exact State.endsRightly_kept rfl
  | skipOff _ => exact State.endsRightly_kept rfl
  | snapshot _ => exact State.endsRightly_kept rfl
  | skew _ => exact State.endsRightly_kept rfl
  | mask _ _ => exact State.endsRightly_kept rfl
  | status _ => exact .refl s
  | malformed _ => exact .refl s

theorem State.endsRightly_decideCommand (s : State) (c : Command) : s.EndsRightly (s.decideCommand c) := by
  unfold State.decideCommand
  dsimp only
  split
  · exact State.endsRightly_kept rfl
  · rename_i hc
    exact State.EndsRightly.ofPorts (p := s.pending) ((State.endsRightly_commandEffect hc).enqueue _) fun _ => rfl

theorem State.endsRightly_submit (s : State) (c : Command) : s.EndsRightly (s.submit c) := by
  by_cases hw : s.console.writing = true
  · rw [State.submit_spec hw]
    split
    · exact State.EndsRightly.ofPorts (p := s.pending) (s.written.endsRightly_decideCommand c) fun _ => rfl
    · exact State.endsRightly_kept rfl
  · rw [State.submit, if_neg hw]
    exact .refl s

end

end Sys2Proof.Machine
end

section
/-! SUPPORT. Completion over the link, the peer table, delivery, islands, the release engine and the clock. -/

namespace Sys2Proof.Machine

section
variable {s t u : State}

/-! ## Link (file 04) -/

theorem State.drained_congr_outgoing {cs : List OutgoingCopy} (h : cs.isEmpty = s.outgoing.isEmpty) :
    ({ s with outgoing := cs } : State).drained = s.drained := by
  simp only [State.drained, State.anyCounted, h]

theorem isEmpty_abandonCopies (cs : List OutgoingCopy) : (abandonCopies cs).isEmpty = cs.isEmpty := List.isEmpty_map

theorem isEmpty_holdFirst (cs : List OutgoingCopy) : (holdFirst cs).isEmpty = cs.isEmpty := by
  cases cs <;> rfl

theorem State.endsRightly_heartbeatAct (s : State) : s.EndsRightly s.heartbeatAct := by
  unfold State.heartbeatAct
  split
  · exact State.endsRightly_kept rfl
  · exact .refl s

theorem State.endsRightly_buildFrame (s : State) (quietBits : Nat) : s.EndsRightly (s.buildFrame quietBits) := by
  unfold State.buildFrame
  split
  · exact State.endsRightly_kept (congrArg (s.endMarks, ·) (s.drained_congr_outgoing (isEmpty_holdFirst _)))
  · exact .refl s

/-- The copies of a frame abandoned stay in the outgoing change set (R41). -/
theorem State.endsRightly_failFrame (s : State) (retry : TxState) : s.EndsRightly (s.failFrame retry) := by
  have drained := s.drained_congr_outgoing (isEmpty_abandonCopies s.outgoing)
  unfold State.failFrame
  dsimp only
  split
  · exact State.endsRightly_kept ((State.report_endParts _ _ _).trans (congrArg (s.endMarks, ·) drained))
  · exact State.endsRightly_kept (congrArg (s.endMarks, ·) drained)

theorem State.endsRightly_collide (s : State) (bit : Nat) : s.EndsRightly (s.collide bit) := by
  unfold State.collide
  split
  · split
    · exact s.endsRightly_failFrame _
    · exact .refl s
  all_goals exact .refl s

theorem State.endsRightly_transmitError (s : State) (bit : Nat) : s.EndsRightly (s.transmitError bit) := by
  unfold State.transmitError
  split
  · split
    · exact s.endsRightly_failFrame _
    · exact .refl s
  all_goals exact .refl s

theorem State.endsRightly_countBackoff (s : State) (quietBits : Nat) : s.EndsRightly (s.countBackoff quietBits) := by
  unfold State.countBackoff
  split
  · exact State.endsRightly_kept rfl
  all_goals exact .refl s

theorem State.endsRightly_expireMute (s : State) : s.EndsRightly s.expireMute := by
  unfold State.expireMute
  split
  · split
    · exact State.endsRightly_kept rfl
    · exact .refl s
  all_goals exact .refl s

theorem State.endsRightly_frameSent (s : State) : s.EndsRightly s.frameSent := by
  unfold State.frameSent
  split
  · exact State.endsRightly_settleComplete rfl
  all_goals exact .refl s

theorem State.endsRightly_rejectSync (s : State) (p : Preamble) (delimiter : Byte) :
    s.EndsRightly (s.rejectSync p delimiter) := by
  unfold State.rejectSync
  split
  · exact State.endsRightly_kept (State.report_endParts _ _ _)
  · exact .refl s

theorem State.endsRightly_openFrame (s : State) (p : Preamble) (delimiter : Byte) :
    s.EndsRightly (s.openFrame p delimiter) := by
  unfold State.openFrame
  split
  · exact State.endsRightly_kept rfl
  · exact .refl s

theorem State.endParts_placeFrame (s : State) (f : Frame) : (s.placeFrame f).endParts = s.endParts := by
  unfold State.placeFrame
  split
  · rfl
  · split
    · rfl
    · exact State.report_endParts _ _ _

theorem State.endParts_duplicateStation (s : State) : s.duplicateStation.endParts = s.endParts :=
  (State.report_endParts _ _ _).trans
    (congrArg (s.endMarks, ·) (s.drained_congr_outgoing (isEmpty_abandonCopies s.outgoing)))

theorem State.endsRightly_receiveFrame (s : State) (bits : Bits) (own : Bool) :
    s.EndsRightly (s.receiveFrame bits own) := by
  unfold State.receiveFrame
  split
  · split
    · exact State.endsRightly_kept (State.report_endParts _ _ _)
    · exact State.endsRightly_kept (State.report_endParts _ _ _)
    · dsimp only
      split
      · exact State.endsRightly_kept rfl
      · split
        · exact State.endsRightly_kept (State.endParts_duplicateStation _)
        · exact State.endsRightly_kept (State.endParts_placeFrame _ _)
  all_goals exact .refl s

/-! ## Peer table (file 05) -/

theorem State.FrameWrites.endMarks (h : s.FrameWrites u) : u.endMarks = s.endMarks := by
  rw [h]
  rfl

theorem State.endsRightly_beginFrame (s : State) (f : Frame) (entries : Nat) : s.EndsRightly (s.beginFrame f entries) := by
  have counted : s.FrameWrites (s.countFrame f.sender) := rfl
  have waits {t : State} (h : t.console.inFlight = s.console.inFlight) :
      s.console.inFlight = none → t.console.inFlight = none := h.trans
  unfold State.beginFrame
  dsimp only
  split
  · have taken : s.FrameWrites ((s.countFrame f.sender).acceptFrame f entries) :=
      counted.trans ((s.countFrame f.sender).frameWrites_acceptFrame f entries)
    refine (State.endsRightly_settleComplete taken.endMarks).decideWaiting (waits ?_)
    rw [State.settleComplete_console, taken]
  · rename_i other
    split
    · refine State.EndsRightly.decideWaiting (State.endsRightly_of_epoch fun _ _ => ?_) (waits ?_)
      · rw [State.restartAct_epoch]
        exact other
      · rw [State.restartAct_eq, State.settle_console]
        rfl
    · refine State.EndsRightly.decideWaiting (State.endsRightly_settleComplete rfl) (waits ?_)
      rw [State.settleComplete_console]
      rfl

theorem State.endsRightly_processFrame (s : State) (entries : Nat) : s.EndsRightly (s.processFrame entries) := by
  unfold State.processFrame
  split
  · rename_i pr _
    split
    · have taken := State.frameWrites_takeChanges pr.frame pr.tracked entries pr.remaining s
      refine (State.endsRightly_settleComplete taken.endMarks).decideWaiting fun hi => ?_
      rw [State.settleComplete_console, taken]
      exact hi
    · exact .refl s
  · split
    · exact .refl s
    · split
      · exact s.endsRightly_beginFrame _ entries
      · exact .refl s

/-- The peers counted are read by their numbers. -/
theorem State.anyCounted_congr (h : ∀ n, (t.peer n).counted = (s.peer n).counted) : t.anyCounted = s.anyCounted := by
  have mapped (v : State) : v.anyCounted = (v.peers.toList.map Peer.counted).any id := by
    rw [State.anyCounted, List.any_map]
    rfl
  rw [mapped, mapped, State.map_peers_congr h]

theorem State.drained_congr_peers (s : State) {ps : Vector Peer 16}
    (h : ({ s with peers := ps } : State).anyCounted = s.anyCounted) :
    ({ s with peers := ps } : State).drained = s.drained := by
  simp only [State.drained, h]

/-- An ACTIVE peer that turns SILENT stays counted (R80, R89). -/
theorem State.endsRightly_silencePeer (s : State) (n : Nat) : s.EndsRightly (s.silencePeer n) := by
  unfold State.silencePeer
  split
  · split
    · rename_i silent
      have counted (m : Nat) :
          ((s.updatePeer n fun p => { p with state := .silent, silence := none }).peer m).counted =
            (s.peer m).counted := by
        rw [State.peer_updatePeer]
        split
        · rename_i same
          rw [same.1, Peer.counted, Peer.counted, silent.1]
        · rfl
      exact State.endsRightly_kept (congrArg (s.endMarks, ·) (s.drained_congr_peers (State.anyCounted_congr counted)))
    · exact .refl s
  · exact .refl s

/-! ## Delivery (R98, R124, R133, R141), islands (file 08), SNAPSHOT (R122) -/

theorem State.endsRightly_beginRecord (s : State) : s.EndsRightly s.beginRecord := by
  unfold State.beginRecord
  split
  · exact .refl s
  · split
    · exact State.EndsRightly.decideWaiting (State.endsRightly_kept rfl) id
    · exact .refl s

theorem State.endsRightly_queueHoldState (s : State) : s.EndsRightly s.queueHoldState := by
  unfold State.queueHoldState
  split
  · exact State.endsRightly_kept rfl
  · exact .refl s

/-- The COMPLETE record queued is owed no more (R124). -/
theorem State.endsRightly_queueComplete (s : State) : s.EndsRightly s.queueComplete := by
  unfold State.queueComplete
  split
  · intro _ hr _ _ _
    exact State.completionFollows_of_unended hr rfl id nofun fun ends => ends.congr rfl
  · exact .refl s

theorem State.endsRightly_emitSkew (s : State) : s.EndsRightly s.emitSkew := by
  unfold State.emitSkew
  split
  · exact .refl s
  · split
    · exact .refl s
    · split
      · exact State.endsRightly_kept rfl
      · exact .refl s

theorem State.endMarks_endRelabel (s : State) (c : RelabelCause) : (s.endRelabel c).endMarks = s.endMarks := by
  cases c <;> rfl

/-- A relabel in flight before and after bars completion (R124). -/
theorem State.drained_of_relabel {r : Relabel} (h : s.islands.relabel = some r) : s.drained = false := by
  rw [← Bool.not_eq_true, State.drained_iff]
  exact fun ends => by cases h.symm.trans ends.idle.2.2

theorem State.endsRightly_computeRelabel (s : State) : s.EndsRightly s.computeRelabel := by
  unfold State.computeRelabel
  split
  · exact .refl s
  · rename_i r hr
    split
    · exact .refl s
    · dsimp only
      split
      · exact State.endsRightly_settleComplete (State.endMarks_endRelabel _ _)
      · refine State.endsRightly_kept (congrArg (s.endMarks, ·) ?_)
        rw [State.drained_of_relabel hr, State.drained_of_relabel rfl]

theorem State.endsRightly_emitIslands (s : State) : s.EndsRightly s.emitIslands := by
  unfold State.emitIslands
  split
  · exact .refl s
  · split
    · exact .refl s
    · split
      · exact State.endsRightly_settleComplete (State.endMarks_endRelabel (s.enqueue _) _)
      · exact .refl s

theorem State.endsRightly_beginEmission (s : State) : s.EndsRightly s.beginEmission := by
  unfold State.beginEmission
  split
  · exact State.endsRightly_kept rfl
  · exact .refl s

theorem State.endsRightly_emitElement (s : State) : s.EndsRightly s.emitElement := by
  unfold State.emitElement
  split
  · exact .refl s
  · exact .refl s
  · split
    · exact .refl s
    · split
      · exact State.endsRightly_kept rfl
      · exact .refl s

theorem State.endsRightly_emitLabels (s : State) : s.EndsRightly s.emitLabels := by
  unfold State.emitLabels
  split
  · exact .refl s
  · exact .refl s
  · split
    · exact State.endsRightly_kept rfl
    · exact .refl s

/-! ## The release engine (R110 to R121) and the apply step (R114) -/

theorem State.ItemWrites.endMarks (h : s.ItemWrites u) : u.endMarks = s.endMarks := by
  rw [h]
  rfl

theorem State.endsRightly_releaseAct (s : State) : s.EndsRightly s.releaseAct := by
  by_cases h : ∃ i, s.leastHead = some i ∧ s.CanRelease i.key
  · obtain ⟨i, hi, can⟩ := h
    rw [State.releaseAct_releases hi can]
    refine State.endsRightly_settleComplete ?_
    obtain ⟨-, -, -, complete⟩ := s.steppedTo_keeps i.key.time
    rw [State.releaseItem_frame, State.endMarks, complete]
    rfl
  · rw [State.releaseAct_stays fun i hi can => h ⟨i, hi, can⟩]
    exact .refl s

theorem State.endsRightly_queueReleaseRecord (s : State) : s.EndsRightly s.queueReleaseRecord := by
  unfold State.queueReleaseRecord
  split
  · exact .refl s
  · split
    · split
      · exact State.endsRightly_settleComplete (State.itemWrites_afterRecord _ _).endMarks
      · exact State.endsRightly_settleComplete rfl
      · exact .refl s
    · exact .refl s

theorem State.endsRightly_lateApply (s : State) : s.EndsRightly s.lateApply := by
  unfold State.lateApply
  split
  · exact .refl s
  · split
    · split
      · exact State.endsRightly_kept rfl
      · dsimp only
        split <;> exact State.endsRightly_settleComplete rfl
    · exact .refl s

/-! ## The clock (R95) and stall (R107) -/

/-- A tick moves timers and the clock, and counts no peer in or out. -/
theorem State.endsRightly_tick (s : State) : s.EndsRightly s.tick := by
  have counted (n : Nat) : (s.countTime.peer n).counted = (s.peer n).counted := by
    rw [State.peer_countTime]
    exact Peer.counted_congr (by rw [Peer.tick_eq])
  have marks : s.tick.endMarks = s.endMarks := by
    rw [State.endMarks, State.tick_attention, State.tick_keeps]
    rfl
  have drained : s.tick.drained = s.drained := by
    rw [State.tick_keeps]
    exact s.drained_congr_peers (State.anyCounted_congr counted)
  exact State.endsRightly_kept (congrArg₂ Prod.mk marks drained)

theorem State.endsRightly_stallAct (s : State) : s.EndsRightly s.stallAct := by
  unfold State.stallAct
  split
  · split
    · exact State.endsRightly_kept rfl
    · exact .refl s
  · exact .refl s

end

/-! ## Every step -/

/-- Every command is an act over which completion follows. -/
theorem State.endsRightly_exec {s t : State} {i : Instr} (he : Machine.exec i s = .next t) : s.EndsRightly t := by
  have acts {u : State} (hu : Machine.exec i s = .next u) (m : s.EndsRightly u) : s.EndsRightly t := by
    rw [hu] at he
    cases he
    exact m
  have described {u : State} {form inRange : Bool} (hv : screen form s.acceptsDescription inRange = none) :
      s.EndsRightly u := by
    refine State.endsRightly_of_epoch fun hr => ?_
    have before := State.beforeCommit_of_not_inService (State.not_inService_of_acceptsDescription (accepted_of_screen hv))
    rcases s.beforeCommit_iff.1 before with h | h <;> cases h.symm.trans hr
  cases i with
  | powerOnReset straps => exact acts rfl (State.endsRightly_of_epoch fun _ hs => by cases hs)
  | feedWriteStart => exact acts rfl s.endsRightly_feedWriteStart
  | stationSettings f b => exact acts rfl (s.endsRightly_receiveRecord kindSettings described)
  | declareSource f b => exact acts rfl (s.endsRightly_receiveRecord kindDeclare described)
  | element f b => exact acts rfl (s.endsRightly_receiveRecord kindElement described)
  | point f b => exact acts rfl (s.endsRightly_receiveRecord kindPoint described)
  | commit f =>
    refine acts rfl (s.endsRightly_receiveRecord kindCommit fun hv => State.endsRightly_of_epoch fun hr => ?_)
    cases hr.symm.trans (beq_iff_eq.1 (accepted_of_screen hv))
  | segment f b => exact acts rfl (s.endsRightly_receiveRecord kindSegment fun _ => State.endsRightly_takeSegment b)
  | event f b => exact acts rfl (s.endsRightly_receiveRecord kindEvent fun _ => State.endsRightly_takeEvent b)
  | progress f b => exact acts rfl (s.endsRightly_receiveRecord kindProgress fun _ => State.endsRightly_takeProgress b)
  | endSource f n =>
    exact acts rfl (s.endsRightly_receiveRecord kindEndSource fun _ => State.endsRightly_takeEndSource n)
  | malformedFeedRecord kind n => exact acts rfl (s.endsRightly_receiveRecord kind fun _ => State.endsRightly_kept rfl)
  | mergeAct => exact acts rfl s.endsRightly_mergeAct
  | commandWriteStart => exact acts rfl s.endsRightly_commandWriteStart
  | start n => exact acts rfl (s.endsRightly_submit _)
  | hold n => exact acts rfl (s.endsRightly_submit _)
  | resume n => exact acts rfl (s.endsRightly_submit _)
  | step n => exact acts rfl (s.endsRightly_submit _)
  | setRate n r => exact acts rfl (s.endsRightly_submit _)
  | holdAt n w => exact acts rfl (s.endsRightly_submit _)
  | skipOn n => exact acts rfl (s.endsRightly_submit _)
  | skipOff n => exact acts rfl (s.endsRightly_submit _)
  | watchSet n e k => exact acts rfl (s.endsRightly_submit _)
  | watchClear n e => exact acts rfl (s.endsRightly_submit _)
  | excludePeer n p => exact acts rfl (s.endsRightly_submit _)
  | includePeer n p => exact acts rfl (s.endsRightly_submit _)
  | snapshot n => exact acts rfl (s.endsRightly_submit _)
  | status n => exact acts rfl (s.endsRightly_submit _)
  | skew n => exact acts rfl (s.endsRightly_submit _)
  | restart n b => exact acts rfl (s.endsRightly_submit _)
  | clearFlags n f => exact acts rfl (s.endsRightly_submit _)
  | mask n m => exact acts rfl (s.endsRightly_submit _)
  | malformedCommand k => exact acts rfl (s.endsRightly_submit _)
  | consoleReadyAssert => exact acts rfl (State.endsRightly_kept rfl)
  | consoleReadyWithdraw => exact acts rfl (State.endsRightly_kept rfl)
  | deliveryRecordBegin => exact acts rfl s.endsRightly_beginRecord
  | deliveryRecordEnd => exact acts rfl (State.endsRightly_kept rfl)
  | heartbeat => exact acts rfl s.endsRightly_heartbeatAct
  | frameBuild q => exact acts rfl (s.endsRightly_buildFrame q)
  | collision bit => exact acts rfl (s.endsRightly_collide bit)
  | transmitError bit => exact acts rfl (s.endsRightly_transmitError bit)
  | frameSentWhole => exact acts rfl s.endsRightly_frameSent
  | backoffDone q => exact acts rfl (s.endsRightly_countBackoff q)
  | muteExpiry => exact acts rfl s.endsRightly_expireMute
  | syncReject p d => exact acts rfl (s.endsRightly_rejectSync p d)
  | frameOpened p d => exact acts rfl (s.endsRightly_openFrame p d)
  | frameReceive bits own => exact acts rfl (s.endsRightly_receiveFrame bits own)
  | frameProcessing n => exact acts rfl (s.endsRightly_processFrame n)
  | peerSilenceTimeout p => exact acts rfl (s.endsRightly_silencePeer p.toNat)
  | release => exact acts rfl s.endsRightly_releaseAct
  | releaseRecordQueue => exact acts rfl s.endsRightly_queueReleaseRecord
  | lateApply => exact acts rfl s.endsRightly_lateApply
  | relabelComputed => exact acts rfl s.endsRightly_computeRelabel
  | islandsEmit => exact acts rfl s.endsRightly_emitIslands
  | snapshotEmitting => exact acts rfl s.endsRightly_beginEmission
  | elementState => exact acts rfl s.endsRightly_emitElement
  | nodeLabels => exact acts rfl s.endsRightly_emitLabels
  | skewRecord => exact acts rfl s.endsRightly_emitSkew
  | holdState => exact acts rfl s.endsRightly_queueHoldState
  | completeRecord => exact acts rfl s.endsRightly_queueComplete
  | clockAdvance => exact acts rfl s.endsRightly_tick
  | stallTimeout => exact acts rfl s.endsRightly_stallAct

theorem State.endsRightly_step {s t : State} (h : Machine.step s = .next t) : s.EndsRightly t := by
  rcases step_next h with ⟨-, rfl⟩ | ⟨i, rest, -, hi⟩
  · exact .refl t
  · exact State.EndsRightly.ofPorts (c := s.console) (p := rest) (State.endsRightly_exec hi) id

/-- Settles O17: an act takes the test against the state it began in, or can bring no condition of R124 to hold. -/
theorem completionFollowsItsConditions : Obligations.CompletionFollowsItsConditions := by
  intro s t hb hr hi hstep hs he
  obtain ⟨completes, otherwise⟩ := State.endsRightly_step hstep hb hr hi hs he
  exact ⟨completes, otherwise⟩

end Sys2Proof.Machine
end

section
/-! SUPPORT. Travel and chatter over the release of an own event (R115, R117, R118): what they leave of the element and of the
EVENT record, with the statements O46 and O47. -/

namespace Sys2Proof.Machine

/-! ## What travel and chatter handling leave -/

/-- The release left travel start `start` and stuck flag `stuck` on its element `f`, and any EVENT record of it carries travel
time `took` and LATE_TRAVEL `late`. -/
def Element.HasTravel (f : Element) (record : Option EventRecord) (start : Option Nat) (stuck : Bool)
    (took : Option Nat) (late : Bool) : Prop :=
  f.travelStart = start ∧ f.stuck = stuck ∧ ∀ v, record = some v → v.travelTime = took ∧ v.lateTravel = late

/-- Element `f` has the chatter state, the window and its count of `e`. -/
def Element.Uncounted (f e : Element) : Prop :=
  f.chatter = e.chatter ∧ f.windowStart = e.windowStart ∧ f.windowCount = e.windowCount

/-- What a change of position on element `e` is put through by an own event's release: travel handling, to state `u` and
element `g`, then chatter handling, to state `w` and element `f`. -/
structure State.Handled (s : State) (x : PendingEntry) (e : Element) (u : State) (g : Element) (w : State) (f : Element)
    (a : Applied) : Prop where
  travel : s.travelled x e = (u, a.travelTime, a.lateTravel)
  travelElement : u.elementAt x.element = some g
  travelFields : ∃ start stuck, g = { x.placed e with travelStart := start, stuck := stuck }
  settings : u.settings = s.settings
  chatter : u.handleChatter x.element g x.key.time = (w, a.chatterStart, a.suppressed)
  element : w.elementAt x.element = some f
  chatterFields : f = { g with
    chatter := f.chatter, windowStart := f.windowStart, windowCount := f.windowCount, suppressed := f.suppressed }

section
variable {s u w : State} {x : PendingEntry} {e f g : Element} {ts : List Key} {a : Applied}

/-- The record owed is the EVENT record of what was applied. -/
theorem Applied.eq_of_record {v : EventRecord} (h : a.record x e = some v) : v = eventRecord x e.current a := by
  unfold Applied.record at h
  split at h
  · cases h
  · exact (Option.some.inj h).symm

theorem Applied.record_owed (h : a.suppressed = false) : a.record x e = some (eventRecord x e.current a) :=
  if_neg (Bool.eq_false_iff.1 h)

theorem Applied.record_suppressed (h : a.suppressed = true) : a.record x e = none := if_pos h

theorem Applied.record_eq_none_iff : a.record x e = none ↔ a.suppressed = true := by
  unfold Applied.record
  split <;> simp_all

/-- A change of position is put through travel handling and then chatter handling. -/
theorem State.OwnApplied.handled (applied : s.OwnApplied x e f ts (s.applyOwn x e)) (he : s.elementAt x.element = some e)
    (h : x.position ≠ e.current) : ∃ u g w, s.Handled x e u g w f (s.applyOwn x e) := by
  obtain ⟨start, stuck, travelled⟩ :
      ∃ start stuck, (s.placed x e).Handles x.element { x.placed e with travelStart := start, stuck := stuck }
        (s.travelled x e).1 := State.handles_handleTravel (State.placed_elementAt he) e.current x.key.time
  obtain ⟨-, settings, -⟩ := travelled.keeps
  obtain ⟨chatter, window, count, suppressed, chattered⟩ := State.handles_handleChatter travelled.element x.key.time
  have element := applied.element
  rw [State.applyOwn_change h travelled.element] at element ⊢
  obtain rfl := Option.some.inj (element.symm.trans chattered.element)
  exact ⟨(s.travelled x e).1, _, _, rfl, travelled.element, ⟨start, stuck, rfl⟩, settings, rfl, element, rfl⟩

/-! ## Travel (TRAVEL TABLE, R115) -/

/-- Chatter handling leaves what a row of the TRAVEL TABLE did. -/
theorem State.Handled.hasTravel (h : s.Handled x e u g w f a) {u' : State} {took : Option Nat} {late : Bool} {g' : Element}
    (row : s.travelled x e = (u', took, late)) (element : u'.elementAt x.element = some g') :
    f.HasTravel (a.record x e) g'.travelStart g'.stuck took late := by
  simp only [h.travel, Prod.mk.injEq] at row
  obtain ⟨rfl, rfl, rfl⟩ := row
  obtain rfl := Option.some.inj (element.symm.trans h.travelElement)
  refine ⟨by rw [h.chatterFields], by rw [h.chatterFields], fun v owed => ?_⟩
  rw [Applied.eq_of_record owed]
  exact ⟨rfl, rfl⟩

/-! ## Chatter (R117, R118) -/

/-- What chatter handling did: the element it left, CHATTER_START and whether the record is suppressed. -/
theorem State.Handled.chatter_eq (h : s.Handled x e u g w f a) {w' : State} {starts suppressed : Bool} {f' : Element}
    (row : u.handleChatter x.element g x.key.time = (w', starts, suppressed)) (element : w'.elementAt x.element = some f') :
    f = f' ∧ a.chatterStart = starts ∧ a.suppressed = suppressed := by
  simp only [h.chatter, Prod.mk.injEq] at row
  obtain ⟨rfl, rfl, rfl⟩ := row
  exact ⟨Option.some.inj (h.element.symm.trans element), rfl, rfl⟩

/-- A window opened at or after `time - W` still runs (R117). -/
theorem State.chatterWindow_fresh {time : Nat} (h : ∀ w, e.windowStart = some w → s.settings.chatterW * 1000 ≤ time - w) :
    s.chatterWindow e time = some time ∧ s.chatterCount e time = 1 := by
  unfold State.chatterWindow State.chatterCount
  cases start : e.windowStart with
  | none => exact ⟨rfl, rfl⟩
  | some w => exact ⟨if_pos (h w start), if_pos (h w start)⟩

theorem State.chatterWindow_running {time : Nat}
    (h : ¬ ∀ w, e.windowStart = some w → s.settings.chatterW * 1000 ≤ time - w) :
    s.chatterWindow e time = e.windowStart ∧ s.chatterCount e time = e.windowCount + 1 := by
  push Not at h
  obtain ⟨w, start, within⟩ := h
  unfold State.chatterWindow State.chatterCount
  rw [start]
  exact ⟨if_neg (Nat.not_le.2 within), if_neg (Nat.not_le.2 within)⟩

/-- Where chatter handling is off a change of position on a NORMAL element is not counted. -/
theorem State.Handled.chatter_disabled (h : s.Handled x e u g w f a) (normal : e.chatter = .normal)
    (disabled : e.chatterEnable = false) : f.Uncounted e ∧ f.suppressed = e.suppressed ∧ a.suppressed = false ∧
    a.chatterStart = false := by
  obtain ⟨start, stuck, rfl⟩ := h.travelFields
  obtain ⟨rfl, starts, suppressed⟩ := h.chatter_eq (State.handleChatter_disabled normal disabled) h.travelElement
  exact ⟨⟨rfl, rfl, rfl⟩, rfl, suppressed, starts⟩

/-- A change of position on a CHATTERING element raises the suppressed count alone. -/
theorem State.Handled.chatter_chattering (h : s.Handled x e u g w f a) (chattering : e.chatter = .chattering) :
    f.Uncounted e ∧ f.suppressed = satSucc 65535 e.suppressed ∧ a.suppressed = true := by
  obtain ⟨start, stuck, rfl⟩ := h.travelFields
  have set (f : Element) := State.handles_setElement (s := u) (State.lt_of_elementAt h.travelElement) f
  obtain ⟨rfl, -, suppressed⟩ := h.chatter_eq (State.handleChatter_chattering chattering) ((set _).setTimer _ _ _).element
  exact ⟨⟨rfl, rfl, rfl⟩, rfl, suppressed⟩

/-- Where chatter handling is on, a change of position on a NORMAL element is counted, and starts CHATTERING at the count N. -/
theorem State.Handled.chatter_enabled (h : s.Handled x e u g w f a) (normal : e.chatter = .normal)
    (enabled : e.chatterEnable = true) :
    f.windowStart = s.chatterWindow e x.key.time ∧ f.windowCount = s.chatterCount e x.key.time ∧
    f.suppressed = e.suppressed ∧ a.suppressed = false ∧
    (a.chatterStart = true ↔ f.windowCount = s.settings.chatterN) ∧
    f.chatter = if f.windowCount = s.settings.chatterN then .chattering else .normal := by
  obtain ⟨start, stuck, rfl⟩ := h.travelFields
  have set (f : Element) := State.handles_setElement (s := u) (State.lt_of_elementAt h.travelElement) f
  have row := State.handleChatter_enabled (s := u) (n := x.element) (time := x.key.time)
    (e := { x.placed e with travelStart := start, stuck := stuck }) normal enabled
  have counted : u.chatterCounted { x.placed e with travelStart := start, stuck := stuck } x.key.time =
      { x.placed e with
        travelStart := start, stuck := stuck, windowStart := s.chatterWindow e x.key.time
        windowCount := s.chatterCount e x.key.time } := by
    simp only [State.chatterCounted, State.chatterWindow, State.chatterCount, h.settings]
    rfl
  have count : u.chatterCount { x.placed e with travelStart := start, stuck := stuck } x.key.time =
      s.chatterCount e x.key.time := congrArg Element.windowCount counted
  rw [counted, count, h.settings] at row
  split at row
  · rename_i full
    obtain ⟨rfl, starts, suppressed⟩ := h.chatter_eq row ((set _).setTimer _ _ _).element
    exact ⟨rfl, rfl, rfl, suppressed, iff_of_true starts full, (if_pos full).symm⟩
  · rename_i notFull
    obtain ⟨rfl, starts, suppressed⟩ := h.chatter_eq row (set _).element
    refine ⟨rfl, rfl, rfl, suppressed, iff_of_false ?_ notFull, normal.trans (if_neg notFull).symm⟩
    rw [starts]
    exact Bool.false_ne_true

end

/-- What is applied of an own event after its removal, over the act of its release. -/
theorem State.exists_ownReleased {s : State} {x : PendingEntry} {e : Element} (hi : s.leastHead = some (.own x))
    (can : s.CanRelease x.key) (he : s.elementAt x.element = some e) : ∃ f ts,
    (s.stepped (.own x)).OwnApplied x e f ts (s.ownApply x e) ∧
      s.OwnReleased x e f ((s.ownApply x e).record x e) ts s.releaseAct := by
  obtain ⟨f, ts, applied⟩ := State.exists_ownApplied (x := x) ((s.elementAt_stepped (.own x) _).trans he)
  exact ⟨f, ts, applied, State.ownReleased hi can he applied⟩

/-- Settles O46: the rows of the TRAVEL TABLE on the placed element, which chatter handling leaves as they are. -/
theorem travelIsTimed : Obligations.TravelIsTimed := by
  intro s x e hi can he
  obtain ⟨f, ts, applied, released⟩ := State.exists_ownReleased hi can he
  have stepped : (s.stepped (.own x)).elementAt x.element = some e := (s.elementAt_stepped (.own x) _).trans he
  have placed : ((s.stepped (.own x)).placed x e).elementAt x.element = some (x.placed e) := State.placed_elementAt stepped
  have written (g : Element) :
      ((s.stepped (.own x)).placed x e).Handles x.element g (((s.stepped (.own x)).placed x e).setElement x.element g) :=
    State.handles_setElement (State.lt_of_elementAt he) g
  have row {u : State} {took : Option Nat} {late : Bool} {g : Element} (h : x.position ≠ e.current)
      (travel : (s.stepped (.own x)).travelled x e = (u, took, late)) (element : u.elementAt x.element = some g) :
      f.HasTravel ((s.ownApply x e).record x e) g.travelStart g.stuck took late := by
    obtain ⟨u, g, w, handled⟩ := applied.handled stepped h
    exact handled.hasTravel travel element
  refine ⟨s.releaseAct, f, _, ts, exec_release s, released, ?_⟩
  intro untouched
  refine ⟨fun h => ?_, fun timed moved => ⟨fun moving departs => ?_, fun moving notOpened notClosed => ?_,
    fun arrives start under => ?_, fun arrives absent => ?_, fun bad => ?_⟩⟩
  · by_cases same : x.position = e.current
    · obtain ⟨fields, -, -, late, took⟩ := applied.noChange same
      refine ⟨by rw [fields]; rfl, by rw [fields]; rfl, fun v owed => ?_⟩
      rw [Applied.eq_of_record owed]
      exact ⟨took, late⟩
    · exact row (g := x.placed e) same (State.handleTravel_untimed (h.resolve_right same)) placed
  all_goals have timed : (x.placed e).Timed := timed
  · exact row moved (State.handleTravel_starts timed moving departs) ((written _).setTimer _ _ _).element
  · exact row (g := x.placed e) moved (State.handleTravel_stays timed moving (not_or.2 ⟨notOpened, notClosed⟩)) placed
  · exact row moved (State.handleTravel_ends timed arrives under) ((written _).cancelTimer _ _).element
  · obtain ⟨start, rest⟩ := row moved (State.handleTravel_arrives timed arrives absent) (written _).element
    exact ⟨start.trans absent, rest⟩
  · exact row moved (State.handleTravel_bad timed bad) ((written _).cancelTimer _ _).element

/-- Settles O47: the cases of chatter handling on the element that travel handling left. -/
theorem chatterIsCounted : Obligations.ChatterIsCounted := by
  intro s x e hi can he
  obtain ⟨f, ts, applied, released⟩ := State.exists_ownReleased hi can he
  have stepped : (s.stepped (.own x)).elementAt x.element = some e := (s.elementAt_stepped (.own x) _).trans he
  obtain ⟨-, -, keptSettings, -⟩ := s.stepped_own_keeps x
  refine ⟨s.releaseAct, f, _, ts, exec_release s, released, ?_⟩
  intro uncounted fresh
  refine ⟨fun same => ?_, fun moved normal disabled => ?_, fun moved normal enabled => ?_, fun moved chattering => ?_⟩
  · obtain ⟨rfl, -⟩ := applied.noChange same
    refine ⟨⟨rfl, rfl, rfl⟩, rfl, ?_⟩
    rw [Applied.record_eq_none_iff]
    exact (Bool.eq_iff_iff.1 applied.suppressed).trans beq_iff_eq
  all_goals obtain ⟨u, g, w, handled⟩ := applied.handled stepped moved
  · obtain ⟨kept, suppressed, owed, starts⟩ := handled.chatter_disabled normal disabled
    exact ⟨kept, suppressed, _, Applied.record_owed owed, starts⟩
  · obtain ⟨window, count, suppressed, owed, starts, state⟩ := handled.chatter_enabled normal enabled
    rw [keptSettings] at starts state
    have counts : s.chatterCount e x.key.time = f.windowCount := by
      rw [count, State.chatterCount, State.chatterCount, keptSettings]
    have windows : f.windowStart = s.chatterWindow e x.key.time := by
      rw [window, State.chatterWindow, State.chatterWindow, keptSettings]
    refine ⟨fun h => ?_, fun h => ?_, suppressed, ⟨_, Applied.record_owed owed, starts⟩, fun full => ?_,
      fun notFull => ?_⟩
    · rw [windows, ← counts]
      exact State.chatterWindow_fresh h
    · rw [windows, ← counts]
      exact State.chatterWindow_running h
    · rw [if_pos full] at state
      exact ⟨state, released.chatterTimers (.inr ⟨moved, normal, enabled, counts.trans full⟩)⟩
    · rw [if_neg notFull] at state
      refine ⟨state, released.otherTimers ?_⟩
      rintro (⟨-, chattering⟩ | ⟨-, -, -, full⟩)
      · cases normal.symm.trans chattering
      · exact notFull (counts.symm.trans full)
  · obtain ⟨kept, suppressed, owed⟩ := handled.chatter_chattering chattering
    exact ⟨kept, suppressed, Applied.record_suppressed owed, released.chatterTimers (.inl ⟨moved, chattering⟩)⟩

end Sys2Proof.Machine
end

section
/-! SUPPORT. SNAPSHOT, SKEW and STATUS (R122, R140, R141), with the statement O41, and the emission of a snapshot (R122, R123),
with the statement O53. -/

namespace Sys2Proof.Machine

section
variable {s : State}

/-! ## The commands (R122, R140, R141) -/

theorem exec_snapshot (n : Byte) (s : State) : exec (.snapshot n) s = .next (s.submit (.snapshot n)) := rfl

theorem exec_skew (n : Byte) (s : State) : exec (.skew n) s = .next (s.submit (.skew n)) := rfl

theorem exec_status (n : Byte) (s : State) : exec (.status n) s = .next (s.submit (.status n)) := rfl

theorem State.ownTest_snapshot (s : State) (n : Byte) :
    s.ownTest (.snapshot n) = if s.engine.snapshot = .none then none else some .busy := rfl

theorem State.ownTest_skew (s : State) (n : Byte) :
    s.ownTest (.skew n) = if s.console.skew = none then none else some .busy := rfl

/-- SNAPSHOT and SKEW are accepted in service (R136). -/
theorem State.accepted_of_inService (h : s.inService = true) :
    (s.station.state == .ready || s.station.state == .replaying || s.station.state == .complete) = true := by
  unfold State.inService at h
  cases state : s.station.state <;> simp_all

/-- STATUS is taken in every state, and its reply is the STATUS record (R140). -/
theorem State.submit_status (h : s.DecidesAtOnce) :
    s.submit (.status 0) = s.written.enqueue (.status s.written.statusRecord) := by
  rw [State.submit_decided h rfl, State.decideCommand_accepted]
  · rfl
  · rw [State.commandTest_own rfl rfl]
    rfl

/-- STATUS reports the sixteen peer entries in their order (R140). -/
theorem State.statusRecord_peers (s : State) : s.statusRecord.peers.length = 16 ∧
    ∀ n < 16, s.statusRecord.peers[n]? = some (s.peer n).report := by
  refine ⟨by simp [State.statusRecord], fun n hn => ?_⟩
  simp [State.statusRecord, State.peer, hn]

/-! ## The emission of a snapshot (R122, R123) -/

theorem exec_snapshotEmitting (s : State) : exec .snapshotEmitting s = .next s.beginEmission := rfl

theorem exec_elementState (s : State) : exec .elementState s = .next s.emitElement := rfl

theorem exec_nodeLabels (s : State) : exec .nodeLabels s = .next s.emitLabels := rfl

theorem State.mem_presentFrom {k n : Nat} {e : Element} :
    (n, e) ∈ s.presentFrom k ↔ k ≤ n ∧ s.elementAt n = some e := by
  rw [State.presentFrom, List.mem_filter, State.mem_present, decide_eq_true_iff, and_comm]

/-- The present elements stand in increasing number. -/
theorem State.present_sorted (s : State) : s.present.Pairwise fun a b => a.1 < b.1 := by
  refine List.Pairwise.filterMap _ (fun a b lt x hx y hy => ?_) List.pairwise_lt_range
  obtain ⟨-, -, rfl⟩ := Option.map_eq_some_iff.1 hx
  obtain ⟨-, -, rfl⟩ := Option.map_eq_some_iff.1 hy
  exact lt

theorem State.presentFrom_eq_nil_iff {k : Nat} : s.presentFrom k = [] ↔ ∀ m, k ≤ m → s.elementAt m = none := by
  rw [List.eq_nil_iff_forall_not_mem]
  constructor
  · intro none m hm
    exact Option.eq_none_iff_forall_ne_some.2 fun e he => none (m, e) (State.mem_presentFrom.2 ⟨hm, he⟩)
  · rintro absent ⟨m, e⟩ mem
    obtain ⟨hm, he⟩ := State.mem_presentFrom.1 mem
    cases (absent m hm).symm.trans he

/-- The next element of an emission is the first present one from its number on (R123). -/
theorem State.presentFrom_eq_cons {k n : Nat} {e : Element} (hn : k ≤ n) (he : s.elementAt n = some e)
    (absent : ∀ m, k ≤ m → m < n → s.elementAt m = none) : ∃ rest, s.presentFrom k = (n, e) :: rest := by
  have mem : (n, e) ∈ s.presentFrom k := State.mem_presentFrom.2 ⟨hn, he⟩
  have sorted : (s.presentFrom k).Pairwise fun a b => a.1 < b.1 := s.present_sorted.filter _
  cases list : s.presentFrom k with
  | nil => rw [list] at mem; cases mem
  | cons x rest =>
    obtain ⟨hx, hex⟩ : k ≤ x.1 ∧ s.elementAt x.1 = some x.2 := State.mem_presentFrom.1 (list ▸ List.mem_cons_self)
    rw [list] at mem sorted
    rcases List.mem_cons.1 mem with rfl | later
    · exact ⟨rest, rfl⟩
    · cases (absent x.1 hx ((List.pairwise_cons.1 sorted).1 _ later)).symm.trans hex

theorem State.beginEmission_begins (h : s.engine.snapshot = .waiting) (flight : s.engine.inFlight = none)
    (apply : s.engine.apply = none) (relabel : s.islands.relabel = none) :
    s.beginEmission = { s with engine := { s.engine with snapshot := .emitting 0 } } :=
  if_pos ⟨h, flight, apply, relabel⟩

theorem State.emitElement_emits {k n : Nat} {e : Element} {rest : List (Nat × Element)}
    (hk : s.engine.snapshot = .emitting k) (hn : s.presentFrom k = (n, e) :: rest)
    (room : s.delivery.queue.length < 60) : s.emitElement =
      { s.enqueue (.elementState n e) with engine := { s.engine with snapshot := .emitting (n + 1) } } := by
  simp only [State.emitElement, hk, hn]
  exact if_pos (s.roomForRecord_iff.2 room)

theorem State.emitElement_ignored
    (h : (∀ k, s.engine.snapshot = .emitting k → s.presentFrom k = []) ∨ 60 ≤ s.delivery.queue.length) :
    s.emitElement = s := by
  unfold State.emitElement
  split
  · rfl
  · rfl
  · rename_i k hk
    split
    · rfl
    · rename_i n e rest hn
      refine if_neg fun room => ?_
      rcases h with none | full
      · cases hn.symm.trans (none k hk)
      · exact absurd (s.roomForRecord_iff.1 room) (Nat.not_lt.2 full)

theorem State.emitLabels_emits {k : Nat} (hk : s.engine.snapshot = .emitting k) (hn : s.presentFrom k = [])
    (room : s.delivery.queue.length < 60) : s.emitLabels =
      { s.enqueue (.nodeLabels s.islands.labels s.islands.islandCount s.islands.uncertainCount) with
        engine := { s.engine with snapshot := .none } } := by
  simp only [State.emitLabels, hk]
  exact if_pos ⟨hn, s.roomForRecord_iff.2 room⟩

theorem State.emitLabels_ignored
    (h : (∀ k, s.engine.snapshot = .emitting k → s.presentFrom k ≠ []) ∨ 60 ≤ s.delivery.queue.length) :
    s.emitLabels = s := by
  unfold State.emitLabels
  split
  · rfl
  · rfl
  · rename_i k hk
    refine if_neg fun ⟨empty, room⟩ => ?_
    rcases h with some | full
    · exact some k hk empty
    · exact absurd (s.roomForRecord_iff.1 room) (Nat.not_lt.2 full)

end

/-- Settles O41: SNAPSHOT and SKEW by their own tests; STATUS by its record, field by field. -/
theorem snapshotSkewAndStatusReply : Obligations.SnapshotSkewAndStatusReply := by
  intro s h
  refine ⟨fun service => ?_, ?_⟩
  · have accepted := State.accepted_of_inService service
    have snapshot := State.submit_own h (c := .snapshot 0) rfl (fun _ => Command.noConfusion) rfl accepted
    have skew := State.submit_own h (c := .skew 0) rfl (fun _ => Command.noConfusion) rfl accepted
    rw [State.ownTest_snapshot] at snapshot
    rw [State.ownTest_skew] at skew
    refine ⟨fun idle => ?_, fun under => ?_, fun idle => ?_, fun under => ?_⟩
    · have idle : s.written.engine.snapshot = .none := idle
      rw [exec_snapshot, snapshot, if_pos idle]
      rfl
    · have under : s.written.engine.snapshot ≠ .none := under
      rw [exec_snapshot, snapshot, if_neg under]
      rfl
    · have idle : s.written.console.skew = none := idle
      rw [exec_skew, skew, if_pos idle]
      rfl
    · have under : s.written.console.skew ≠ none := under
      rw [exec_skew, skew, if_neg under]
      rfl
  · obtain ⟨count, each⟩ := s.written.statusRecord_peers
    refine ⟨s.written.statusRecord, ?_, ?_⟩
    · rw [exec_status, State.submit_status h]
      rfl
    · refine ⟨rfl, rfl, rfl, rfl, rfl, rfl, rfl, rfl, rfl, rfl, rfl, rfl, rfl, rfl, rfl, rfl, rfl, rfl, rfl, rfl, rfl, rfl,
        rfl, rfl, rfl, rfl, rfl, rfl, rfl, rfl, rfl, count, each, rfl, rfl, rfl, rfl⟩

/-- Settles O53: what an emission queues next is the first present element from its number on, or NODE_LABELS. -/
theorem snapshotsAreEmitted : Obligations.SnapshotsAreEmitted := by
  intro s
  refine ⟨fun waits => ?_, fun waits => ?_, fun waiting flight apply relabel => ?_, fun k hk room =>
    ⟨fun n e hn he absent => ?_, fun absent => ?_⟩⟩
  · rw [exec_snapshotEmitting, State.beginEmission, if_neg]
    rintro ⟨waiting, flight, apply, relabel⟩
    simp only [waiting, flight, apply, relabel, ne_eq, not_true_eq_false, Option.isSome_none, Bool.false_eq_true,
      or_self] at waits
  · rw [exec_elementState, exec_nodeLabels, State.emitElement_ignored, State.emitLabels_ignored]
    · exact ⟨rfl, rfl⟩
    · exact waits.imp_left fun none k hk => absurd hk (none k)
    · exact waits.imp_left fun none k hk => absurd hk (none k)
  · rw [exec_snapshotEmitting, State.beginEmission_begins waiting flight apply relabel]
  · obtain ⟨rest, next⟩ := State.presentFrom_eq_cons hn he absent
    refine ⟨?_, ?_⟩
    · rw [exec_elementState, State.emitElement_emits hk next room]
      rfl
    · rw [exec_nodeLabels, State.emitLabels_ignored (.inl fun j hj none => ?_)]
      cases hk.symm.trans hj
      cases next.symm.trans none
  · have none : s.presentFrom k = [] := State.presentFrom_eq_nil_iff.2 absent
    refine ⟨?_, ?_⟩
    · rw [exec_elementState, State.emitElement_ignored (.inl fun j hj => ?_)]
      cases hk.symm.trans hj
      exact none
    · rw [exec_nodeLabels, State.emitLabels_emits hk none room]
      rfl

end Sys2Proof.Machine
end

section
/-! SUPPORT. The records of a release (R110, R112, R120, R121), with the statement O50. -/

namespace Sys2Proof.Machine

theorem exec_releaseRecordQueue (s : State) : exec .releaseRecordQueue s = .next s.queueReleaseRecord := rfl

section
variable {s : State} {r : ReleaseInFlight}

/-! ## What is queued and what goes on -/

theorem State.queueReleaseRecord_record (hr : s.engine.inFlight = some r) (room : s.delivery.queue.length < 60)
    {b : RecordBody} (hb : r.record = some b) :
    s.queueReleaseRecord = ((s.enqueue b).afterRecord { r with record := none }).settleComplete s := by
  simp only [State.queueReleaseRecord, hr, s.roomForRecord_iff.2 room, if_true, hb]

theorem State.queueReleaseRecord_mark (hr : s.engine.inFlight = some r) (room : s.delivery.queue.length < 60)
    (hb : r.record = none) {m : WatchMark} (hm : r.mark = some m) : s.queueReleaseRecord =
      (((s.enqueue (.mark r.item.element r.item.key m)).watchHit m).finishRecords
        { r with mark := none }).settleComplete s := by
  simp only [State.queueReleaseRecord, hr, s.roomForRecord_iff.2 room, if_true, hb, hm]

theorem State.queueReleaseRecord_ignored (h : s.engine.inFlight = none ∨ 60 ≤ s.delivery.queue.length ∨
    ∃ r, s.engine.inFlight = some r ∧ r.record = none ∧ r.mark = none) : s.queueReleaseRecord = s := by
  unfold State.queueReleaseRecord
  rcases h with idle | full | ⟨r, hr, record, mark⟩
  · rw [idle]
  · split
    · rfl
    · exact if_neg fun room => absurd (s.roomForRecord_iff.1 room) (Nat.not_lt.2 full)
  · simp only [hr, record, mark, ite_self]

/-- After its last record the release ends, or waits for the relabel it started (R110, R128). -/
def State.recordsDone (s : State) (r : ReleaseInFlight) : Option ReleaseInFlight :=
  if s.islands.relabel.isSome = true then some { r with record := none, mark := none } else none

theorem State.finishRecords_eq (s : State) (r : ReleaseInFlight) :
    s.finishRecords r = { s with engine := { s.engine with inFlight := s.recordsDone r } } := rfl

/-- After the item's own record its release goes on to MARK where the element is watched, and is done otherwise (R120). -/
theorem State.afterRecord_eq (s : State) (r : ReleaseInFlight) : s.afterRecord r = { s with
    engine := { s.engine with
      inFlight := if s.watchCheck r.item = .none then s.recordsDone r
        else some { r with record := none, mark := some (s.watchCheck r.item) } } } := by
  unfold State.afterRecord
  split
  · rename_i unwatched
    rw [if_pos unwatched, State.finishRecords_eq]
  · rename_i watched
    rw [if_neg watched]

/-! ## The acts -/

/-- A record queued in an act that writes the release in flight, the clock and the attention unit besides. -/
def State.recordQueued (s : State) (b : RecordBody) (flight : Option ReleaseInFlight) (clock : Clock)
    (attention : Attention) : State :=
  { s.enqueue b with engine := { s.engine with inFlight := flight }, clock := clock, attention := attention }

/-- Such an act, re-formed with the completion test. -/
theorem State.recordQueued_frame (s : State) (b : RecordBody) (flight : Option ReleaseInFlight) (clock : Clock)
    (attention : Attention) {t : State} (ht : t = (s.recordQueued b flight clock attention).settleComplete s) :
    t = { s with
      delivery := { s.delivery with queue := s.delivery.queue ++ [⟨s.station.epoch, b⟩] }
      engine := { s.engine with inFlight := t.engine.inFlight, completeOwed := t.engine.completeOwed }
      station := t.station, horizon := t.horizon, clock := t.clock, attention := t.attention, tx := t.tx } ∧
    t.engine.inFlight = flight := by
  have frame := (s.recordQueued b flight clock attention).settleComplete_frame s
  rw [← ht] at frame
  have flies : t.engine.inFlight = flight := by rw [frame]; rfl
  refine ⟨?_, flies⟩
  rw [flies]
  exact frame

end

/-- Settles O50: the own record, then MARK, each with what the release goes on to after it. -/
theorem releaseRecordsFollowInOrder : Obligations.ReleaseRecordsFollowInOrder := by
  refine ⟨fun s idle => ?_, fun s r hr => ?_⟩
  · rw [exec_releaseRecordQueue, State.queueReleaseRecord_ignored (.inl idle)]
  intro done
  refine ⟨fun waits => ?_, fun room => ⟨fun b hb => ?_, fun m hb hm => ?_⟩⟩
  · rw [exec_releaseRecordQueue, State.queueReleaseRecord_ignored (.inr (waits.imp_right fun none => ⟨r, hr, none⟩))]
  · have act := State.queueReleaseRecord_record hr room hb
    rw [State.afterRecord_eq] at act
    obtain ⟨frame, flies⟩ := s.recordQueued_frame b _ s.clock s.attention act
    refine ⟨s.queueReleaseRecord, exec_releaseRecordQueue s, frame, fun watched => ?_, fun unwatched => ?_, ?_⟩
    · exact flies.trans (if_neg watched)
    · exact flies.trans (if_pos unwatched)
    · rw [act]
      exact State.settleComplete_reformedWith ⟨rfl, rfl, rfl, rfl, rfl, ⟨rfl, rfl⟩, rfl, rfl, rfl, id⟩ rfl rfl rfl rfl
  · have act := State.queueReleaseRecord_mark hr room hb hm
    obtain ⟨frame, flies⟩ := s.recordQueued_frame _ _ _ _ act
    refine ⟨s.queueReleaseRecord, exec_releaseRecordQueue s, frame, flies, ?_⟩
    rw [act]
    exact State.settleComplete_reformedWith ⟨rfl, rfl, rfl, rfl, rfl, ⟨rfl, rfl⟩, rfl, rfl, rfl, id⟩ rfl rfl rfl rfl

end Sys2Proof.Machine
end

section
/-! SUPPORT. The apply step (R114), with the statement O51. -/

namespace Sys2Proof.Machine

/-- `State.settleComplete_frame`, of a state that is known to be the re-formed one. -/
theorem State.frame_of_eq_settleComplete {t u b : State} (ht : t = u.settleComplete b) : t = { u with
    station := t.station, engine := { u.engine with completeOwed := t.engine.completeOwed }
    horizon := t.horizon, clock := t.clock, attention := t.attention, tx := t.tx } := by
  subst ht
  exact State.settleComplete_frame u b

theorem exec_lateApply (s : State) : exec .lateApply s = .next s.lateApply := rfl

section
variable {s : State} {pr : Processing} {r : RemoteEntry} {e : Element}

theorem State.handOver_eq_some (h : s.processing = some pr) (hr : pr.handOver = some r) : s.handOver = some r := by
  rw [State.handOver, h]
  exact hr

/-- The state with the hand-over taken from the frame in processing. -/
def State.handedOver (s : State) (pr : Processing) : State := { s with processing := some { pr with handOver := none } }

theorem State.takeHandOver_eq (h : s.processing = some pr) : s.takeHandOver = s.handedOver pr := by
  rw [State.takeHandOver, h]
  rfl

/-- What the apply step writes of a change on element `e`, but for the relabel it may start: the element, and the REMOTE
record flagged LATE (R114). -/
def State.lateApplied (s : State) (pr : Processing) (r : RemoteEntry) (e : Element) : State :=
  ((s.handedOver pr).writeRemote r e).enqueue (.remote (remoteRecord r e.current true))

theorem State.lateApply_ignored (h : s.handOver = none ∨ ¬ s.EngineFree) : s.lateApply = s := by
  unfold State.lateApply
  split
  · rfl
  · rename_i r hr
    refine if_neg fun idle => ?_
    rcases h with none | busy
    · cases hr.symm.trans none
    · exact busy (s.engineIdle_iff.1 idle)

theorem State.lateApply_absent (h : s.processing = some pr) (hr : pr.handOver = some r)
    (absent : s.elementAt r.element = none) (free : s.EngineFree) : s.lateApply = s.handedOver pr := by
  simp only [State.lateApply, State.handOver_eq_some h hr, s.engineIdle_iff.2 free, if_true, absent,
    State.takeHandOver_eq h]

/-- The change is written and recorded; an apply that starts a relabel stays in flight with it (R114). -/
theorem State.lateApply_applies (h : s.processing = some pr) (hr : pr.handOver = some r)
    (he : s.elementAt r.element = some e) (free : s.EngineFree) :
    s.lateApply = ({ s.lateApplied pr r e with
      engine := { s.engine with apply := if e.nodes.isSome = true ∧ r.position ≠ e.current then some r else none }
      islands := if e.nodes.isSome = true ∧ r.position ≠ e.current then
        { s.islands with relabel := some ⟨.late r.key, .computing⟩ } else s.islands } : State).settleComplete s := by
  simp only [State.lateApply, State.handOver_eq_some h hr, s.engineIdle_iff.2 free, if_true, he, State.takeHandOver_eq h]
  by_cases moved : e.nodes.isSome = true ∧ r.position ≠ e.current
  · simp only [if_pos moved]
    rfl
  · simp only [if_neg moved, ← free.apply]
    rfl

end

/-- Settles O51: the change is written and recorded in either case; an apply with a relabel differs in the relabel alone. -/
theorem lateChangesAreApplied : Obligations.LateChangesAreApplied := by
  refine ⟨fun s waits => ?_, fun s pr r hpr hr absent free => ?_, fun s pr r e hpr hr he free => ?_⟩
  · rw [exec_lateApply, State.lateApply_ignored]
    refine waits.imp s.handOver_eq_none_iff.2 fun busy free => ?_
    obtain ⟨flight, apply, relabel, snapshot, room⟩ := free
    simp only [flight, apply, relabel, snapshot, Nat.not_le.2 room, Option.isSome_none, Bool.false_eq_true, ne_eq,
      not_true_eq_false, or_self] at busy
  · rw [exec_lateApply, State.lateApply_absent hpr hr absent free]
    rfl
  · have act := State.lateApply_applies hpr hr he free
    have frame := State.frame_of_eq_settleComplete act
    have elements : s.lateApply.elements = (s.writeRemote r e).elements := by rw [frame]; rfl
    have applies := congrArg (·.engine.apply) frame
    have islands := congrArg State.islands frame
    dsimp only at applies islands
    refine ⟨s.lateApply, exec_lateApply s, ?_, ?_, fun n hn => ?_, ?_, fun noded moved => ?_, fun still => ?_⟩
    · rw [applies, islands, elements]
      exact frame
    · rw [State.elementAt_congr elements]
      exact State.elementAt_setElement_self _ _ (State.lt_of_elementAt he)
    · rw [State.elementAt_congr elements]
      exact State.elementAt_setElement_of_ne _ _ hn
    · rw [act]
      exact State.settleComplete_reformedWith ⟨rfl, rfl, rfl, rfl, rfl, ⟨rfl, rfl⟩, rfl, rfl, rfl, id⟩ rfl rfl rfl rfl
    · exact ⟨applies.trans (if_pos ⟨noded, moved⟩), islands.trans (if_pos ⟨noded, moved⟩)⟩
    · have unmoved : ¬ (e.nodes.isSome = true ∧ r.position ≠ e.current) := by
        rintro ⟨noded, moved⟩
        rcases still with none | same
        · rw [none] at noded
          cases noded
        · exact moved same
      exact ⟨applies.trans (if_neg unmoved), islands.trans (if_neg unmoved)⟩

end Sys2Proof.Machine
end

section
/-! SUPPORT. The end of COMPUTING and the ISLANDS record (R125, R126, R128, R129), with the statement O52. -/

namespace Sys2Proof.Machine

theorem exec_relabelComputed (s : State) : exec .relabelComputed s = .next s.computeRelabel := rfl

theorem exec_islandsEmit (s : State) : exec .islandsEmit s = .next s.emitIslands := rfl

/-! ## The change list -/

theorem mem_labelChanges {before after : Vector Nat 128} {n old new : Nat} :
    (n, old, new) ∈ labelChanges before after ↔
      n < 128 ∧ old = labelAt before n ∧ new = labelAt after n ∧ old ≠ new := by
  simp only [labelChanges, List.mem_filterMap, List.mem_range]
  constructor
  · rintro ⟨m, hm, h⟩
    split at h
    · cases h
    · rename_i differ
      cases h
      exact ⟨hm, rfl, rfl, differ⟩
  · rintro ⟨hn, rfl, rfl, differ⟩
    exact ⟨n, hn, if_neg differ⟩

theorem labelChanges_sorted (before after : Vector Nat 128) :
    (labelChanges before after).Pairwise fun a b => a.1 < b.1 := by
  refine List.Pairwise.filterMap _ (fun a b lt x hx y hy => ?_) List.pairwise_lt_range
  obtain ⟨-, ⟨⟩⟩ := Option.ite_none_left_eq_some.1 hx
  obtain ⟨-, ⟨⟩⟩ := Option.ite_none_left_eq_some.1 hy
  exact lt

/-! ## The end of a relabel -/

section
variable {s u t : State} {cause : RelabelCause}

theorem ReleaseInFlight.queued_iff (r : ReleaseInFlight) : r.queued = true ↔ r.record = none ∧ r.mark = none := by
  simp only [ReleaseInFlight.queued, Bool.and_eq_true, Option.isNone_iff_eq_none]

/-- The records of the release in flight, where there is one, are queued. -/
def State.RecordsQueued (s : State) : Prop :=
  ∀ r, s.engine.inFlight = some r → r.record = none ∧ r.mark = none

theorem State.recordsQueued_iff (s : State) :
    s.RecordsQueued ↔ s.engine.inFlight.all ReleaseInFlight.queued = true := by
  simp only [Option.all_eq_true, ReleaseInFlight.queued_iff, State.RecordsQueued]

/-- What a relabel that ends with cause `cause` leaves in the release engine of a state `s` (R110, R114). -/
structure State.RelabelEnds (s : State) (cause : RelabelCause) (engine : ReleaseEngine) : Prop where
  kept : engine = { s.engine with
    inFlight := engine.inFlight, apply := engine.apply, completeOwed := engine.completeOwed }
  item : ∀ k, cause = .item k → (s.RecordsQueued → engine.inFlight = none) ∧
    (¬ s.RecordsQueued → engine.inFlight = s.engine.inFlight) ∧ engine.apply = s.engine.apply
  late : ∀ k, cause = .late k → engine.inFlight = s.engine.inFlight ∧ engine.apply = none
  other : cause = .commit ∨ cause = .restart → engine.inFlight = s.engine.inFlight ∧ engine.apply = s.engine.apply

/-- What is left of the release in flight by a relabel that it started: none where its records are queued (R110). -/
def State.flightAfterRelabel (s : State) : Option ReleaseInFlight :=
  if s.engine.inFlight.any ReleaseInFlight.queued then none else s.engine.inFlight

theorem State.flightAfterRelabel_queued (queued : s.RecordsQueued) : s.flightAfterRelabel = none := by
  rw [State.recordsQueued_iff] at queued
  unfold State.flightAfterRelabel
  cases flight : s.engine.inFlight with
  | none => rfl
  | some r => exact if_pos (by rwa [flight] at queued)

theorem State.flightAfterRelabel_unqueued (unqueued : ¬ s.RecordsQueued) :
    s.flightAfterRelabel = s.engine.inFlight := by
  rw [State.recordsQueued_iff] at unqueued
  unfold State.flightAfterRelabel
  cases flight : s.engine.inFlight with
  | none => rfl
  | some r => exact if_neg (by rwa [flight] at unqueued)

/-- The COMPLETE record owed is the completion test's. -/
theorem State.relabelEnds_endRelabel (s : State) (cause : RelabelCause) (owed : Bool) :
    s.RelabelEnds cause { (s.endRelabel cause).engine with completeOwed := owed } := by
  cases cause with
  | item k =>
    exact ⟨rfl, fun _ _ => ⟨State.flightAfterRelabel_queued, State.flightAfterRelabel_unqueued, rfl⟩, nofun, nofun⟩
  | late k => exact ⟨rfl, nofun, fun _ _ => ⟨rfl, rfl⟩, nofun⟩
  | commit => exact ⟨rfl, nofun, nofun, fun _ => ⟨rfl, rfl⟩⟩
  | restart => exact ⟨rfl, nofun, nofun, fun _ => ⟨rfl, rfl⟩⟩

theorem State.endRelabel_completeOwed (s : State) (cause : RelabelCause) :
    (s.endRelabel cause).engine.completeOwed = s.engine.completeOwed := by
  cases cause <;> rfl

/-- The end of a relabel reads the engine alone, so the act may have written the island unit and the delivery queue. -/
theorem State.endRelabel_eq (s : State) (cause : RelabelCause) (islands : IslandUnit) (delivery : Delivery) :
    ({ s with islands := islands, delivery := delivery } : State).endRelabel cause = { s with
      islands := { islands with relabel := none }, delivery := delivery, engine := (s.endRelabel cause).engine } := by
  cases cause <;> rfl

/-- An act that queues or computes and then ends the relabel, re-formed with the completion test. -/
theorem State.endRelabel_settled {islands : IslandUnit} {delivery : Delivery}
    (ht : t = (({ s with islands := islands, delivery := delivery } : State).endRelabel cause).settleComplete s) :
    t = { s with
      delivery := delivery, islands := { islands with relabel := none }
      engine := t.engine, station := t.station, horizon := t.horizon, clock := t.clock
      attention := t.attention, tx := t.tx } ∧
    s.RelabelEnds cause t.engine ∧ s.ReformedToEnd t := by
  rw [State.endRelabel_eq] at ht
  have frame := State.frame_of_eq_settleComplete ht
  have engine := congrArg State.engine frame
  refine ⟨?_, ?_, ?_⟩
  · rw [engine]
    exact frame
  · rw [engine]
    exact s.relabelEnds_endRelabel cause _
  · rw [ht]
    exact State.settleComplete_reformedWith ⟨rfl, rfl, rfl, rfl, rfl, ⟨rfl, rfl⟩, rfl, rfl, rfl, id⟩ rfl
      (s.endRelabel_completeOwed cause) rfl rfl

/-! ## The two rows -/

theorem State.computeRelabel_ignored (h : ∀ r, s.islands.relabel = some r → r.stage ≠ .computing) :
    s.computeRelabel = s := by
  unfold State.computeRelabel
  split
  · rfl
  · rename_i r hr
    split
    · rfl
    · rename_i computing
      exact absurd computing (h r hr)

theorem State.emitIslands_ignored (h : ∀ r, s.islands.relabel = some r → r.stage = .computing) :
    s.emitIslands = s := by
  unfold State.emitIslands
  split
  · rfl
  · rename_i r hr
    rw [h r hr]

/-- The island unit with the labels and counts of the present positions. -/
def State.computedIslands (s : State) (relabel : Option Relabel) : IslandUnit :=
  ⟨labelsOf s.joins, countIslands (labelsOf s.joins) s.nodesInUse, countUncertain (labelsOf s.joins) s.uncertainNodes,
    relabel⟩

theorem State.computeRelabel_same (h : s.islands.relabel = some ⟨cause, .computing⟩)
    (changes : labelChanges s.islands.labels (labelsOf s.joins) = [])
    (uncertain : countUncertain (labelsOf s.joins) s.uncertainNodes = s.islands.uncertainCount) :
    s.computeRelabel = (({ s with islands := s.computedIslands (some ⟨cause, .computing⟩) } : State).endRelabel
      cause).settleComplete s := by
  simp only [State.computeRelabel, h, changes, uncertain, List.isEmpty_nil, and_self, if_true, State.computedIslands]

theorem State.computeRelabel_changed (h : s.islands.relabel = some ⟨cause, .computing⟩)
    (changed : labelChanges s.islands.labels (labelsOf s.joins) ≠ [] ∨
      countUncertain (labelsOf s.joins) s.uncertainNodes ≠ s.islands.uncertainCount) :
    s.computeRelabel = { s with islands := s.computedIslands (some ⟨cause, .emitting
      (labelChanges s.islands.labels (labelsOf s.joins)) (countIslands (labelsOf s.joins) s.nodesInUse)
      (countUncertain (labelsOf s.joins) s.uncertainNodes)⟩) } := by
  have differs : ¬ ((labelChanges s.islands.labels (labelsOf s.joins)).isEmpty = true ∧
      countUncertain (labelsOf s.joins) s.uncertainNodes = s.islands.uncertainCount) := by
    rw [List.isEmpty_iff]
    exact not_and_or.2 changed
  simp only [State.computeRelabel, h, if_neg differs, State.computedIslands]

variable {changes : List (Nat × Nat × Nat)} {islands uncertain : Nat}

theorem State.emitIslands_waits (h : s.islands.relabel = some ⟨cause, .emitting changes islands uncertain⟩)
    (waits : 60 ≤ s.delivery.queue.length ∨ ¬ s.RecordsQueued) : s.emitIslands = s := by
  simp only [State.emitIslands, h]
  refine if_neg ?_
  rw [State.roomForRecord_iff, ← State.recordsQueued_iff, not_and_or, Nat.not_lt]
  exact waits

theorem State.emitIslands_emits (h : s.islands.relabel = some ⟨cause, .emitting changes islands uncertain⟩)
    (room : s.delivery.queue.length < 60) (queued : s.RecordsQueued) :
    s.emitIslands = ((s.enqueue (.islands ⟨cause, s.clock.integer, islands, uncertain, changes⟩)).endRelabel
      cause).settleComplete s := by
  simp only [State.emitIslands, h, s.roomForRecord_iff.2 room, s.recordsQueued_iff.1 queued, and_self, if_true]

end

/-- Settles O52: a relabel in COMPUTING ends or passes to EMITTING, and one in EMITTING ends with its record. -/
theorem relabelsComputeAndEmit : Obligations.RelabelsComputeAndEmit := by
  intro s cause queued ends
  refine ⟨fun idle => ?_, fun idle => ?_, fun computing => ?_, fun changes islands uncertain emitting =>
    ⟨fun waits => ?_, fun room all => ?_⟩⟩
  · rw [exec_relabelComputed, State.computeRelabel_ignored idle]
  · rw [exec_islandsEmit, State.emitIslands_ignored idle]
  · refine ⟨s.computeRelabel, labelChanges s.islands.labels (labelsOf s.joins), exec_relabelComputed s, ?_⟩
    by_cases same : labelChanges s.islands.labels (labelsOf s.joins) = [] ∧
        countUncertain (labelsOf s.joins) s.uncertainNodes = s.islands.uncertainCount
    · obtain ⟨frame, engine, reformed⟩ :=
        State.endRelabel_settled (State.computeRelabel_same computing same.1 same.2)
      have computed : s.computeRelabel.islands = s.computedIslands none := congrArg State.islands frame
      refine ⟨?_, congrArg IslandUnit.labels computed, congrArg IslandUnit.islandCount computed,
        congrArg IslandUnit.uncertainCount computed, fun _ _ _ => mem_labelChanges, labelChanges_sorted _ _, fun _ _ =>
          ⟨congrArg IslandUnit.relabel computed, engine.kept, engine.item, engine.late, engine.other, reformed⟩,
        fun changed => ?_⟩
      · rw [computed]
        exact frame
      · rw [computed] at changed
        exact absurd same (not_and_or.2 changed)
    · have act := State.computeRelabel_changed computing (not_and_or.1 same)
      rw [act]
      exact ⟨rfl, rfl, rfl, rfl, fun _ _ _ => mem_labelChanges, labelChanges_sorted _ _,
        fun none count => absurd ⟨none, count⟩ same, fun _ => ⟨rfl, rfl⟩⟩
  · rw [exec_islandsEmit, State.emitIslands_waits emitting waits]
  · obtain ⟨frame, engine, reformed⟩ := State.endRelabel_settled (State.emitIslands_emits emitting room all)
    exact ⟨s.emitIslands, exec_islandsEmit s, frame, engine.kept, engine.item, engine.late, engine.other, reformed⟩

end Sys2Proof.Machine
end

section
/-! SUPPORT. The labels that a list of joins gives name the islands (R125), with the statement O20. -/

namespace Sys2Proof.Machine

theorem labelAt_ownLabels (n : Nat) : labelAt ownLabels n = n := by
  unfold labelAt ownLabels
  by_cases hn : n < 128 <;> simp [hn]

theorem labelAt_of_lt (labels : Vector Nat 128) {n : Nat} (hn : n < 128) : labelAt labels n = labels[n] := by
  simp [labelAt, hn]

theorem labelAt_joinLabels_of_lt (labels : Vector Nat 128) (a b : Nat) {n : Nat} (hn : n < 128) :
    labelAt (joinLabels labels (a, b)) n =
      if labelAt labels n = labelAt labels a ∨ labelAt labels n = labelAt labels b then
        min (labelAt labels a) (labelAt labels b)
      else labelAt labels n := by
  rw [labelAt_of_lt _ hn, labelAt_of_lt _ hn, joinLabels, Vector.getElem_mapIdx]

theorem labelAt_of_ge (labels : Vector Nat 128) {n : Nat} (hn : 128 ≤ n) : labelAt labels n = n := by
  simp [labelAt, hn]

theorem labelsOf_concat (joins : List (Nat × Nat)) (j : Nat × Nat) :
    labelsOf (joins ++ [j]) = joinLabels (labelsOf joins) j := List.foldl_concat ..

theorem SameIsland.append_right {joins : List (Nat × Nat)} {n m : Nat} (h : SameIsland joins n m)
    (more : List (Nat × Nat)) : SameIsland (joins ++ more) n m :=
  Relation.EqvGen.mono (fun _ _ => List.mem_append_left more) n m h

/-- After a list of joins every node carries the number of a node of its island, at or below its own, and the two nodes
of a join carry the same. -/
structure LabelsFollow (joins : List (Nat × Nat)) (labels : Vector Nat 128) : Prop where
  within : ∀ n, SameIsland joins n (labelAt labels n)
  below : ∀ n, labelAt labels n ≤ n
  joined : ∀ j ∈ joins, labelAt labels j.1 = labelAt labels j.2

theorem labelsFollow_ownLabels : LabelsFollow [] ownLabels where
  within n := by rw [labelAt_ownLabels]; exact .refl n
  below n := (labelAt_ownLabels n).le
  joined := nofun

section
variable {joins : List (Nat × Nat)} {labels : Vector Nat 128} {a b : Nat}

/-- Either label of a join is a node of the island that the join makes, so the lesser is. -/
theorem LabelsFollow.within_min (h : LabelsFollow joins labels) {n : Nat}
    (hn : labelAt labels n = labelAt labels a ∨ labelAt labels n = labelAt labels b) :
    SameIsland (joins ++ [(a, b)]) n (min (labelAt labels a) (labelAt labels b)) := by
  have own (m : Nat) : SameIsland (joins ++ [(a, b)]) m (labelAt labels m) := (h.within m).append_right _
  have join : SameIsland (joins ++ [(a, b)]) (labelAt labels a) (labelAt labels b) :=
    (own a).symm.trans _ _ _ ((Relation.EqvGen.rel _ _ (List.mem_append_right _ (List.mem_singleton.2 rfl))).trans _ _ _
      (own b))
  rcases min_choice (labelAt labels a) (labelAt labels b) with least | least <;> rw [least] <;>
    rcases hn with same | same
  · exact same ▸ own n
  · exact (same ▸ own n).trans _ _ _ join.symm
  · exact (same ▸ own n).trans _ _ _ join
  · exact same ▸ own n

theorem LabelsFollow.joinLabels (h : LabelsFollow joins labels) (inRange : ∀ j ∈ joins, j.1 < 128 ∧ j.2 < 128)
    (ha : a < 128) (hb : b < 128) : LabelsFollow (joins ++ [(a, b)]) (joinLabels labels (a, b)) where
  within n := by
    by_cases hn : n < 128
    · rw [labelAt_joinLabels_of_lt _ _ _ hn]
      split
      · exact h.within_min ‹_›
      · exact (h.within n).append_right _
    · rw [labelAt_of_ge _ (Nat.not_lt.1 hn)]
      exact .refl n
  below n := by
    by_cases hn : n < 128
    · have held := h.below n
      rw [labelAt_joinLabels_of_lt _ _ _ hn]
      split <;> omega
    · exact (labelAt_of_ge _ (Nat.not_lt.1 hn)).le
  joined j hj := by
    rcases List.mem_append.1 hj with earlier | last
    · obtain ⟨h1, h2⟩ := inRange j earlier
      rw [labelAt_joinLabels_of_lt _ _ _ h1, labelAt_joinLabels_of_lt _ _ _ h2, h.joined j earlier]
    · rw [List.mem_singleton.1 last, labelAt_joinLabels_of_lt _ _ _ ha, labelAt_joinLabels_of_lt _ _ _ hb,
        if_pos (.inl rfl), if_pos (.inr rfl)]

/-- Joins keep it, so the labels computed have it. -/
theorem labelsFollow_labelsOf (joins : List (Nat × Nat)) (inRange : ∀ j ∈ joins, j.1 < 128 ∧ j.2 < 128) :
    LabelsFollow joins (labelsOf joins) := by
  induction joins using List.reverseRecOn with
  | nil => exact labelsFollow_ownLabels
  | append_singleton joins j ih =>
    have earlier : ∀ i ∈ joins, i.1 < 128 ∧ i.2 < 128 := fun i hi => inRange i (List.mem_append_left _ hi)
    obtain ⟨ha, hb⟩ := inRange j (List.mem_append_right _ (List.mem_singleton.2 rfl))
    rw [labelsOf_concat]
    exact (ih earlier).joinLabels earlier ha hb

/-- The label is one for the whole island. -/
theorem LabelsFollow.eq_of_sameIsland (h : LabelsFollow joins labels) {n m : Nat} (hs : SameIsland joins n m) :
    labelAt labels n = labelAt labels m := by
  induction hs with
  | rel a b join => exact h.joined (a, b) join
  | refl => rfl
  | symm _ _ _ ih => exact ih.symm
  | trans _ _ _ _ _ ih ih' => exact ih.trans ih'

end

/-- Settles O20: one label for the whole island, at or below each of its nodes. -/
theorem labelsNameIslands : Obligations.LabelsNameIslands := by
  intro joins inRange n _
  have follow := labelsFollow_labelsOf joins inRange
  exact ⟨follow.within n, fun m _ same => follow.eq_of_sameIsland same ▸ follow.below m⟩

end Sys2Proof.Machine
end

section
/-! SUPPORT. What the labels are formed from (R125, R126): the nodes and the position of each element. An act that
writes neither these, nor the island unit, nor whether the station is in service, keeps the labels agreed. -/

namespace Sys2Proof.Machine

/-! ## Links -/

/-- What an element with nodes gives the islands: its nodes and its position. -/
def Element.link (e : Element) : Option ((Nat × Nat) × Position) := e.nodes.map fun nodes => (nodes, e.current)

theorem Element.link_congr {e f : Element} (nodes : f.nodes = e.nodes) (current : f.current = e.current) :
    f.link = e.link := by
  simp only [Element.link, nodes, current]

/-- A change of position that starts no relabel is one of an element without nodes, or none (R127). -/
theorem Element.link_of_unmoved {e f : Element} (nodes : f.nodes = e.nodes)
    (unmoved : (e.nodes.isSome && f.current != e.current) = false) : f.link = e.link := by
  cases noded : e.nodes with
  | none => simp only [Element.link, nodes, noded, Option.map_none]
  | some _ =>
    refine Element.link_congr nodes ?_
    rwa [noded, Option.isSome_some, Bool.true_and, bne_eq_false_iff_eq] at unmoved

/-- What the element of a number gives the islands. -/
def State.linkAt (s : State) (n : Nat) : Option ((Nat × Nat) × Position) := (s.elementAt n).bind Element.link

/-- The nodes and positions of the present elements with nodes, in order of element number. -/
def State.links (s : State) : List ((Nat × Nat) × Position) := s.elementList.filterMap Element.link

theorem State.links_congr {s t : State} (h : ∀ n, t.linkAt n = s.linkAt n) : t.links = s.links := by
  have table (u : State) : u.links = (u.elements.toList.map (·.bind Element.link)).filterMap id := by
    rw [State.links, State.elementList, List.filterMap_filterMap, List.filterMap_map]
    rfl
  rw [table, table]
  congr 1
  refine List.ext_getElem (by simp) fun n hn _ => ?_
  have hn : n < 256 := by simpa using hn
  simpa [State.linkAt, State.elementAt, hn] using h n

theorem State.joins_eq (s : State) :
    s.joins = s.links.filterMap fun l => if l.2 = .closed then some l.1 else none := by
  rw [State.joins, State.links, List.filterMap_filterMap]
  congr 1
  funext e
  cases noded : e.nodes <;> simp [Element.link, noded]

theorem State.nodesInUse_eq (s : State) :
    s.nodesInUse = (List.range 128).filter fun n => s.links.any fun l => l.1.1 == n || l.1.2 == n := by
  unfold State.nodesInUse State.links
  congr 1
  funext n
  rw [List.any_filterMap]
  congr 1
  funext e
  cases noded : e.nodes <;> simp [Element.link, noded]

theorem State.uncertainNodes_eq (s : State) :
    s.uncertainNodes = s.links.flatMap fun l => if l.2.uncertain = true then [l.1.1, l.1.2] else [] := by
  rw [State.uncertainNodes, State.links, List.filterMap_eq_flatMap_toList, List.flatMap_assoc]
  congr 1
  funext e
  cases noded : e.nodes <;> simp [Element.link, noded]

/-! ## Acts that keep the labels agreed -/

section
variable {s t : State}

theorem State.LabelsAgree.congr (h : s.LabelsAgree) (service : t.inService = s.inService)
    (islands : t.islands = s.islands) (links : ∀ n, t.linkAt n = s.linkAt n) : t.LabelsAgree := by
  have same := State.links_congr links
  have joins : t.joins = s.joins := by rw [State.joins_eq, State.joins_eq, same]
  have inUse : t.nodesInUse = s.nodesInUse := by rw [State.nodesInUse_eq, State.nodesInUse_eq, same]
  have uncertain : t.uncertainNodes = s.uncertainNodes := by
    rw [State.uncertainNodes_eq, State.uncertainNodes_eq, same]
  intro hs hd
  rw [islands, joins, inUse, uncertain]
  refine h (service ▸ hs) ?_
  rwa [State.labelsDue, ← islands]

/-- Out of service nothing is asked of the labels. -/
theorem State.labelsAgree_of_unserved (h : s.inService = false) : s.LabelsAgree :=
  fun hs => by cases h.symm.trans hs

/-- While a relabel is COMPUTING nothing is asked of the labels (R128). -/
theorem State.labelsAgree_of_computing {c : RelabelCause} (h : s.islands.relabel = some ⟨c, .computing⟩) :
    s.LabelsAgree := by
  intro _ hd
  rw [State.labelsDue, h] at hd
  cases hd

/-- Whether the station is in service, the element table and the island unit. -/
def State.labelParts (s : State) := (s.inService, s.elements, s.islands)

theorem State.LabelsAgree.same (h : s.LabelsAgree) (e : t.labelParts = s.labelParts) : t.LabelsAgree := by
  simp only [State.labelParts, Prod.mk.injEq] at e
  obtain ⟨service, elements, islands⟩ := e
  exact h.congr service islands fun n => by rw [State.linkAt, State.elementAt_congr elements, State.linkAt]

/-- In an act from `s` to `t` that leaves the island unit the element `e` of number `n` was written as `f`, and no
other. -/
structure State.ElementWritten (s : State) (n : Nat) (e f : Element) (t : State) : Prop where
  before : s.elementAt n = some e
  after : t.elementAt n = some f
  others : ∀ m, m ≠ n → t.elementAt m = s.elementAt m
  service : t.inService = s.inService
  islands : t.islands = s.islands

theorem State.elementWritten_setElement {n : Nat} {e : Element} (he : s.elementAt n = some e) (f : Element) :
    s.ElementWritten n e f (s.setElement n f) where
  before := he
  after := State.elementAt_setElement_self _ _ (State.lt_of_elementAt he)
  others _ hm := State.elementAt_setElement_of_ne _ _ hm
  service := rfl
  islands := rfl

theorem State.ElementWritten.labelsAgree {n : Nat} {e f : Element} (w : s.ElementWritten n e f t) (h : s.LabelsAgree)
    (link : f.link = e.link) : t.LabelsAgree := by
  refine h.congr w.service w.islands fun m => ?_
  unfold State.linkAt
  by_cases hm : m = n
  · rw [hm, w.before, w.after]
    exact link
  · rw [w.others m hm]

/-! ## The shared operations -/

theorem State.labelParts_report (s : State) (k : ErrorKind) (x : Option Nat) :
    (s.report k x).labelParts = s.labelParts := by
  rw [(s.reported_report k x).frame]
  rfl

theorem State.inService_settleComplete (s b : State) : (s.settleComplete b).inService = s.inService := by
  have station : (s.retimed b).station = s.station := by rw [State.retimed_spec]
  rw [State.settleComplete_eq, State.inService_congr (s := (s.retimed b).testCompletion b) (by simp),
    State.testCompletion_spec]
  split
  · rename_i completes
    rw [station] at completes
    simp only [State.inService, completes.1]
  · simp only [State.inService, station]

theorem State.labelParts_settleComplete (s b : State) : (s.settleComplete b).labelParts = s.labelParts := by
  simp only [State.labelParts, State.inService_settleComplete, State.settleComplete_elements,
    State.settleComplete_islands]

theorem State.labelParts_settle (s b : State) : (s.settle b).labelParts = s.labelParts := by
  rw [State.settle_frame]
  rfl

theorem State.LabelsAgree.report (h : s.LabelsAgree) (k : ErrorKind) (x : Option Nat) : (s.report k x).LabelsAgree :=
  h.same (s.labelParts_report k x)

/-- An act that writes nothing of this, with what is re-formed after it. -/
theorem State.LabelsAgree.settle {b : State} (h : s.LabelsAgree) (e : t.labelParts = s.labelParts) :
    (t.settle b).LabelsAgree :=
  h.same ((t.labelParts_settle b).trans e)

theorem State.LabelsAgree.settleComplete {b : State} (h : s.LabelsAgree) (e : t.labelParts = s.labelParts) :
    (t.settleComplete b).LabelsAgree :=
  h.same ((t.labelParts_settleComplete b).trans e)

theorem State.LabelsAgree.placeAnswer {a : Answer} (h : s.LabelsAgree) : (s.placeAnswer a).LabelsAgree := h.same rfl

end

end Sys2Proof.Machine
end

section
/-! SUPPORT. The labels over feed records, commands, the link and the peer table. -/

namespace Sys2Proof.Machine

section
variable {s t : State}

/-! ## The start of an epoch (R146, R150, R153) -/

/-- RESTART starts a relabel (R131). -/
theorem State.labelsAgree_restartAct (s : State) (c : RestartCause) (epoch : Nat) :
    (s.restartAct c epoch).LabelsAgree :=
  (State.labelsAgree_of_computing (c := .restart) rfl).settle rfl

/-- COMMIT starts a relabel (R131, R150). -/
theorem State.labelsAgree_commitAct (s : State) : s.commitAct.LabelsAgree :=
  (State.labelsAgree_of_computing (c := .commit) rfl).settle rfl

/-! ## Commands (R135) -/

/-- A watch mark is no part of the element's link (R142). -/
theorem State.LabelsAgree.watchAct (h : s.LabelsAgree) (n : Nat) (m : WatchMark) : (s.watchAct n m).LabelsAgree := by
  unfold State.watchAct
  split
  · rename_i e he
    exact (State.elementWritten_setElement he _).labelsAgree h (Element.link_congr rfl rfl)
  · exact h

/-- START finds the station READY, so in service (R99). -/
theorem State.LabelsAgree.startAct (h : s.LabelsAgree) (hs : s.inService = true) : s.startAct.LabelsAgree := by
  rw [State.startAct_frame]
  exact h.congr hs.symm rfl fun _ => rfl

theorem State.LabelsAgree.commandEffect (h : s.LabelsAgree) {c : Command} (hc : s.commandTest c = none) :
    (s.commandEffect c).LabelsAgree := by
  cases c with
  | start _ => exact h.startAct (State.inService_of_start hc)
  | excludePeer _ p => exact h.settleComplete rfl
  | includePeer _ p => exact h.settle rfl
  | watchSet _ _ _ => exact h.watchAct _ _
  | watchClear _ _ => exact h.watchAct _ _
  | restart _ _ => exact s.labelsAgree_restartAct _ _
  | clearFlags _ _ => exact h.same rfl
  | hold _ => exact h.same rfl
  | resume _ => exact h.same rfl
  | step _ => exact h.same rfl
  | setRate _ _ => exact h.same rfl
  | holdAt _ _ => exact h.same rfl
  | skipOn _ => exact h.same rfl
  | skipOff _ => exact h.same rfl
  | snapshot _ => exact h.same rfl
  | skew _ => exact h.same rfl
  | mask _ _ => exact h.same rfl
  | status _ => exact h
  | malformed _ => exact h

theorem State.LabelsAgree.decideCommand (h : s.LabelsAgree) (c : Command) : (s.decideCommand c).LabelsAgree := by
  have begun : ({ s with console := { s.console with inFlight := none } } : State).LabelsAgree := h.same rfl
  unfold State.decideCommand
  dsimp only
  split
  · exact begun.same rfl
  · rename_i hc
    exact (begun.commandEffect hc).same rfl

theorem State.LabelsAgree.decideWaiting (h : s.LabelsAgree) : s.decideWaiting.LabelsAgree := by
  unfold State.decideWaiting
  split
  · split
    · exact h.decideCommand _
    · exact h
  · exact h

theorem State.LabelsAgree.submit (h : s.LabelsAgree) (c : Command) : (s.submit c).LabelsAgree := by
  unfold State.submit
  split
  · exact State.LabelsAgree.decideWaiting (h.same rfl)
  · exact h

theorem State.LabelsAgree.commandWriteStart (h : s.LabelsAgree) : s.commandWriteStart.LabelsAgree := by
  unfold State.commandWriteStart
  split
  · exact h.report _ _
  · exact h.same rfl

/-! ## The feed port and the description (file 01, file 10) -/

theorem State.LabelsAgree.feedWriteStart (h : s.LabelsAgree) : s.feedWriteStart.LabelsAgree := by
  unfold State.feedWriteStart
  split
  · exact h.same rfl
  · exact h.report _ _

/-- A record is refused, ignored, or handed to its own work (R3, R5). -/
theorem State.LabelsAgree.receiveRecord (h : s.LabelsAgree) (kind : Byte) {verdict : Option AnswerReason}
    {work : State → State} (hw : verdict = none → (work s).LabelsAgree) :
    (s.receiveRecord kind verdict work).LabelsAgree := by
  unfold State.receiveRecord
  split
  · split
    · exact h.placeAnswer
    · exact hw rfl
  · exact h

/-- A description record taken leaves the station in LOADING, out of service (R145). -/
theorem State.labelsAgree_described {a : Answer} (ht : t.inService = false) :
    (t.toLoading.placeAnswer a).LabelsAgree :=
  State.labelsAgree_of_unserved (t.inService_toLoading.trans ht)

theorem State.LabelsAgree.takeDeclare (h : s.LabelsAgree) (hs : s.inService = false) (b : DeclareBody) :
    (s.takeDeclare b).LabelsAgree := by
  unfold State.takeDeclare
  dsimp only
  split
  · exact h.placeAnswer
  · exact State.labelsAgree_described hs

theorem State.LabelsAgree.takeElement (h : s.LabelsAgree) (hs : s.inService = false) (b : ElementBody) :
    (s.takeElement b).LabelsAgree := by
  unfold State.takeElement
  split
  · exact h.placeAnswer
  · exact State.labelsAgree_described hs

theorem State.LabelsAgree.takePoint (h : s.LabelsAgree) (hs : s.inService = false) (b : PointBody) :
    (s.takePoint b).LabelsAgree := by
  unfold State.takePoint
  split
  · exact h.placeAnswer
  · exact State.labelsAgree_described hs

theorem State.LabelsAgree.takeCommit (h : s.LabelsAgree) : s.takeCommit.LabelsAgree := by
  unfold State.takeCommit
  split
  · exact h.placeAnswer
  · exact s.labelsAgree_commitAct.decideWaiting

/-! ## Records of a source (file 01) and the merge act (R55) -/

theorem State.LabelsAgree.takeSegment (h : s.LabelsAgree) (b : SegmentBody) : (s.takeSegment b).LabelsAgree := by
  unfold State.takeSegment
  dsimp only
  split
  · exact h.placeAnswer
  · split
    · exact h.placeAnswer
    · exact h.same rfl

theorem State.LabelsAgree.takeProgress (h : s.LabelsAgree) (b : ProgressBody) : (s.takeProgress b).LabelsAgree := by
  unfold State.takeProgress
  dsimp only
  split
  · exact h.placeAnswer
  · exact h.settle rfl

theorem State.LabelsAgree.takeEndSource (h : s.LabelsAgree) (n : Byte) : (s.takeEndSource n).LabelsAgree := by
  unfold State.takeEndSource
  dsimp only
  split
  · exact h.placeAnswer
  · exact h.settleComplete rfl

theorem State.LabelsAgree.admitEvent (h : s.LabelsAgree) (b : EventBody) (p : PointEntry) (position : Position)
    (c : SequenceClass) (ordinal : Nat) : (s.admitEvent b p position c ordinal).LabelsAgree := by
  rw [State.admitEvent_eq, State.eventReports_frame]
  exact h.settle rfl

theorem State.LabelsAgree.takeEvent (h : s.LabelsAgree) (b : EventBody) : (s.takeEvent b).LabelsAgree := by
  have counted (f : SourceCounters → SourceCounters) : (s.countSource b.source.toNat f).LabelsAgree := h.same rfl
  unfold State.takeEvent
  dsimp only
  split
  · exact h.placeAnswer
  · split
    · exact h.placeAnswer
    · split
      · exact ((counted _).report _ _).placeAnswer
      · rename_i ordinal _ _ p _
        have admitted (c : SequenceClass) : (match s.admission b.source.toNat p.element with
            | some a =>
              (s.countSource b.source.toNat fun k => { k with deferred := satSucc max32 k.deferred }).placeAnswer a
            | none => s.admitEvent b p ((Position.ofReport b.position).getD .bad) c ordinal).LabelsAgree := by
          split
          · exact (counted _).placeAnswer
          · exact h.admitEvent _ _ _ _ _
        split
        · exact ((counted _).report _ _).placeAnswer
        · exact admitted .inOrder
        · exact admitted (.gap _)

theorem State.labelParts_mergeEvent (s : State) (e : Intake) (x : Candidate) :
    (s.mergeEvent e x).labelParts = s.labelParts := by
  unfold State.mergeEvent
  dsimp only
  split
  · split
    · rfl
    · rw [State.countMerge_frame]
      rfl
  · rw [State.countMerge_frame]
    rfl

theorem State.LabelsAgree.mergeAct (h : s.LabelsAgree) : s.mergeAct.LabelsAgree := by
  unfold State.mergeAct
  split
  · split
    · exact h.settle rfl
    · exact h.settle (s.labelParts_mergeEvent _ _)
  · exact h

/-! ## Link (file 04) -/

theorem State.LabelsAgree.heartbeatAct (h : s.LabelsAgree) : s.heartbeatAct.LabelsAgree := by
  unfold State.heartbeatAct
  split
  · exact h.same rfl
  · exact h

theorem State.LabelsAgree.buildFrame (h : s.LabelsAgree) (quietBits : Nat) : (s.buildFrame quietBits).LabelsAgree := by
  unfold State.buildFrame
  split
  · exact h.same rfl
  · exact h

theorem State.LabelsAgree.failFrame (h : s.LabelsAgree) (retry : TxState) : (s.failFrame retry).LabelsAgree := by
  unfold State.failFrame
  dsimp only
  split
  · exact h.same (State.labelParts_report _ _ _)
  · exact h.same rfl

theorem State.LabelsAgree.collide (h : s.LabelsAgree) (bit : Nat) : (s.collide bit).LabelsAgree := by
  unfold State.collide
  split
  · split
    · exact h.failFrame _
    · exact h
  all_goals exact h

theorem State.LabelsAgree.transmitError (h : s.LabelsAgree) (bit : Nat) : (s.transmitError bit).LabelsAgree := by
  unfold State.transmitError
  split
  · split
    · exact h.failFrame _
    · exact h
  all_goals exact h

theorem State.LabelsAgree.countBackoff (h : s.LabelsAgree) (quietBits : Nat) :
    (s.countBackoff quietBits).LabelsAgree := by
  unfold State.countBackoff
  split
  · exact h.same rfl
  all_goals exact h

theorem State.LabelsAgree.expireMute (h : s.LabelsAgree) : s.expireMute.LabelsAgree := by
  unfold State.expireMute
  split
  · split
    · exact h.same rfl
    · exact h
  all_goals exact h

theorem State.LabelsAgree.frameSent (h : s.LabelsAgree) : s.frameSent.LabelsAgree := by
  unfold State.frameSent
  split
  · exact h.settleComplete rfl
  all_goals exact h

theorem State.LabelsAgree.rejectSync (h : s.LabelsAgree) (p : Preamble) (delimiter : Byte) :
    (s.rejectSync p delimiter).LabelsAgree := by
  unfold State.rejectSync
  split
  · exact h.same (State.labelParts_report _ _ _)
  · exact h

theorem State.LabelsAgree.openFrame (h : s.LabelsAgree) (p : Preamble) (delimiter : Byte) :
    (s.openFrame p delimiter).LabelsAgree := by
  unfold State.openFrame
  split
  · exact h.same rfl
  · exact h

theorem State.LabelsAgree.placeFrame (h : s.LabelsAgree) (f : Frame) : (s.placeFrame f).LabelsAgree := by
  unfold State.placeFrame
  split
  · exact h.same rfl
  · split
    · exact h.same rfl
    · exact h.same (State.labelParts_report _ _ _)

theorem State.LabelsAgree.receiveFrame (h : s.LabelsAgree) (bits : Bits) (own : Bool) :
    (s.receiveFrame bits own).LabelsAgree := by
  have received : ({ s with rx := { s.rx with phase := .searching } } : State).LabelsAgree := h.same rfl
  unfold State.receiveFrame
  split
  · split
    · exact h.same (State.labelParts_report _ _ _)
    · exact h.same (State.labelParts_report _ _ _)
    · dsimp only
      split
      · exact received
      · split
        · exact received.same (State.labelParts_report _ _ _)
        · exact received.placeFrame _
  all_goals exact h

/-! ## Peer table (file 05) -/

theorem State.LabelsAgree.frameWrites (h : s.LabelsAgree) (w : s.FrameWrites t) : t.LabelsAgree := by
  rw [w]
  exact h.same rfl

theorem State.LabelsAgree.beginFrame (h : s.LabelsAgree) (f : Frame) (entries : Nat) :
    (s.beginFrame f entries).LabelsAgree := by
  have counted : (s.countFrame f.sender).LabelsAgree := h.same rfl
  unfold State.beginFrame
  dsimp only
  split
  · have taken := counted.frameWrites ((s.countFrame f.sender).frameWrites_acceptFrame f entries)
    exact (taken.settleComplete rfl).decideWaiting
  · split
    · exact (State.labelsAgree_restartAct _ _ _).decideWaiting
    · have foreign : s.FrameWrites
          ((s.countFrame f.sender).updatePeer f.sender fun p => p.foreign f.epoch).endProcessing := rfl
      exact ((h.frameWrites foreign).settleComplete rfl).decideWaiting

theorem State.LabelsAgree.processFrame (h : s.LabelsAgree) (entries : Nat) : (s.processFrame entries).LabelsAgree := by
  unfold State.processFrame
  split
  · rename_i pr _
    split
    · have taken := h.frameWrites (State.frameWrites_takeChanges pr.frame pr.tracked entries pr.remaining s)
      exact (taken.settleComplete rfl).decideWaiting
    · exact h
  · split
    · exact h
    · split
      · exact h.beginFrame _ entries
      · exact h

theorem State.LabelsAgree.silencePeer (h : s.LabelsAgree) (n : Nat) : (s.silencePeer n).LabelsAgree := by
  unfold State.silencePeer
  split
  · split
    · exact h.same rfl
    · exact h
  · exact h

end

end Sys2Proof.Machine
end

section
/-! SUPPORT. The labels over delivery, the relabel, the release engine, the apply step and the clock, and over every
step, with the statement O15. -/

namespace Sys2Proof.Machine

section
variable {s t : State}

/-! ## Delivery (R98, R124, R133, R141) and SNAPSHOT (R122) -/

theorem State.LabelsAgree.beginRecord (h : s.LabelsAgree) : s.beginRecord.LabelsAgree := by
  unfold State.beginRecord
  split
  · exact h
  · split
    · exact State.LabelsAgree.decideWaiting (h.same rfl)
    · exact h

theorem State.LabelsAgree.queueHoldState (h : s.LabelsAgree) : s.queueHoldState.LabelsAgree := by
  unfold State.queueHoldState
  split
  · exact h.same rfl
  · exact h

theorem State.LabelsAgree.queueComplete (h : s.LabelsAgree) : s.queueComplete.LabelsAgree := by
  unfold State.queueComplete
  split
  · exact h.same rfl
  · exact h

theorem State.LabelsAgree.emitSkew (h : s.LabelsAgree) : s.emitSkew.LabelsAgree := by
  unfold State.emitSkew
  split
  · exact h
  · split
    · exact h
    · split
      · exact h.same rfl
      · exact h

theorem State.LabelsAgree.beginEmission (h : s.LabelsAgree) : s.beginEmission.LabelsAgree := by
  unfold State.beginEmission
  split
  · exact h.same rfl
  · exact h

theorem State.LabelsAgree.emitElement (h : s.LabelsAgree) : s.emitElement.LabelsAgree := by
  unfold State.emitElement
  split
  · exact h
  · exact h
  · split
    · exact h
    · split
      · exact h.same rfl
      · exact h

theorem State.LabelsAgree.emitLabels (h : s.LabelsAgree) : s.emitLabels.LabelsAgree := by
  unfold State.emitLabels
  split
  · exact h
  · exact h
  · split
    · exact h.same rfl
    · exact h

/-! ## The relabel (R128, R129) -/

/-- The labels computed are those of the present positions, in EMITTING and after. -/
theorem State.labelsAgree_computed (s : State) (relabel : Option Relabel) :
    ({ s with islands := s.computedIslands relabel } : State).LabelsAgree := fun _ _ => ⟨rfl, rfl, rfl⟩

/-- The end of a relabel leaves the labels, so it keeps them agreed where they were not due. -/
theorem State.LabelsAgree.endRelabel (h : s.LabelsAgree) (hd : s.labelsDue = false) (c : RelabelCause) :
    (s.endRelabel c).LabelsAgree := by
  have ended : ({ s with islands := { s.islands with relabel := none } } : State).LabelsAgree := fun hs _ => h hs hd
  cases c <;> exact ended.same rfl

theorem State.LabelsAgree.computeRelabel (h : s.LabelsAgree) : s.computeRelabel.LabelsAgree := by
  by_cases computing : ∃ c, s.islands.relabel = some ⟨c, .computing⟩
  · obtain ⟨c, hc⟩ := computing
    by_cases same : labelChanges s.islands.labels (labelsOf s.joins) = [] ∧
        countUncertain (labelsOf s.joins) s.uncertainNodes = s.islands.uncertainCount
    · rw [State.computeRelabel_same hc same.1 same.2]
      have ended := s.labelsAgree_computed none
      exact ended.settleComplete (by cases c <;> rfl)
    · rw [State.computeRelabel_changed hc (not_and_or.1 same)]
      exact s.labelsAgree_computed _
  · rw [State.computeRelabel_ignored fun r hr stage => computing ⟨r.cause, by rw [hr, ← stage]⟩]
    exact h

theorem State.LabelsAgree.emitIslands (h : s.LabelsAgree) : s.emitIslands.LabelsAgree := by
  unfold State.emitIslands
  split
  · exact h
  · rename_i r hr
    split
    · exact h
    · rename_i emitting
      split
      · have due : s.labelsDue = false := by
          rw [State.labelsDue, hr, Option.any_some, emitting]
          rfl
        exact (h.endRelabel due r.cause).settleComplete (by cases r.cause <;> rfl)
      · exact h

/-! ## The release engine (R110 to R121) and the apply step (R114) -/

/-- An item goes into flight after it wrote one element; where it starts no relabel it left what the labels are formed
from (R127). -/
theorem State.LabelsAgree.enterFlight (h : s.LabelsAgree) {n : Nat} {e f : Element} (w : s.ElementWritten n e f t)
    (i : Item) (record : Option RecordBody) {relabels : Bool} (link : relabels = false → f.link = e.link) :
    (t.enterFlight i record relabels).LabelsAgree := by
  rw [State.enterFlight_frame]
  cases relabels with
  | true => exact State.labelsAgree_of_computing (c := .item i.key) rfl
  | false => exact (w.labelsAgree h (link rfl)).same rfl

theorem State.OwnApplied.elementWritten {x : PendingEntry} {e f : Element} {ts : List Key} {a : Applied}
    (o : s.OwnApplied x e f ts a) (he : s.elementAt x.element = some e) : s.ElementWritten x.element e f a.state where
  before := he
  after := o.element
  others := o.elements
  service := by rw [o.frame]; rfl
  islands := by rw [o.frame]

theorem State.LabelsAgree.releaseItem (h : s.LabelsAgree) (i : Item) : (s.releaseItem i).LabelsAgree := by
  cases i with
  | own x =>
    cases he : s.elementAt x.element with
    | none =>
      simp only [State.releaseItem, State.releaseOwn, he]
      exact h
    | some e =>
      obtain ⟨f, ts, applied⟩ := State.exists_ownApplied he
      rw [State.releaseItem_own he]
      refine h.enterFlight (applied.elementWritten he) _ _ fun unmoved => ?_
      have nodes : f.nodes = e.nodes := by rw [applied.fields]; rfl
      have current : f.current = x.position := by rw [applied.fields]; rfl
      exact Element.link_of_unmoved nodes (current ▸ unmoved)
  | remote r =>
    simp only [State.releaseItem, State.releaseRemote]
    split
    · exact h
    · rename_i e he
      exact h.enterFlight (State.elementWritten_setElement he _) _ _ fun unmoved => Element.link_of_unmoved rfl unmoved
  | timer k =>
    simp only [State.releaseItem, State.releaseTravel, State.releaseQuiet]
    split
    · split
      · exact h
      · rename_i e he
        exact h.enterFlight (State.elementWritten_setElement he _) _ _ fun _ => Element.link_congr rfl rfl
    · split
      · exact h
      · rename_i e he
        exact h.enterFlight (State.elementWritten_setElement he _) _ _ fun _ => Element.link_congr rfl rfl

theorem State.LabelsAgree.stepped (h : s.LabelsAgree) (i : Item) : (s.stepped i).LabelsAgree := by
  rw [State.stepped_frame, State.removed_frame]
  exact h.same rfl

theorem State.LabelsAgree.releaseAct (h : s.LabelsAgree) : s.releaseAct.LabelsAgree := by
  by_cases head : ∃ i, s.leastHead = some i ∧ s.CanRelease i.key
  · obtain ⟨i, hi, can⟩ := head
    rw [State.releaseAct_releases hi can]
    exact ((h.stepped i).releaseItem i).settleComplete rfl
  · rw [State.releaseAct_stays fun i hi can => head ⟨i, hi, can⟩]
    exact h

theorem State.labelParts_afterRecord (s : State) (r : ReleaseInFlight) :
    (s.afterRecord r).labelParts = s.labelParts := by
  rw [State.afterRecord_eq]
  rfl

theorem State.LabelsAgree.queueReleaseRecord (h : s.LabelsAgree) : s.queueReleaseRecord.LabelsAgree := by
  unfold State.queueReleaseRecord
  split
  · exact h
  · split
    · split
      · exact h.settleComplete (State.labelParts_afterRecord _ _)
      · exact h.settleComplete rfl
      · exact h
    · exact h

/-- A LATE change either starts a relabel or leaves what the labels are formed from (R114). -/
theorem State.LabelsAgree.lateApply (h : s.LabelsAgree) : s.lateApply.LabelsAgree := by
  have taken : s.takeHandOver.LabelsAgree := h.same rfl
  unfold State.lateApply
  split
  · exact h
  · rename_i r _
    split
    · split
      · exact taken
      · rename_i e he
        have written := State.elementWritten_setElement (s := s.takeHandOver) he
          { e with current := r.position, lastRelease := some ⟨r.key.time, r.key.source, r.position⟩ }
        dsimp only
        split
        · exact (State.labelsAgree_of_computing (c := .late r.key) rfl).settleComplete rfl
        · rename_i unmoved
          refine (written.labelsAgree taken (Element.link_of_unmoved rfl ?_)).settleComplete rfl
          rwa [← Bool.not_eq_true, Bool.and_eq_true, bne_iff_ne]
    · exact h

/-! ## The clock (R95) and stall (R107) -/

theorem State.LabelsAgree.tick (h : s.LabelsAgree) : s.tick.LabelsAgree := by
  rw [State.tick_keeps]
  exact h.same rfl

theorem State.LabelsAgree.stallAct (h : s.LabelsAgree) : s.stallAct.LabelsAgree := by
  unfold State.stallAct
  split
  · split
    · exact h.same rfl
    · exact h
  · exact h

end

/-! ## Every step -/

theorem State.LabelsAgree.exec {s t : State} (h : s.LabelsAgree) {i : Instr} (he : Machine.exec i s = .next t) :
    t.LabelsAgree := by
  have acts {u : State} (hu : Machine.exec i s = .next u) (agree : u.LabelsAgree) : t.LabelsAgree := by
    rw [hu] at he
    cases he
    exact agree
  have unserved {form inRange : Bool} (hv : screen form s.acceptsDescription inRange = none) : s.inService = false :=
    State.not_inService_of_acceptsDescription (accepted_of_screen hv)
  cases i with
  | powerOnReset straps => exact acts rfl (State.labelsAgree_of_unserved rfl)
  | feedWriteStart => exact acts rfl h.feedWriteStart
  | stationSettings f b =>
    exact acts rfl (h.receiveRecord kindSettings fun hv => State.labelsAgree_described (unserved hv))
  | declareSource f b => exact acts rfl (h.receiveRecord kindDeclare fun hv => h.takeDeclare (unserved hv) b)
  | element f b => exact acts rfl (h.receiveRecord kindElement fun hv => h.takeElement (unserved hv) b)
  | point f b => exact acts rfl (h.receiveRecord kindPoint fun hv => h.takePoint (unserved hv) b)
  | commit f => exact acts rfl (h.receiveRecord kindCommit fun _ => h.takeCommit)
  | segment f b => exact acts rfl (h.receiveRecord kindSegment fun _ => h.takeSegment b)
  | event f b => exact acts rfl (h.receiveRecord kindEvent fun _ => h.takeEvent b)
  | progress f b => exact acts rfl (h.receiveRecord kindProgress fun _ => h.takeProgress b)
  | endSource f n => exact acts rfl (h.receiveRecord kindEndSource fun _ => h.takeEndSource n)
  | malformedFeedRecord kind n => exact acts rfl (h.receiveRecord kind fun _ => h.same rfl)
  | mergeAct => exact acts rfl h.mergeAct
  | commandWriteStart => exact acts rfl h.commandWriteStart
  | start n => exact acts rfl (h.submit _)
  | hold n => exact acts rfl (h.submit _)
  | resume n => exact acts rfl (h.submit _)
  | step n => exact acts rfl (h.submit _)
  | setRate n r => exact acts rfl (h.submit _)
  | holdAt n w => exact acts rfl (h.submit _)
  | skipOn n => exact acts rfl (h.submit _)
  | skipOff n => exact acts rfl (h.submit _)
  | watchSet n e k => exact acts rfl (h.submit _)
  | watchClear n e => exact acts rfl (h.submit _)
  | excludePeer n p => exact acts rfl (h.submit _)
  | includePeer n p => exact acts rfl (h.submit _)
  | snapshot n => exact acts rfl (h.submit _)
  | status n => exact acts rfl (h.submit _)
  | skew n => exact acts rfl (h.submit _)
  | restart n b => exact acts rfl (h.submit _)
  | clearFlags n f => exact acts rfl (h.submit _)
  | mask n m => exact acts rfl (h.submit _)
  | malformedCommand k => exact acts rfl (h.submit _)
  | consoleReadyAssert => exact acts rfl (h.same rfl)
  | consoleReadyWithdraw => exact acts rfl (h.same rfl)
  | deliveryRecordBegin => exact acts rfl h.beginRecord
  | deliveryRecordEnd => exact acts rfl (h.same rfl)
  | heartbeat => exact acts rfl h.heartbeatAct
  | frameBuild q => exact acts rfl (h.buildFrame q)
  | collision bit => exact acts rfl (h.collide bit)
  | transmitError bit => exact acts rfl (h.transmitError bit)
  | frameSentWhole => exact acts rfl h.frameSent
  | backoffDone q => exact acts rfl (h.countBackoff q)
  | muteExpiry => exact acts rfl h.expireMute
  | syncReject p d => exact acts rfl (h.rejectSync p d)
  | frameOpened p d => exact acts rfl (h.openFrame p d)
  | frameReceive bits own => exact acts rfl (h.receiveFrame bits own)
  | frameProcessing n => exact acts rfl (h.processFrame n)
  | peerSilenceTimeout p => exact acts rfl (h.silencePeer p.toNat)
  | release => exact acts rfl h.releaseAct
  | releaseRecordQueue => exact acts rfl h.queueReleaseRecord
  | lateApply => exact acts rfl h.lateApply
  | relabelComputed => exact acts rfl h.computeRelabel
  | islandsEmit => exact acts rfl h.emitIslands
  | snapshotEmitting => exact acts rfl h.beginEmission
  | elementState => exact acts rfl h.emitElement
  | nodeLabels => exact acts rfl h.emitLabels
  | skewRecord => exact acts rfl h.emitSkew
  | holdState => exact acts rfl h.queueHoldState
  | completeRecord => exact acts rfl h.queueComplete
  | clockAdvance => exact acts rfl h.tick
  | stallTimeout => exact acts rfl h.stallAct

/-- Settles O15: an act leaves the nodes, positions and labels, starts a relabel, computes the labels, or ends out of
service. -/
theorem labelsStayAgreed : Obligations.LabelsStayAgreed := by
  intro s t h hstep
  rcases step_next hstep with ⟨-, rfl⟩ | ⟨i, rest, -, hi⟩
  · exact h
  · have popped : ({ s with pending := rest } : State).LabelsAgree := h.same rfl
    exact popped.exec hi

end Sys2Proof.Machine
end

section
/-! SUPPORT. WATCH_SET and WATCH_CLEAR (R142, R143), with their statement (O39), and CLEAR_FLAGS and MASK (R138, R139),
with theirs (O42). -/

namespace Sys2Proof.Machine

theorem exec_watchSet (l n k : Byte) (s : State) :
    exec (.watchSet l n k) s = .next (s.submit (.watchSet l n k)) := rfl

theorem exec_watchClear (l n : Byte) (s : State) :
    exec (.watchClear l n) s = .next (s.submit (.watchClear l n)) := rfl

theorem exec_clearFlags (l b : Byte) (s : State) :
    exec (.clearFlags l b) s = .next (s.submit (.clearFlags l b)) := rfl

theorem exec_mask (l b : Byte) (s : State) : exec (.mask l b) s = .next (s.submit (.mask l b)) := rfl

/-! ## The tests of WATCH_SET and WATCH_CLEAR (R135, R142, R143) -/

/-- The two mark kinds of the COMMAND KIND TABLE. -/
theorem WatchMark.ofCode_eq {k : Byte} (hk : k = 1 ∨ k = 2) :
    WatchMark.ofCode k = some (if k = 1 then .localMark else .broadcast) := by
  rcases hk with rfl | rfl <;> rfl

/-- The commands on the watch list are accepted in READY and REPLAYING alone. -/
theorem commandAccepted_watch_iff {st : StationState} (l n k : Byte) :
    (commandAccepted st (.watchSet l n k) = true ↔ st = .ready ∨ st = .replaying) ∧
    (commandAccepted st (.watchClear l n) = true ↔ st = .ready ∨ st = .replaying) := by
  simp only [commandAccepted, Bool.or_eq_true, beq_iff_eq, and_self]

section
variable {s : State} {n : Byte} {e : Element}

theorem State.ownTest_watch_absent (absent : s.elementAt n.toNat = none) (l k : Byte) :
    s.ownTest (.watchSet l n k) = some .outOfRange ∧ s.ownTest (.watchClear l n) = some .outOfRange := by
  simp only [State.ownTest, absent, and_self]

/-- WATCH_SET asks for room on the watch list where the element is not on it yet (R142). -/
theorem State.ownTest_watchSet (he : s.elementAt n.toNat = some e) (l k : Byte) :
    s.ownTest (.watchSet l n k) = if e.watch = .none ∧ 16 ≤ s.watched.length then some .full else none := by
  simp only [State.ownTest, he]
  rfl

/-- WATCH_CLEAR asks for an element on the watch list (R143). -/
theorem State.ownTest_watchClear (he : s.elementAt n.toNat = some e) (l : Byte) :
    s.ownTest (.watchClear l n) = if e.watch = .none then some .notApplicable else none := by
  simp only [State.ownTest, he]

/-! ## Their effect -/

theorem State.watchAct_present {n : Nat} (he : s.elementAt n = some e) (m : WatchMark) :
    s.watchAct n m = s.setElement n { e with watch := m } := by
  simp only [State.watchAct, he]

/-- A row that writes a present element's mark and replies to its command changes that element alone. -/
theorem State.exists_marked {n : Nat} (he : s.elementAt n = some e) {i : Instr} {m : WatchMark} {kind : Byte}
    (row : exec i s = .next ((s.written.watchAct n m).withReply kind none false)) :
    ∃ t, exec i s = .next t ∧ t = { s.written.withReply kind none false with elements := t.elements } ∧
      t.elementAt n = some { e with watch := m } ∧ ∀ k, k ≠ n → t.elementAt k = s.elementAt k := by
  rw [State.watchAct_present (s := s.written) he] at row
  exact ⟨_, row, rfl, s.elementAt_setElement_self _ (State.lt_of_elementAt he),
    fun _ other => s.elementAt_setElement_of_ne _ other⟩

/-! ## Their rows -/

section
variable {k : Byte} (h : s.DecidesAtOnce)
include h

/-- Outside READY and REPLAYING both commands are refused (R136). -/
theorem State.exec_watch_wrongState (hr : s.station.state ≠ .ready) (hp : s.station.state ≠ .replaying) :
    exec (.watchSet 2 n k) s = .next (s.written.withReply 9 (some .wrongState) false) ∧
    exec (.watchClear 1 n) s = .next (s.written.withReply 10 (some .wrongState) false) := by
  obtain ⟨set, clear⟩ := commandAccepted_watch_iff (st := s.station.state) 2 n k
  have unstarted : ¬ (s.station.state = .ready ∨ s.station.state = .replaying) := not_or.2 ⟨hr, hp⟩
  refine ⟨congrArg _ (State.submit_refused h rfl (State.commandTest_wrongState (commandFormHolds_watchSet n k) ?_)),
    congrArg _ (State.submit_refused h rfl (State.commandTest_wrongState rfl ?_))⟩
  · exact Bool.eq_false_iff.2 (mt set.1 unstarted)
  · exact Bool.eq_false_iff.2 (mt clear.1 unstarted)

variable (hs : s.station.state = .ready ∨ s.station.state = .replaying)
include hs

/-- In READY and REPLAYING WATCH_SET is decided by its own test. -/
theorem State.exec_watchSet_own (hk : k = 1 ∨ k = 2) : exec (.watchSet 2 n k) s = .next (
    match s.ownTest (.watchSet 2 n k) with
    | none => (s.written.watchAct n.toNat (if k = 1 then .localMark else .broadcast)).withReply 9 none false
    | some r => s.written.withReply 9 (some r) false) := by
  rw [exec_watchSet, State.submit_own h (c := .watchSet 2 n k) rfl (fun _ => Command.noConfusion)
    (commandFormHolds_watchSet n k) ((commandAccepted_watch_iff 2 n k).1.2 hs), State.commandEffect,
    WatchMark.ofCode_eq hk]
  rfl

/-- In READY and REPLAYING WATCH_CLEAR is decided by its own test. -/
theorem State.exec_watchClear_own : exec (.watchClear 1 n) s = .next (
    match s.ownTest (.watchClear 1 n) with
    | none => (s.written.watchAct n.toNat .none).withReply 10 none false
    | some r => s.written.withReply 10 (some r) false) := by
  rw [exec_watchClear, State.submit_own h (c := .watchClear 1 n) rfl (fun _ => Command.noConfusion) rfl
    ((commandAccepted_watch_iff 1 n 0).2.2 hs)]
  rfl

end

/-! ## CLEAR_FLAGS and MASK (R138, R139) -/

/-- A well-formed command of these two is decided in every state, with no test of its own. -/
theorem State.submit_clearFlags_mask (h : s.DecidesAtOnce) (b : Byte) :
    s.submit (.clearFlags 1 b) = (s.written.clearFlagsAct b).withReply 17 none false ∧
    s.submit (.mask 1 b) = (s.written.maskAct b).withReply 18 none false :=
  ⟨State.submit_own h (c := .clearFlags 1 b) rfl (fun _ => Command.noConfusion) rfl rfl,
    State.submit_own h (c := .mask 1 b) rfl (fun _ => Command.noConfusion) rfl rfl⟩

theorem State.clearFlagsAct_frame (s : State) (b : Byte) :
    s.clearFlagsAct b = { s with attention := (s.clearFlagsAct b).attention } := rfl

theorem State.clearFlagsAct_mask (s : State) (b : Byte) :
    (s.clearFlagsAct b).attention.mask = s.attention.mask := rfl

/-- Bit n of the byte names flag n of the STATE CODE TABLE; STALL and LINK stay while their conditions hold (R138). -/
theorem State.clearFlagsAct_flags (s : State) (b : Byte) : (s.clearFlagsAct b).attention.flags = {
    brk := s.attention.flags.brk && !b.getLsbD 0
    complete := s.attention.flags.complete && !b.getLsbD 1
    stall := s.attention.flags.stall && (!b.getLsbD 2 || s.clock.stall)
    error := s.attention.flags.error && !b.getLsbD 3
    lag := s.attention.flags.lag && !b.getLsbD 4
    link := s.attention.flags.link && (!b.getLsbD 5 || s.linkHolds) } := rfl

/-- The error capture is emptied where ERROR is named (R139). -/
theorem State.clearFlagsAct_capture (s : State) (b : Byte) :
    (s.clearFlagsAct b).attention.capture = if b.getLsbD 3 then ⟨none, 0, none⟩ else s.attention.capture := rfl

end

/-- Settles O39: both commands refused outside their states, else decided by their own tests; the mark written at the
element named alone. -/
theorem watchMarksAreSetAndCleared : Obligations.WatchMarksAreSetAndCleared := by
  intro s n k h hk
  refine ⟨State.exec_watch_wrongState h, fun hs => ?_⟩
  have set := State.exec_watchSet_own (n := n) h hs hk
  have clear := State.exec_watchClear_own (n := n) h hs
  refine ⟨fun absent => ?_, fun e he => ?_⟩
  · obtain ⟨ownSet, _⟩ := State.ownTest_watch_absent absent 2 k
    obtain ⟨_, ownClear⟩ := State.ownTest_watch_absent absent 1 k
    rw [ownSet] at set
    rw [ownClear] at clear
    exact ⟨set, clear⟩
  · rw [State.ownTest_watchSet he] at set
    rw [State.ownTest_watchClear he] at clear
    refine ⟨fun unwatched full => ?_, fun room => ?_, fun unwatched => ?_, fun watched => ?_⟩
    · rw [set, if_pos ⟨unwatched, full⟩]
    · have fits : ¬ (e.watch = .none ∧ 16 ≤ s.watched.length) := by rwa [not_and_or, Nat.not_le]
      rw [if_neg fits] at set
      exact State.exists_marked he set
    · rw [clear, if_pos unwatched]
    · rw [if_neg watched] at clear
      exact State.exists_marked he clear

/-- Settles O42: neither command has a test of its own; the flags, the capture and the mask bit by bit. -/
theorem flagsAreClearedAndMasked : Obligations.FlagsAreClearedAndMasked := by
  intro s b h
  obtain ⟨cleared, masked⟩ := State.submit_clearFlags_mask h b
  refine ⟨⟨(s.written.clearFlagsAct b).withReply 17 none false, ?_, ?_, ?_, ?_, ?_⟩, ?_⟩
  · rw [exec_clearFlags, cleared]
  · exact congrArg (State.withReply · 17 none false) (s.written.clearFlagsAct_frame b)
  · exact s.written.clearFlagsAct_mask b
  · exact s.written.clearFlagsAct_flags b
  · exact s.written.clearFlagsAct_capture b
  · rw [exec_mask, masked]
    rfl

end Sys2Proof.Machine
end

section
/-! SUPPORT. COMMIT: its checks in their order (R149), each as what it says of the description; what every block holds
after a commit (R150); and the statements on it (O25, O26). -/

namespace Sys2Proof.Machine

/-! ## The five checks (R149) -/

theorem State.source_mem {s : State} {n : Nat} (hn : n < 32) : s.source n ∈ s.sources.toList := by
  have entry : s.source n = s.sources[n] := by simp [State.source, hn]
  rw [entry, Vector.mem_toList_iff]
  exact Vector.getElem_mem hn

theorem State.someDeclared_iff (s : State) :
    s.sources.toList.any (fun r => r.state == .declared) = true ↔ s.someDeclared := by
  simp only [List.any_eq_true, beq_iff_eq]
  constructor
  · rintro ⟨r, hr, declared⟩
    obtain ⟨n, rfl⟩ := State.exists_source_of_mem hr
    exact ⟨n, declared⟩
  · rintro ⟨n, declared⟩
    have hn : n < 32 := by
      by_contra hn
      rw [State.source_of_ge s (Nat.not_lt.1 hn)] at declared
      cases declared
    exact ⟨s.source n, State.source_mem hn, declared⟩

theorem State.pointCommits_iff (s : State) (p : PointEntry) :
    s.pointCommits p = true ↔ ∃ e, s.elementAt p.element = some e ∧ ∀ t o, e.ownership ≠ .mirror t o := by
  unfold State.pointCommits
  cases s.elementAt p.element with
  | none => simp
  | some e => cases h : e.ownership <;> simp [h]

theorem State.pointsResolve_iff (s : State) : s.points.all s.pointCommits = true ↔ s.pointsResolve := by
  simp only [List.all_eq_true, State.pointCommits_iff, State.pointsResolve]

/-- A test of every present element is one of every element number. -/
theorem State.all_present_iff (s : State) (test : Element → Bool) :
    s.present.all (fun p => test p.2) = true ↔ ∀ n e, s.elementAt n = some e → test e = true := by
  simp only [List.all_eq_true, Prod.forall, State.mem_present]

theorem Element.nodesDiffer_iff (e : Element) : e.nodesDiffer = true ↔ ∀ a b, e.nodes = some (a, b) → a ≠ b := by
  unfold Element.nodesDiffer
  rcases e.nodes with _ | ⟨a, b⟩ <;> simp

theorem State.nodesDistinct_iff (s : State) :
    s.present.all (fun p => p.2.nodesDiffer) = true ↔ s.nodesDistinct := by
  simp only [State.all_present_iff, Element.nodesDiffer_iff]
  exact forall₂_congr fun n e => ⟨fun h a b he => h he a b, fun h he a b => h a b he⟩

theorem State.ownerCommits_iff (s : State) (e : Element) : s.ownerCommits e = true ↔
    ∀ t o, e.ownership = .mirror t o → o ≠ s.station.number ∧ s.settings.expectedMask.getLsbD o = true := by
  unfold State.ownerCommits
  cases e.ownership <;> simp

theorem State.ownersExpected_iff (s : State) :
    s.present.all (fun p => s.ownerCommits p.2) = true ↔ s.ownersExpected := by
  simp only [State.all_present_iff, State.ownerCommits_iff]
  exact forall₂_congr fun n e => ⟨fun h t o he => h he t o, fun h he t o => h t o he⟩

theorem State.ties_eq (s : State) :
    s.ties = (List.range 256).filterMap fun n => (s.elementAt n).bind Element.tie := by
  simp only [State.ties, State.present, List.filterMap_filterMap]
  refine List.filterMap_congr fun n _ => ?_
  cases s.elementAt n <;> rfl

/-- Check 4: the list of the tie numbers holds none twice exactly where two elements never share one. -/
theorem State.tiesUnique_iff (s : State) : s.ties.Nodup ↔ s.tiesUnique := by
  rw [State.ties_eq, List.Nodup, List.pairwise_filterMap]
  constructor
  · intro h n m e f t he hf hte htf
    by_contra hne
    have apart : ∀ i j, i < j → j < 256 → (s.elementAt i).bind Element.tie = some t →
        (s.elementAt j).bind Element.tie ≠ some t := by
      intro i j hij hj hi hj'
      have pair := List.pairwise_iff_getElem.1 h i j (by simpa using hij.trans hj) (by simpa using hj) hij
      simp only [List.getElem_range] at pair
      exact pair t hi t hj' rfl
    have hn := State.lt_of_elementAt he
    have hm := State.lt_of_elementAt hf
    rcases Nat.lt_or_gt_of_ne hne with lt | gt
    · exact apart n m lt hm (by rw [he]; exact hte) (by rw [hf]; exact htf)
    · exact apart m n gt hn (by rw [hf]; exact htf) (by rw [he]; exact hte)
  · intro h
    refine List.Pairwise.imp (fun {n m} (apart : n ≠ m) t ht u hu same => ?_) List.nodup_range
    subst same
    obtain ⟨e, he, hte⟩ := Option.bind_eq_some_iff.1 ht
    obtain ⟨f, hf, htf⟩ := Option.bind_eq_some_iff.1 hu
    exact apart (h n m e f t he hf hte htf)

/-- The checks in their order: CONFLICT for the first four, OUT_OF_RANGE for the fifth alone. -/
theorem State.checkCommit_spec (s : State) :
    (¬ (s.someDeclared ∧ s.pointsResolve ∧ s.nodesDistinct ∧ s.tiesUnique) → s.checkCommit = some .conflict) ∧
    (s.someDeclared → s.pointsResolve → s.nodesDistinct → s.tiesUnique →
      (¬ s.ownersExpected → s.checkCommit = some .outOfRange) ∧ (s.ownersExpected → s.checkCommit = none)) := by
  constructor
  · intro fails
    unfold State.checkCommit
    split_ifs with declared resolve distinct unique
    · rfl
    · rfl
    · rfl
    · rfl
    all_goals
      simp only [Bool.not_eq_true', Bool.not_eq_false, decide_eq_true_eq, s.someDeclared_iff, s.pointsResolve_iff,
        s.nodesDistinct_iff, s.tiesUnique_iff] at declared resolve distinct unique
      exact absurd ⟨declared, resolve, distinct, unique⟩ fails
  · intro declared resolve distinct unique
    have fifth : s.checkCommit =
        if (!s.present.all fun p => s.ownerCommits p.2) = true then some .outOfRange else none := by
      simp only [State.checkCommit, s.someDeclared_iff.2 declared, s.pointsResolve_iff.2 resolve,
        s.nodesDistinct_iff.2 distinct, s.tiesUnique_iff.2 unique, decide_true, Bool.not_true, Bool.false_eq_true,
        if_false]
    have unexpected : (!s.present.all fun p => s.ownerCommits p.2) = true ↔ ¬ s.ownersExpected := by
      rw [Bool.not_eq_true', ← Bool.not_eq_true, s.ownersExpected_iff]
    rw [fifth]
    exact ⟨fun h => if_pos (unexpected.2 h), fun h => if_neg (mt unexpected.1 (not_not.2 h))⟩

/-! ## The record (R5, R149, R150) -/

theorem exec_commit (f : RecordForm) (s : State) : exec (.commit f) s = .next (s.receiveRecord kindCommit
    (screen (formHolds kindCommit f) s.acceptsCommit true) State.takeCommit) := rfl

/-- What a successful commit writes before anything is re-formed. -/
def State.commitWrites (s : State) : State :=
  { s.epochStart .commit with
    station := { s.station with state := .ready }
    feed := ⟨.ready, some ⟨5, .taken, none, none⟩, none⟩
    elements := s.elements.mapIdx fun _ (e : Option Element) => e.map fun (x : Element) =>
      { x.epochStart with watch := .none }
    tx := { s.tx with sequence := 0 }
    delivery := { s.delivery with queue := [] }
    attention := { s.attention with mask := s.settings.initialMask } }

theorem State.commitAct_eq (s : State) : s.commitAct = s.commitWrites.settle s := rfl

section
variable {s : State} (h : s.RecordEnds)
include h

theorem State.exec_commit_wrongState (hl : s.station.state ≠ .loading) :
    exec (.commit ⟨0, 2⟩) s = .next (s.withAnswer 5 .refused (some .wrongState) none) := by
  obtain ⟨-, wrongState, -⟩ := s.receiveRecord_screened h kindCommit (formHolds kindCommit ⟨0, 2⟩) s.acceptsCommit true
    State.takeCommit
  rw [exec_commit, wrongState rfl (mt beq_iff_eq.1 hl)]
  rfl

variable (hl : s.station.state = .loading)
include hl

theorem State.exec_commit_checked : exec (.commit ⟨0, 2⟩) s = .next s.takeCommit := by
  have accepted : s.acceptsCommit = true := beq_iff_eq.2 hl
  have form : formHolds kindCommit ⟨0, 2⟩ = true := rfl
  rw [exec_commit, State.receiveRecord_passed h kindCommit form accepted rfl]

theorem State.exec_commit_refused {r : AnswerReason} (hc : s.checkCommit = some r) :
    exec (.commit ⟨0, 2⟩) s = .next (s.withAnswer 5 .refused (some r) none) := by
  rw [State.exec_commit_checked h hl, State.takeCommit, hc]
  rfl

/-- A COMMIT whose checks hold is the commit act alone where no command waits. -/
theorem State.exec_commit_taken (hc : s.checkCommit = none) (hi : s.console.inFlight = none) :
    exec (.commit ⟨0, 2⟩) s = .next s.commitAct := by
  have idle : s.commitAct.console.inFlight = none := by rw [s.commitAct_eq, State.settle_console]; exact hi
  rw [State.exec_commit_checked h hl, State.takeCommit, hc]
  exact congrArg _ (State.decideWaiting_none idle)

end

/-- Settles O25: outside LOADING the screening refuses; in LOADING the first check that fails gives the reason, and
where none does the commit act answers. -/
theorem commitChecksInOrder : Obligations.CommitChecksInOrder := by
  intro s h
  obtain ⟨conflict, pass⟩ := s.checkCommit_spec
  refine ⟨State.exec_commit_wrongState h, fun hl fails => State.exec_commit_refused h hl (conflict fails),
    fun hl declared resolve distinct unique unexpected =>
      State.exec_commit_refused h hl ((pass declared resolve distinct unique).1 unexpected),
    fun hl declared resolve distinct unique expected hi =>
      ⟨s.commitAct, State.exec_commit_taken h hl ((pass declared resolve distinct unique).2 expected) hi,
        s.commitWrites.settle_feed s, congrArg Station.state (s.commitWrites.settle_station s)⟩⟩

/-! ## What every block holds after a commit (R150) -/

theorem State.source_commitAct (s : State) (n : Nat) : s.commitAct.source n = (s.source n).epochStart :=
  State.source_of_mapIdx (s.commitWrites.settle_sources s) n

theorem State.elementAt_commitAct (s : State) (n : Nat) :
    s.commitAct.elementAt n = (s.elementAt n).map fun e => { e.epochStart with watch := .none } :=
  State.elementAt_of_mapIdx (s.commitWrites.settle_elements s) n

theorem State.peers_commitAct (s : State) : s.commitAct.peers = (s.epochStart .commit).peers :=
  s.commitWrites.settle_peers s

theorem State.peer_commitAct (s : State) {n : Nat} (hn : n < 16) :
    s.commitAct.peer n = (s.peer n).epochStart s.station.number s.settings.expectedMask n := by
  rw [State.peer_congr s.peers_commitAct, s.peer_epochStart .commit hn]

/-- No peer requests a hold yet, so START_PENDING is the only hold cause (R94, R104). -/
theorem State.clock_commitAct (s : State) : s.commitAct.clock = s.clock.epochStart s.settings.startTime := by
  have formed : s.commitAct.PeerHoldAgrees := (s.commitWrites.settle_agrees s).2.1
  have calm : s.commitAct.clock.causes.peer = false := by
    rw [← Bool.not_eq_true]
    intro requested
    obtain ⟨p, hp, -, hold⟩ := formed.1 requested
    rw [s.peers_commitAct] at hp
    cases (State.hold_of_mem_epochStart hp).symm.trans hold
  have clock := State.settle_clock_of_not_replaying (s := s.commitWrites) nofun rfl s
  rw [← State.commitAct_eq, calm] at clock
  exact clock

theorem State.settle_tx_frame (s b : State) : (s.settle b).tx = { s.tx with state := (s.settle b).tx.state } := by
  rw [State.settle_eq, State.wantFrame, State.retimed_spec]
  rfl

/-- With no frame sent in the epoch one is wanted, so an IDLE transmitter becomes WAITING (R60, condition 1). -/
theorem State.waiting_commitAct {s : State} (idle : s.tx.state = .idle) (hn : s.tx.lastSent = none) :
    s.commitAct.tx.state = .waiting := by
  have tx := State.settle_tx_of_none_sent (s := s.commitWrites) rfl hn s
  rw [← State.commitAct_eq] at tx
  rw [tx]
  exact if_pos idle

/-- Settles O26: the commit act block by block; what is re-formed after it touches the bounds, the LINK condition and
the transmitter alone. -/
theorem commitStartsTheEpoch : Obligations.CommitStartsTheEpoch := by
  intro s h hl declared resolve distinct unique expected hi
  have pass : s.checkCommit = none := (s.checkCommit_spec.2 declared resolve distinct unique).2 expected
  have attention := State.settle_attention_of_not_replaying (s := s.commitWrites) nofun s
  have islands : s.commitAct.islands = s.islands.epochStart .commit := s.commitWrites.settle_islands s
  rw [← State.commitAct_eq] at attention
  refine ⟨s.commitAct, State.exec_commit_taken h hl pass hi, s.commitWrites.settle_feed s,
    s.commitWrites.settle_station s, s.commitWrites.settle_settings s, s.commitWrites.settle_points s,
    fun n hn => ?_, fun n hn => ?_, fun n g b hn hg hb => ?_, fun n e he => ?_, fun n he => ?_,
    s.commitWrites.settle_pendingQueue s, s.commitWrites.settle_outgoing s, s.commitWrites.settle_remotes s,
    s.commitWrites.settle_timers s, s.commitWrites.settle_engine s, s.commitWrites.settle_processing s,
    fun n hn => s.peer_commitAct hn, s.commitWrites.settle_ownAnnounced s, (s.commitWrites.settle_agrees s).1,
    s.clock_commitAct, by rw [islands]; rfl, by rw [islands]; rfl, by rw [islands]; rfl,
    s.commitWrites.settle_tx_frame s, s.commitWrites.settle_rx s,
    s.commitWrites.settle_pending s, State.waiting_commitAct, s.commitWrites.settle_delivery s,
    s.commitWrites.settle_console s, by rw [attention]; rfl, by rw [attention]; rfl, by rw [attention]; rfl⟩
  · rw [s.source_commitAct, Source.epochStart_undeclared hn]
  · rw [s.source_commitAct, Source.epochStart_declared (by rw [hn]; nofun)]
  · rw [s.source_commitAct, Source.epochStart_declared (by rw [hn]; nofun), hg, hb]
    rfl
  · rw [s.elementAt_commitAct, he]
    rfl
  · rw [s.elementAt_commitAct, he]
    rfl

end Sys2Proof.Machine
end

section
/-! SUPPORT. POWER_ON_RESET and the machine right after reset (R146), and the statements on them (O2, O3). -/

namespace Sys2Proof.Machine

theorem exec_powerOnReset (straps : BitVec 4) (s : State) :
    exec (.powerOnReset straps) s = .next (s.powerOnAct straps) := rfl

theorem State.source_powerOn (straps n : Nat) : (State.powerOn straps).source n = Source.powerOn := by
  simp only [State.source, State.powerOn, Vector.getElem?_replicate]
  split <;> rfl

theorem State.elementAt_powerOn (straps n : Nat) : (State.powerOn straps).elementAt n = none := by
  simp only [State.elementAt, State.powerOn, Vector.getElem?_replicate]
  split <;> rfl

/-- Settles O2: each block is the one of `State.powerOn`, the tables entry by entry. -/
theorem powerOnResetGivesPowerOnValues : Obligations.PowerOnResetGivesPowerOnValues := by
  intro straps s
  exact ⟨s.powerOnAct straps, exec_powerOnReset straps s, rfl, rfl, rfl, State.source_powerOn straps.toNat, rfl,
    State.elementAt_powerOn straps.toNat, rfl, rfl, rfl, rfl, rfl, rfl, State.peer_powerOn straps.toNat, rfl, rfl, rfl,
    rfl, rfl, rfl, rfl, rfl, rfl, rfl⟩

/-! ## Right after reset -/

theorem State.listsSorted_reset : State.reset.ListsSorted := ⟨.nil, .nil, .nil, .nil⟩

theorem State.ordinalsFresh_reset : State.reset.OrdinalsFresh where
  next n o h := by
    rw [State.reset, State.source_powerOn] at h
    cases h
    exact Nat.zero_le max32
  pendingQueue := nofun
  outgoing := nofun
  intake := nofun

theorem State.withinCapacity_reset : State.reset.WithinCapacity where
  pendingQueue := Nat.zero_le _
  admitted := nofun
  outgoing := Nat.zero_le _
  admittedCopy := nofun
  remotes := Nat.zero_le _
  points := Nat.zero_le _
  timers := Nat.zero_le _
  timersShaped := ⟨nofun, .nil⟩
  delivery := Nat.zero_le _
  buffers := Nat.zero_le _

/-- Before the first commit the bounds are 0 with no limiting cause, as they are after reset (R76). -/
theorem State.boundsAgree_reset : State.reset.BoundsAgree := ⟨rfl, rfl, rfl⟩

/-- After reset no peer is counted, no command has held the clock and the transmitter has nothing to send. -/
theorem State.conditionsAgree_reset : State.reset.ConditionsAgree where
  silent _ := .inl rfl
  startPending := ⟨nofun, fun h => by rcases h with h | h <;> cases h⟩
  broadcastBreak := nofun
  peerHold := by
    rw [State.peerHoldAgrees_iff]
    refine ⟨nofun, fun ⟨n, counted, _⟩ => ?_⟩
    rw [State.reset, State.peer_powerOn] at counted
    cases counted
  link := by
    rw [State.linkAgrees_iff]
    refine ⟨nofun, ?_⟩
    rintro (muted | ⟨n, down⟩)
    · cases muted
    · rw [State.reset, State.peer_powerOn] at down
      rcases down with down | down <;> cases down
  stallTimer := ⟨nofun, fun h => by cases h.1.1⟩
  idle _ wanted := by cases wanted.1

theorem State.heldAgree_reset : State.reset.HeldAgree := ⟨nofun, fun _ => nofun⟩

theorem State.peersSound_reset : State.reset.PeersSound where
  timers n := by
    rw [State.reset, State.peer_powerOn]
    exact fun _ => rfl
  own := by rw [State.reset, State.peer_powerOn]; rfl
  frames f hf := by
    rcases hf with hf | ⟨pr, hpr, -⟩
    · cases hf
    · cases hpr

theorem State.horizonLaw_reset : State.reset.HorizonLaw where
  marked n opened := by
    rw [State.reset, State.source_powerOn] at opened
    cases opened
  watermark := nofun
  copies := nofun
  frameWatermark := nofun
  frameCopies := nofun
  frameAbove := nofun
  frameEpoch := nofun
  intake := nofun

theorem State.releasePointLaw_reset : State.reset.ReleasePointLaw where
  time := nofun
  pendingQueue := nofun
  remotes := nofun
  timers := nofun
  quiet := show 1 ≤ 5000 by decide

/-- With the straps at 0 and the ready signal withdrawn a power-on reset leaves the machine right after reset as it is
(log entries 3, 6, 31), so what every power-on reset establishes holds there. -/
theorem State.powerOnAct_reset : State.reset.powerOnAct 0 = State.reset := rfl

/-- Settles O3: after reset the lists are empty, the tables hold their power-on values and the station is out of
service. -/
theorem resetMeetsInvariants : Obligations.ResetMeetsInvariants := by
  obtain ⟨peerHold, link, silent, startPending, stallTimer, idle⟩ :=
    (State.conditionsAgree_iff _).1 State.conditionsAgree_reset
  obtain ⟨silence, own⟩ := (State.peersSound_iff _).1 State.peersSound_reset
  have times : State.reset.TimesInRange := State.powerOnAct_reset ▸ State.reset.timesInRange_powerOnAct 0
  have counters : State.reset.CountersAgree :=
    State.powerOnAct_reset ▸ State.CountersAgree.powerOnAct (s := State.reset) 0
  exact ⟨State.listsSorted_reset, State.ordinalsFresh_reset, State.withinCapacity_reset, times, State.boundsAgree_reset,
    peerHold, link, silent, startPending, State.heldAgree_reset, silence, own, stallTimer, idle, State.horizonLaw_reset,
    counters, State.releasePointLaw_reset, State.labelsAgree_of_unserved rfl⟩

end Sys2Proof.Machine
end

section
/-! SUPPORT. The step takes the command at the front of the queue (O1). -/

namespace Sys2Proof.Machine

/-- Settles O1: the two cases of the queue that the step matches on, a command at its front (`step_cons`) and none
(`step_nil`, log entry 1). -/
theorem stepRunsFrontCommand : Obligations.StepRunsFrontCommand :=
  ⟨fun _ _ _ => step_cons rfl, fun _ => step_nil⟩

end Sys2Proof.Machine
end
